-- ==== Sys2Proof/Word.lean ====
section
/-! DEFINITION. The word types of the GZ-880 model (R9, R100): plain abbreviations of bit vectors. -/

namespace Sys2Proof

/-- A byte of data space or staging (R41). -/
abbrev Byte := BitVec 8
/-- A 16-bit status code (R19). -/
abbrev Status := BitVec 16
/-- A 32-bit register, lane or handle (R13, R100, R103). -/
abbrev W32 := BitVec 32
/-- A 64-bit scalar register, mask register or counter (R100). -/
abbrev W64 := BitVec 64
/-- A 128-bit window value or bundle (R66, R93). -/
abbrev W128 := BitVec 128

end Sys2Proof
end

