-- ==== Sys2Proof/Syntax.lean ====
section
/-! DEFINITION. The commands of the block: one constructor for each row of spec/opcode_table.json, with the operands its rule names. -/

namespace Sys2Proof

/-- A context: a slot of a physical core of a region (R11, R100). -/
structure Ctx where
  region : Fin 8
  core : Fin 40
  slot : Fin 12
  deriving DecidableEq, Repr

/-- Who accesses the control space: each has its own holding register (R420). -/
inductive Requester where
  /-- an MBT session; `secured` is the port on which its frame arrived MACsec-protected (R402) -/
  | session (s : Fin 4096) (secured : Option (Fin 2))
  /-- the management bus (R517) -/
  | bus
  /-- a hub management processor -/
  | firmware (m : Fin 4)
  deriving DecidableEq, Repr

/-- The MACsec protection of a received frame (R401): its SA, packet number, and whether its integrity check passes. -/
structure SecTag where
  sa : Fin 8
  pn : BitVec 64
  intact : Bool
  deriving DecidableEq, Repr

/-- What every frame that reaches a port has below its EtherType (R397 to R401, R404, R427). -/
structure Envelope where
  port : Fin 2
  sub : Fin 2 := 0
  fcsOk : Bool := true
  /-- bytes, FCS included -/
  size : Nat := 64
  dstMac : BitVec 48
  /-- VID of its 802.1Q tag -/
  vid : Option (BitVec 12) := none
  sec : Option SecTag := none
  /-- codewords that the FEC corrected, and that it could not correct, since the frame before it -/
  fecCorrected : Nat := 0
  fecUncorrected : Nat := 0
  deriving DecidableEq, Repr

/-- A frame that reaches a port and carries a UDP datagram (R399, R404). -/
structure Frame extends Envelope where
  /-- an IP fragment, IPv4 options or IPv6 extension headers -/
  oddIp : Bool
  src : BitVec 128
  dst : BitVec 128
  srcPort : BitVec 16
  dstPort : BitVec 16
  /-- the UDP checksum, when present, is right -/
  checksumOk : Bool
  /-- the UDP payload -/
  data : List (BitVec 8)
  deriving DecidableEq, Repr

/-- A frame with an ICMP or ICMPv6 echo request (R397, R399). -/
structure EchoFrame extends Envelope where
  /-- an IP fragment, IPv4 options or IPv6 extension headers -/
  oddIp : Bool := false
  deriving DecidableEq, Repr

/-- A frame with a PTP message (R403). -/
structure PtpFrame extends Envelope where
  /-- 0 IEEE 802.3, 1 UDP on IPv4, 2 UDP on IPv6 -/
  transport : Fin 3
  deriving DecidableEq, Repr

/-- What one gauge measures (R477): slack in ps and ring-oscillator frequency in MHz. -/
structure Gauge where
  slack : BitVec 10
  mhz : BitVec 16
  deriving DecidableEq, Repr

/-- How a pile trains (R322, R323): the rows repaired for this cold start, and whether it fails. -/
structure PileTrain where
  repaired : List Nat
  failed : Bool
  /-- the authentication of the repair map's flash copy fails (R323) -/
  badMap : Bool := false
  deriving DecidableEq, Repr

/-- What a cold start meets (R497, R505, R515, R529): readings and outcomes of the module's hardware. -/
structure ColdEnv where
  /-- the input has risen above 52 V -/
  inRange : Bool
  /-- the cell fell out during the Off period -/
  cellLost : Bool
  /-- the HMAC of mirror copy 0 or 1 fails -/
  badCopy0 : Bool
  badCopy1 : Bool
  /-- the identity key is derived and unwrapped (R534) -/
  identity : Bool
  piles : List PileTrain
  /-- cores, region * 40 + core, that fail their built-in test -/
  badCores : List Nat
  /-- links or sublinks up, port * 2 + sublink -/
  links : List (Fin 4)
  /-- DT of a time source that locks within step 4 -/
  time : Option (BitVec 64)
  /-- ends of steps 1, 2, 3a, 3b, 3c and 4 in ms (R520) -/
  ms : List (BitVec 32)
  deriving DecidableEq, Repr

/-- What a wake from Pilot meets (R321, R503). -/
structure WakeEnv where
  /-- piles whose pattern fails, and those whose full calibration then fails too -/
  recalibrated : List (Fin 8)
  failed : List (Fin 8)
  /-- cores that fail the short built-in test -/
  badCores : List Nat
  /-- the wake takes longer than 150 ms -/
  slow : Bool
  deriving DecidableEq, Repr

/-- What hub firmware measures for the telemetry record (R496). -/
structure Readings where
  vin : BitVec 16
  pin : BitVec 12
  cd : BitVec 10
  piles : BitVec 9
  hub : BitVec 8
  cd0c : BitVec 8
  cd1c : BitVec 8
  hubc : BitVec 8
  deriving DecidableEq, Repr

/-- The commands: operations of the four slots of a bundle for a context `k`, and the events of the units. -/
inductive Instr where
  /-- NOP (R138): Slot C no-operation, optionally marking a switch point. -/
  | nop (k : Ctx) (sp : Bool)
  /-- ADD (R139): Scalar add of sa and sb into sd, wrapping. -/
  | add (k : Ctx) (sd sa sb : Fin 64)
  /-- SUB (R139): Scalar subtract of sb from sa into sd, wrapping. -/
  | sub (k : Ctx) (sd sa sb : Fin 64)
  /-- AND (R139): Scalar bitwise AND into sd. -/
  | andOp (k : Ctx) (sd sa sb : Fin 64)
  /-- OR (R139): Scalar bitwise OR into sd. -/
  | orOp (k : Ctx) (sd sa sb : Fin 64)
  /-- XOR (R139): Scalar bitwise XOR into sd. -/
  | xorOp (k : Ctx) (sd sa sb : Fin 64)
  /-- SHL (R139): Scalar shift left by sb[5:0]. -/
  | shl (k : Ctx) (sd sa sb : Fin 64)
  /-- SHR (R139): Scalar logical shift right by sb[5:0]. -/
  | shr (k : Ctx) (sd sa sb : Fin 64)
  /-- SRA (R139): Scalar arithmetic shift right by sb[5:0]. -/
  | sra (k : Ctx) (sd sa sb : Fin 64)
  /-- MUL (R139): Low 64 bits of the scalar product. -/
  | mul (k : Ctx) (sd sa sb : Fin 64)
  /-- MULHU (R139): High 64 bits of the unsigned 128-bit product. -/
  | mulhu (k : Ctx) (sd sa sb : Fin 64)
  /-- DIVU (R139): Unsigned division, with the R117 result for division by zero. -/
  | divu (k : Ctx) (sd sa sb : Fin 64)
  /-- REMU (R139): Unsigned remainder, with the R117 result for division by zero. -/
  | remu (k : Ctx) (sd sa sb : Fin 64)
  /-- MIN (R139): Signed minimum of sa and sb. -/
  | minOp (k : Ctx) (sd sa sb : Fin 64)
  /-- MAX (R139): Signed maximum of sa and sb. -/
  | maxOp (k : Ctx) (sd sa sb : Fin 64)
  /-- CMP_EQ (R139): Writes 1 when sa equals sb, otherwise 0. -/
  | cmpEq (k : Ctx) (sd sa sb : Fin 64)
  /-- CMP_LT (R139): Writes 1 when sa is less than sb, signed. -/
  | cmpLt (k : Ctx) (sd sa sb : Fin 64)
  /-- CMP_LTU (R139): Writes 1 when sa is less than sb, unsigned. -/
  | cmpLtu (k : Ctx) (sd sa sb : Fin 64)
  /-- ADDI (R139): Scalar add of a sign-extended immediate. -/
  | addi (k : Ctx) (sd sa : Fin 64) (imm : BitVec 12)
  /-- ANDI (R139): Scalar AND with a sign-extended immediate. -/
  | andi (k : Ctx) (sd sa : Fin 64) (imm : BitVec 12)
  /-- ORI (R139): Scalar OR with a sign-extended immediate. -/
  | ori (k : Ctx) (sd sa : Fin 64) (imm : BitVec 12)
  /-- XORI (R139): Scalar XOR with a sign-extended immediate. -/
  | xori (k : Ctx) (sd sa : Fin 64) (imm : BitVec 12)
  /-- SHLI (R139): Scalar shift left by an immediate. -/
  | shli (k : Ctx) (sd sa : Fin 64) (sh : Fin 64)
  /-- SHRI (R139): Scalar logical shift right by an immediate. -/
  | shri (k : Ctx) (sd sa : Fin 64) (sh : Fin 64)
  /-- SRAI (R139): Scalar arithmetic shift right by an immediate. -/
  | srai (k : Ctx) (sd sa : Fin 64) (sh : Fin 64)
  /-- MOVZ (R139): Sets sd to imm shifted to a 16-bit position. -/
  | movz (k : Ctx) (sd : Fin 64) (pos : Fin 4) (imm : BitVec 16)
  /-- MOVK (R139): Replaces one 16-bit field of sd and keeps the other bits. -/
  | movk (k : Ctx) (sd : Fin 64) (pos : Fin 4) (imm : BitVec 16)
  /-- B (R140): Unconditional branch; the target issues at i + 3. -/
  | b (k : Ctx) (target : Fin 16384)
  /-- BEQZ (R140): Branch when sa is zero. -/
  | beqz (k : Ctx) (sa : Fin 64) (target : Fin 16384)
  /-- BNEZ (R140): Branch when sa is not zero. -/
  | bnez (k : Ctx) (sa : Fin 64) (target : Fin 16384)
  /-- BLTZ (R140): Branch when sa is negative. -/
  | bltz (k : Ctx) (sa : Fin 64) (target : Fin 16384)
  /-- BGEZ (R140): Branch when sa is zero or positive. -/
  | bgez (k : Ctx) (sa : Fin 64) (target : Fin 16384)
  /-- CALL (R140): Pushes the return index and branches to the target. -/
  | call (k : Ctx) (target : Fin 16384)
  /-- RET (R140): Pops the call stack and returns. -/
  | ret (k : Ctx)
  /-- LOOP (R140): Starts a hardware loop whose count is taken from sa. -/
  | loop (k : Ctx) (sa : Fin 64) (target : Fin 16384)
  /-- GETC (R141): Copies a context constant into sd. -/
  | getc (k : Ctx) (sd : Fin 64) (num : Fin 16)
  /-- STEP_INC (R141): Increments the step counter and writes the new value to sd. -/
  | stepInc (k : Ctx) (sd : Fin 64)
  /-- STEP_RD (R141): Writes the step counter to sd. -/
  | stepRd (k : Ctx) (sd : Fin 64)
  /-- DRAIN (R107): Holds the context until all of its outstanding work has completed. -/
  | drain (k : Ctx)
  /-- END (R141): Stops the context's issue. -/
  | endOp (k : Ctx)
  /-- VNOP (R143): Slot V no-operation. -/
  | vnop (k : Ctx)
  /-- VADD (R144): Lane-wise vector add of the selected type. -/
  | vadd (k : Ctx) (vd va vb : Fin 64) (mk : Fin 16) (ty : Fin 4)
  /-- VSUB (R144): Lane-wise vector subtract. -/
  | vsub (k : Ctx) (vd va vb : Fin 64) (mk : Fin 16) (ty : Fin 4)
  /-- VMUL (R144): Lane-wise vector multiply. -/
  | vmul (k : Ctx) (vd va vb : Fin 64) (mk : Fin 16) (ty : Fin 4)
  /-- VFMA (R144): Lane-wise fused multiply-add, rounded once. -/
  | vfma (k : Ctx) (vd va vb : Fin 64) (mk : Fin 16) (ty : Fin 4)
  /-- VMIN (R144): Lane-wise minimum, with the NaN rules of R144. -/
  | vmin (k : Ctx) (vd va vb : Fin 64) (mk : Fin 16) (ty : Fin 4)
  /-- VMAX (R144): Lane-wise maximum, with the NaN rules of R144. -/
  | vmax (k : Ctx) (vd va vb : Fin 64) (mk : Fin 16) (ty : Fin 4)
  /-- VABS (R144): Lane-wise absolute value. -/
  | vabs (k : Ctx) (vd va : Fin 64) (mk : Fin 16) (ty : Fin 4)
  /-- VNEG (R144): Lane-wise negation. -/
  | vneg (k : Ctx) (vd va : Fin 64) (mk : Fin 16) (ty : Fin 4)
  /-- VAND (R144): Lane-wise bitwise AND. -/
  | vand (k : Ctx) (vd va vb : Fin 64) (mk : Fin 16)
  /-- VOR (R144): Lane-wise bitwise OR. -/
  | vor (k : Ctx) (vd va vb : Fin 64) (mk : Fin 16)
  /-- VXOR (R144): Lane-wise bitwise XOR. -/
  | vxor (k : Ctx) (vd va vb : Fin 64) (mk : Fin 16)
  /-- VSHL (R144): Lane-wise shift left. -/
  | vshl (k : Ctx) (vd va vb : Fin 64) (mk : Fin 16)
  /-- VSHR (R144): Lane-wise logical shift right. -/
  | vshr (k : Ctx) (vd va vb : Fin 64) (mk : Fin 16)
  /-- VSRA (R144): Lane-wise arithmetic shift right. -/
  | vsra (k : Ctx) (vd va vb : Fin 64) (mk : Fin 16)
  /-- VDIV (R144): Lane-wise floating division. -/
  | vdiv (k : Ctx) (vd va vb : Fin 64) (mk : Fin 16) (ty : Fin 4)
  /-- VSQRT (R144): Lane-wise floating square root. -/
  | vsqrt (k : Ctx) (vd va : Fin 64) (mk : Fin 16) (ty : Fin 4)
  /-- VEXP2 (R144): Lane-wise 2^x. -/
  | vexp2 (k : Ctx) (vd va : Fin 64) (mk : Fin 16) (ty : Fin 4)
  /-- VLOG2 (R144): Lane-wise log2. -/
  | vlog2 (k : Ctx) (vd va : Fin 64) (mk : Fin 16) (ty : Fin 4)
  /-- VMOV (R143): Lane-wise vector move. -/
  | vmov (k : Ctx) (vd va : Fin 64) (mk : Fin 16)
  /-- VPERM (R144): Lane permutation, vd[l] := va[vb[l] mod 64]. -/
  | vperm (k : Ctx) (vd va vb : Fin 64) (mk : Fin 16)
  /-- VIDX (R144): Writes rank × 64 + l into each lane. -/
  | vidx (k : Ctx) (vd : Fin 64) (mk : Fin 16)
  /-- VCMP_EQ (R144): Lane-wise equality comparison into a mask. -/
  | vcmpEq (k : Ctx) (md : Fin 16) (va vb : Fin 64) (mk : Fin 16) (ty : Fin 4)
  /-- VCMP_LT (R144): Lane-wise less-than comparison into a mask. -/
  | vcmpLt (k : Ctx) (md : Fin 16) (va vb : Fin 64) (mk : Fin 16) (ty : Fin 4)
  /-- VCMP_LE (R144): Lane-wise less-or-equal comparison into a mask. -/
  | vcmpLe (k : Ctx) (md : Fin 16) (va vb : Fin 64) (mk : Fin 16) (ty : Fin 4)
  /-- VBCAST (R144): Broadcasts sb[31:0] to the active lanes. -/
  | vbcast (k : Ctx) (vd sb : Fin 64) (mk : Fin 16)
  /-- VEXT (R144): Extracts one lane into sd. -/
  | vext (k : Ctx) (sd va sb : Fin 64)
  /-- VRSUM (R144): Wrapped 32-bit sum over the active lanes into sd. -/
  | vrsum (k : Ctx) (sd va : Fin 64) (mk : Fin 16)
  /-- VRMAX (R144): Largest value over the active lanes into sd. -/
  | vrmax (k : Ctx) (sd va : Fin 64) (mk : Fin 16) (ty : Fin 4)
  /-- MAND (R144): Mask AND under a mask. -/
  | mand (k : Ctx) (md ma mb mk : Fin 16)
  /-- MOR (R144): Mask OR under a mask. -/
  | mor (k : Ctx) (md ma mb mk : Fin 16)
  /-- MXOR (R144): Mask XOR under a mask. -/
  | mxor (k : Ctx) (md ma mb mk : Fin 16)
  /-- MANDN (R144): Mask AND-NOT under a mask. -/
  | mandn (k : Ctx) (md ma mb mk : Fin 16)
  /-- MSET (R144): Copies 64 bits of sb into a mask register. -/
  | mset (k : Ctx) (md : Fin 16) (sb : Fin 64)
  /-- MGET (R144): Copies a mask register into sd. -/
  | mget (k : Ctx) (sd : Fin 64) (ma : Fin 16)
  /-- MPOP (R144): Writes the population of a mask register to sd. -/
  | mpop (k : Ctx) (sd : Fin 64) (ma : Fin 16)
  /-- VCVT (R145): Type conversion between the VCVT type codes under a rounding mode. -/
  | vcvt (k : Ctx) (src dst : Fin 8) (vd va vb : Fin 64) (mk : Fin 16) (mode : Fin 4)
  /-- VMXQ (R146): Quantises 64 lanes into two MX blocks with their scale bytes. -/
  | vmxq (k : Ctx) (fmt : Fin 6) (fromBf16 : Bool) (vd va vb : Fin 64) (mk : Fin 16) (mode : Fin 4)
  /-- VPACK_4 (R144): Packs 4-bit elements of the lanes into a bit string. -/
  | vpack4 (k : Ctx) (vd va : Fin 64)
  /-- VPACK_6 (R144): Packs 6-bit elements of the lanes into a bit string. -/
  | vpack6 (k : Ctx) (vd va : Fin 64)
  /-- VPACK_8 (R144): Packs 8-bit elements of the lanes into a bit string. -/
  | vpack8 (k : Ctx) (vd va : Fin 64)
  /-- VUNPK_4 (R144): Unpacks 4-bit elements into the lanes. -/
  | vunpk4 (k : Ctx) (vd va : Fin 64)
  /-- VUNPK_6 (R144): Unpacks 6-bit elements into the lanes. -/
  | vunpk6 (k : Ctx) (vd va : Fin 64)
  /-- VUNPK_8 (R144): Unpacks 8-bit elements into the lanes. -/
  | vunpk8 (k : Ctx) (vd va : Fin 64)
  /-- FLK_RAW (R147): Writes native Flicker words to the active lanes. -/
  | flkRaw (k : Ctx) (vd va sb : Fin 64) (mk : Fin 16)
  /-- FLK_MASK (R147): Sets mask bits with probability p from native Flicker words. -/
  | flkMask (k : Ctx) (md : Fin 16) (va sb : Fin 64) (mk : Fin 16)
  /-- FLK_TRAW (R365): Writes table-mode Flicker words to the active lanes. -/
  | flkTraw (k : Ctx) (vd va sb : Fin 64) (mk : Fin 16)
  /-- FLK_TMASK (R365): Sets mask bits from table-mode Flicker words. -/
  | flkTmask (k : Ctx) (md : Fin 16) (va sb : Fin 64) (mk : Fin 16)
  /-- TNOP (R151): Slot T no-operation. -/
  | tnop (k : Ctx)
  /-- TOPEN (R152): Opens a chunk on a window set and sets its anchor from the span tags. -/
  | topen (k : Ctx) (fa fb : Fin 16) (w : Fin 8) (t : Fin 32) (s : Fin 64)
  /-- TDOT (R153): Dense tensor dot product into the open chunk. -/
  | tdot (k : Ctx) (w : Fin 8) (sa sb : Fin 64) (mk : Fin 16) (n1 : Fin 16)
  /-- TDOT_SP (R158): Sparse tensor dot product driven by a position list. -/
  | tdotSp (k : Ctx) (w : Fin 8) (sa sb : Fin 64) (mk : Fin 16)
  /-- TPRE (R157): Adds one preload element per active lane as a term. -/
  | tpre (k : Ctx) (w : Fin 8) (sa : Fin 64) (mk : Fin 16)
  /-- TCLOSE (R156): Closes a chunk and promotes its windows into the target Long Total. -/
  | tclose (k : Ctx) (w : Fin 8)
  /-- REPLAY_DONE (R156): A replay and its promotion complete and the replay hold ends. -/
  | replayDone (k : Ctx) (w : Fin 8) (cyc : Nat)
  /-- TROUND_NE (R81): Rounds a Long Total to nearest, ties to even, into one lane. -/
  | troundNe (k : Ctx) (vd : Fin 64) (t : Fin 32) (fo : Fin 8) (sk : Fin 64) (draw : Fin 16)
  /-- TROUND_RZ (R81): Rounds a Long Total toward zero into one lane. -/
  | troundRz (k : Ctx) (vd : Fin 64) (t : Fin 32) (fo : Fin 8) (sk : Fin 64) (draw : Fin 16)
  /-- TROUND_SR (R83): Rounds a Long Total stochastically with a Flicker word. -/
  | troundSr (k : Ctx) (vd : Fin 64) (t : Fin 32) (fo : Fin 8) (sk : Fin 64) (draw : Fin 16)
  /-- TADD (R79): Combines one Long Total into another exactly. -/
  | tadd (k : Ctx) (td ta : Fin 32)
  /-- TCLR (R160): Clears a Long Total. -/
  | tclr (k : Ctx) (td : Fin 32)
  /-- PLAIT (R328): Combines a Long Total over the core set, with the result at rank 0. -/
  | plait (k : Ctx) (td : Fin 32)
  /-- PLAIT_ALL (R328): Combines a Long Total over the core set and delivers the result to every rank. -/
  | plaitAll (k : Ctx) (td : Fin 32)
  /-- PLAIT_RECORD_RECEIVE (R336): A rank receives a Plait record, checks seq and step, and combines or forwards it. -/
  | plaitRecordReceive (k : Ctx) (sender : Nat) (seq : BitVec 32)
  /-- TOPK (R343): Merges candidates into a running top-k list with positions. -/
  | topk (k : Ctx) (vd va sb : Fin 64) (mk : Fin 16)
  /-- TEPI_ADD (R341): Element-wise add in the output stage. -/
  | tepiAdd (k : Ctx) (vd va : Fin 64) (mk : Fin 16) (ty : Fin 4)
  /-- TEPI_MUL (R341): Element-wise multiply in the output stage. -/
  | tepiMul (k : Ctx) (vd va : Fin 64) (mk : Fin 16) (ty : Fin 4)
  /-- TCOW (R161): Compress-on-write of one row segment with 8, 16 or 32-bit elements. -/
  | tcow (k : Ctx) (sd va sa : Fin 64) (mk : Fin 16) (esz : Fin 4)
  /-- TCOW_4 (R161): Compress-on-write of one row segment with 4-bit elements. -/
  | tcow4 (k : Ctx) (sd va sa : Fin 64) (mk : Fin 16)
  /-- TCOW_6 (R161): Compress-on-write of one row segment with 6-bit elements. -/
  | tcow6 (k : Ctx) (sd va sa : Fin 64) (mk : Fin 16)
  /-- TPRUNE_I (R161): Keep mask of the k largest I32 magnitudes per group. -/
  | tpruneI (k : Ctx) (md : Fin 16) (va : Fin 64) (mk : Fin 16) (mc : Fin 8) (kk : Fin 64)
  /-- TPRUNE_F (R161): Keep mask of the k largest FP32 magnitudes per group. -/
  | tpruneF (k : Ctx) (md : Fin 16) (va : Fin 64) (mk : Fin 16) (mc : Fin 8) (kk : Fin 64)
  /-- TPRUNE_BF (R161): Keep mask of the k largest BF16 magnitudes per group. -/
  | tpruneBf (k : Ctx) (md : Fin 16) (va : Fin 64) (mk : Fin 16) (mc : Fin 8) (kk : Fin 64)
  /-- TPRUNE_H (R161): Keep mask of the k largest FP16 magnitudes per group. -/
  | tpruneH (k : Ctx) (md : Fin 16) (va : Fin 64) (mk : Fin 16) (mc : Fin 8) (kk : Fin 64)
  /-- PLY_AND (R162): ANDs two bitmaps and returns the population. -/
  | plyAnd (k : Ctx) (sd sa sb : Fin 64)
  /-- PLY_POP (R162): Writes prefix population counts of a bitmap. -/
  | plyPop (k : Ctx) (sd sa sb : Fin 64)
  /-- PLY_CMP (R162): Turns a bitmap into a position list. -/
  | plyCmp (k : Ctx) (sd sa sb : Fin 64)
  /-- TMODE (R191): Chooses the dense or sparse path of a tile from its staged header. -/
  | tmode (k : Ctx) (sd sa : Fin 64)
  /-- SPLX_MERGE (R193): Merges two sorted index lists under a Splice descriptor. -/
  | splxMerge (k : Ctx) (sd sa : Fin 64)
  /-- SPLX_ISECT (R193): Intersects two sorted index lists under a Splice descriptor. -/
  | splxIsect (k : Ctx) (sd sa : Fin 64)
  /-- TALLY (R195): Counts index-list entries per bank and writes a tally record. -/
  | tally (k : Ctx) (sd sa : Fin 64)
  /-- MNOP (R164): Slot M no-operation. -/
  | mnop (k : Ctx)
  /-- LD_W (R165): 32-bit word load from a region store. -/
  | ldW (k : Ctx) (sd sa : Fin 64) (imm : BitVec 12) (late : Bool)
  /-- LD_D (R165): 64-bit load from a region store. -/
  | ldD (k : Ctx) (sd sa : Fin 64) (imm : BitVec 12) (late : Bool)
  /-- ST_W (R166): 32-bit store through the core's store queue. -/
  | stW (k : Ctx) (ss sa : Fin 64) (imm : BitVec 12)
  /-- ST_D (R166): 64-bit store through the core's store queue. -/
  | stD (k : Ctx) (ss sa : Fin 64) (imm : BitVec 12)
  /-- VLD (R165): Vector load of the active lanes from a region store. -/
  | vld (k : Ctx) (vd sa : Fin 64) (mk : Fin 16) (imm : BitVec 8) (late : Bool)
  /-- VST (R166): Vector store of the active lanes to a region store. -/
  | vst (k : Ctx) (vs sa : Fin 64) (mk : Fin 16) (imm : BitVec 8)
  /-- GATH (R203): Gathers one 32-bit word per active lane. -/
  | gath (k : Ctx) (vd va sb : Fin 64) (mk : Fin 16)
  /-- SCAT_ADD (R198): Scatters exact additions into an accumulator buffer. -/
  | scatAdd (k : Ctx) (vs va sb : Fin 64) (mk : Fin 16)
  /-- SCAT_ADDITION (R200): A bank performs one queued accumulator addition. -/
  | scatAddition (region : Fin 8) (bank : Fin 576)
  /-- TLDL (R164): Loads a Long Total record from a region store. -/
  | tldl (k : Ctx) (t : Fin 32) (sa : Fin 64) (imm : BitVec 12) (late : Bool)
  /-- TSTL (R164): Stores a Long Total record to a region store. -/
  | tstl (k : Ctx) (t : Fin 32) (sa : Fin 64) (imm : BitVec 12)
  /-- STORE_QUEUE_WRITE (R238): A queued store is performed at its bank and frees its store-queue entry. -/
  | storeQueueWrite (region : Fin 8) (core : Fin 40)
  /-- SLD (R168): Reads 256 bytes of staging into the active lanes. -/
  | sld (k : Ctx) (vd sa : Fin 64) (mk : Fin 16) (imm : BitVec 8)
  /-- SST (R168): Writes the active lanes to staging and marks the rows untagged. -/
  | sst (k : Ctx) (vs sa : Fin 64) (mk : Fin 16) (imm : BitVec 8)
  /-- STAG (R168): Recomputes the tags and format fields of staging rows. -/
  | stag (k : Ctx) (sb : Fin 64) (n1 : BitVec 8) (fmt : Fin 16)
  /-- ROW_LD (R169): Copies rows from a region store into staging and tags them. -/
  | rowLd (k : Ctx) (sa sb : Fin 64) (n1 : BitVec 8) (fmt : Fin 16)
  /-- ROW_ST (R169): Copies staging rows to a region store. -/
  | rowSt (k : Ctx) (sa sb : Fin 64) (n1 : BitVec 8)
  /-- FILL (R246): The store engine fills rows with a word. -/
  | fill (k : Ctx) (sa sb : Fin 64) (n1 : BitVec 8)
  /-- COPY (R246): The store engine copies rows with overlap-safe order. -/
  | copy (k : Ctx) (sa sb : Fin 64) (n1 : BitVec 8)
  /-- ROW_TRANSFER_DONE (R169): A row transfer, FILL or COPY signals completion to its context. -/
  | rowTransferDone (k : Ctx) (i : Nat)
  /-- ROW_WAIT (R169): Holds until every row transfer of the context has completed. -/
  | rowWait (k : Ctx)
  /-- COIL_TAKE (R253): Acquires a coil under the rank rule and writes a handle. -/
  | coilTake (k : Ctx) (c : Fin 16) (sa : Fin 64)
  /-- COIL_DROP (R253): Releases a coil handle. -/
  | coilDrop (k : Ctx) (c : Fin 16)
  /-- COIL_WAIT (R255): Holds until a coil has enough readable bytes. -/
  | coilWait (k : Ctx) (c : Fin 16) (sb : Fin 64)
  /-- COIL_PUSH (R254): Advances a coil's tail after the context's earlier writes. -/
  | coilPush (k : Ctx) (c : Fin 16) (sb : Fin 64)
  /-- COIL_POP (R254): Advances a coil's head after the context's earlier reads. -/
  | coilPop (k : Ctx) (c : Fin 16) (sb : Fin 64)
  /-- COIL_PTR (R170): Writes a coil's head to sd. -/
  | coilPtr (k : Ctx) (c : Fin 16) (sd : Fin 64)
  /-- COIL_TPTR (R170): Writes a coil's tail to sd. -/
  | coilTptr (k : Ctx) (c : Fin 16) (sd : Fin 64)
  /-- HITCH_OPEN (R257): Opens a hitch window from a descriptor and records the owner. -/
  | hitchOpen (k : Ctx) (h : Fin 16) (sa : Fin 64)
  /-- HITCH_CLOSE (R259): The owner closes its hitch window. -/
  | hitchClose (k : Ctx) (h : Fin 16)
  /-- HITCH_STAT (R259): Writes the bytes accepted into a window to sd. -/
  | hitchStat (k : Ctx) (h : Fin 16) (sd : Fin 64)
  /-- HITCH_EXPIRY (R259): DT reaches a window's expiry and the window closes. -/
  | hitchExpiry (region : Fin 8) (window : Fin 256)
  /-- STR_TAKE (R265): Takes a stream channel for the context. -/
  | strTake (k : Ctx) (q : Fin 8) (sa : Fin 64)
  /-- STR_ISSUE (R270): Arms a descriptor on a channel, or counts a refused re-arm. -/
  | strIssue (k : Ctx) (q : Fin 8) (sa : Fin 64)
  /-- STR_DROP (R265): Releases the context's hold on a channel. -/
  | strDrop (k : Ctx) (q : Fin 8)
  /-- STR_SHORT (R281): Queues a short-path transfer of up to 256 bytes. -/
  | strShort (k : Ctx) (sa sb : Fin 64)
  /-- SHORT_TRANSFER (R281): The region's short path starts and performs one queued transfer. -/
  | shortTransfer (region : Fin 8)
  /-- KNOT_REL (R274): Releases a knot of a channel. -/
  | knotRel (k : Ctx) (q : Fin 8) (knot : Fin 256)
  /-- KNOT_WAIT (R274): Holds until a knot is reached. -/
  | knotWait (k : Ctx) (q : Fin 8) (knot : Fin 256)
  /-- BLY_ARR (R275): Counts one arrival at a belay. -/
  | blyArr (k : Ctx) (b : Fin 64)
  /-- BLY_WAIT (R275): Holds until a belay has counted enough arrivals. -/
  | blyWait (k : Ctx) (b sb : Fin 64)
  /-- CSAVE (R123): Writes the context image of the whole task. -/
  | csave (k : Ctx) (sa : Fin 64)
  /-- FIXED_RESULT_VISIBLE (R96): A fixed-latency result becomes visible at its due issue cycle. -/
  | fixedResultVisible (k : Ctx)
  /-- HOLD_END (R106): A metered operation or awaited condition completes and the context's hold ends. -/
  | holdEnd (k : Ctx) (i cyc : Nat)
  /-- CONTEXT_SWITCH (R110): A held context at a switch point gives the core to the ready context with the earliest deadline. -/
  | contextSwitch (region : Fin 8) (core : Fin 40) (cyc : Nat)
  /-- SWITCH_DONE (R111): The 64-cyc exchange ends and the incoming context issues. -/
  | switchDone (region : Fin 8) (core : Fin 40)
  /-- SUBMIT (R389): A SUBMIT message is checked and evaluated by the Lamplighter. -/
  | submit (busy : Bool) (ns : BitVec 32)
  /-- TASK_BIND (R108): At a task's planned start, the device binds it to its cores and slots, or aborts it. -/
  | taskBind (task : BitVec 32)
  /-- SLOT_FREE (R109): A slot becomes free once all issued and cancelled work of its context has ended. -/
  | slotFree (k : Ctx)
  /-- RESULT_DIGEST (R454): After every rank reaches END, the device checks the result table, computes and writes the digest. -/
  | resultDigest (task : BitVec 32)
  /-- OVERRUN_CHECK (R392): DT reaches E − 2,000 ns for an unfinished task and the youngest overrunning task is aborted. -/
  | overrunCheck (task : BitVec 32)
  /-- OVERRUN_NEXT_ABORT (R392): 8 µs after an overrun abort, the next youngest overrunning task is aborted. -/
  | overrunNextAbort
  /-- OVERRUN_DEADLINE_ABORT (R392): An overrunning task still unfinished at deadline − 2,000 ns is aborted. -/
  | overrunDeadlineAbort (task : BitVec 32)
  /-- DESC_START (R273): A channel starts the next queued descriptor once earlier beats, knots and coil space allow. -/
  | descStart (region channel : Fin 8)
  /-- DESC_COMPLETE (R272): A descriptor's last byte is performed and its completion, knot and belay are written. -/
  | descComplete (region channel : Fin 8)
  /-- REMOTE_LIMIT_EXPIRY (R297): A remote block has not arrived within limit_us and the task faults with REMOTE_LATE. -/
  | remoteLimitExpiry (region channel : Fin 8) (block : Nat)
  /-- DREAD_SEGMENT_RECEIVE (R423): A DREAD response segment for a remote block arrives and is written into the hitch window. -/
  | dreadSegmentReceive
  /-- REMOTE_WRITE_ARRIVE (R258): A remote write's first beat reaches the store and is checked against the hitch windows. -/
  | remoteWriteArrive (i : Nat)
  /-- STORE_SCRUB_LINE (R248): A bank scrubs its next line when the scrub time falls due. -/
  | storeScrubLine (region : Fin 8) (bank : Fin 576)
  /-- STORE_ECC_ERROR (R247): A region store read meets a single-bit or uncorrectable error. -/
  | storeEccError (addr : Nat) (uncorrectable : Bool) (reader : BitVec 32)
  /-- STORE_CORRECTED_WRITEBACK (R247): The bank writes a corrected word back in its next free cyc. -/
  | storeCorrectedWriteback (region : Fin 8) (addr : Nat)
  /-- RN_BG_OFF_WRITE (R249): A write powers bank groups down or starts powering them up. -/
  | rnBgOffWrite (who : Requester) (region : Fin 8) (high : Bool) (value : BitVec 32)
  /-- BG_ZERO_DONE (R250): A group being powered up finishes its zero fill and clears its busy bit. -/
  | bgZeroDone (region : Fin 8) (group : Fin 72)
  /-- RN_COIL_CFG_WRITE (R252): A coil configuration write is applied or refused. -/
  | rnCoilCfgWrite (who : Requester) (region : Fin 8) (coil : Fin 512) (value : BitVec 32)
  /-- HITCH_CMD_OPEN (R257): The host opens hitch window k from its descriptor register. -/
  | hitchCmdOpen (who : Requester) (region : Fin 8) (window : Fin 256)
  /-- HITCH_CMD_CLOSE (R259): The host closes a host-opened hitch window. -/
  | hitchCmdClose (who : Requester) (region : Fin 8) (window : Fin 256)
  /-- BURST_LIMIT_EFFECT (R486): A pending burst-limit change takes effect once the earlier tasks have ended. -/
  | burstLimitEffect (addr : BitVec 32)
  /-- AR_CTL_WRITE (R486): A write of an arbiter's burst limit becomes pending. -/
  | arCtlWrite (who : Requester) (addr value : BitVec 32)
  /-- PILE_REFRESH (R309): The base die refreshes a bank within the refresh window. -/
  | pileRefresh (pile : Fin 8) (bank : Fin 3072)
  /-- PILE_NEIGHBOUR_REFRESH (R310): A row reaching 4,096 activations has its neighbours refreshed. -/
  | pileNeighbourRefresh (pile : Fin 8) (bank : Fin 3072) (row : Fin 8192)
  /-- PILE_SCRUB_UNIT (R312): The patrol scrub checks one 512-byte unit of a channel. -/
  | pileScrubUnit (pile : Fin 8) (channel : Fin 16)
  /-- PILE_CRC_FAIL (R311): An interface CRC fails and the transfer is retried once. -/
  | pileCrcFail (addr : Nat) (again : Bool) (reader : BitVec 32)
  /-- PILE_ECC_ERROR (R313): The base die's SECDED check finds a single-bit or uncorrectable error. -/
  | pileEccError (addr : Nat) (kind : Fin 3) (scrub : Bool) (reader : BitVec 32)
  /-- NMO_FILL (R316): PL_NMO_OP op 1 starts a near-memory fill. -/
  | nmoFill (who : Requester) (pile : Fin 8)
  /-- NMO_COPY (R316): PL_NMO_OP op 2 starts a near-memory copy. -/
  | nmoCopy (who : Requester) (pile : Fin 8)
  /-- NMO_COMPACT (R317): PL_NMO_OP op 3 starts compaction into bitmap-packed form. -/
  | nmoCompact (who : Requester) (pile : Fin 8)
  /-- NMO_EXPAND (R318): PL_NMO_OP op 4 starts expansion into dense form. -/
  | nmoExpand (who : Requester) (pile : Fin 8)
  /-- NMO_REFUSED_OP (R315): PL_NMO_OP op 5 to 7 starts nothing and sets nmo_refused. -/
  | nmoRefusedOp (who : Requester) (pile : Fin 8) (op : Fin 3)
  /-- NMO_DONE (R315): A near-memory operation completes and writes its status. -/
  | nmoDone (pile : Fin 8)
  /-- FRAME_RECEIVE (R399): A frame is received, filtered, decrypted and placed in the receive queue. -/
  | frameReceive (f : Frame)
  /-- RQ_DRAIN_WORD (R425): A reader takes a word from the receive queue and checks its parity. -/
  | rqDrainWord (port : Fin 2) (parityBad : Bool)
  /-- PFC_REPEAT (R426): The pause frame is repeated every half quanta period while the level stays high. -/
  | pfcRepeat (port : Fin 2)
  /-- PAUSE_RECEIVE (R414): A received PFC frame pauses transmission on a priority. -/
  | pauseReceive (env : Envelope) (classes : BitVec 8) (quanta : BitVec 16)
  /-- ARP_REQUEST (R397): The device answers an ARP request for its address. -/
  | arpRequest (env : Envelope) (target : BitVec 32) (sender : BitVec 32) (mac : BitVec 48)
  /-- NEIGHBOUR_SOLICIT (R397): The device answers an IPv6 neighbour solicitation. -/
  | neighbourSolicit (env : Envelope) (target sender : BitVec 128) (mac : BitVec 48)
  /-- ICMP_ECHO (R397): The device answers an ICMP or ICMPv6 echo request. -/
  | icmpEcho (frame : EchoFrame) (target sender : BitVec 128) (data : List (BitVec 8))
  /-- PTP_MESSAGE (R403): A PTP event message is timestamped and used to steer DT. -/
  | ptpMessage (frame : PtpFrame) (data : List (BitVec 8))
  /-- PTP_SOURCE_LOSS (R509): The time source is lost for 3 Sync intervals and DT enters holdover. -/
  | ptpSourceLoss
  /-- HOLDOVER_ALERT (R509): A holdover that lasts 60 s raises ALERT_N. -/
  | holdoverAlert
  /-- LINK_UP (R408): An Ethernet link or sublink comes up. -/
  | linkUp (port sub : Fin 2)
  /-- LINK_DOWN (R408): An Ethernet link goes down and sessions move their home port if needed. -/
  | linkDown (port sub : Fin 2)
  /-- OPEN (R410): An OPEN message binds, resumes or is rejected for a session. -/
  | openMsg
  /-- OPEN_ACK (R410): An OPEN_ACK moves an opening session to OPEN. -/
  | openAckMsg
  /-- CLOSE (R410): A CLOSE message closes a session. -/
  | closeMsg
  /-- ACK (R413): An ACK message releases acknowledged outgoing messages. -/
  | ackMsg
  /-- NAK (R413): A NAK message triggers resending from its number. -/
  | nakMsg
  /-- PING (R416): A PING is answered with its token and arrival DT. -/
  | pingMsg
  /-- REJECT (R416): A received REJECT message. -/
  | rejectMsg
  /-- UNKNOWN_MESSAGE (R415): An unlisted message type is rejected or discarded. -/
  | unknownMessage
  /-- RETRANSMIT_TIMER (R413): The oldest unacknowledged message goes 20 µs without an ack and is resent. -/
  | retransmitTimer (session : Fin 4096)
  /-- ACK_TIMER (R412): No message carried a newly advanced ack within 2 µs, so an ACK is sent. -/
  | ackTimer (session : Fin 4096)
  /-- OPEN_RETRY (R410): An opening session resends OPEN every 20 µs and closes after 8 tries. -/
  | openRetry (session : Fin 4096)
  /-- SUSPEND_TIMEOUT (R410): A suspended session closes after 2 ms. -/
  | suspendTimeout (session : Fin 4096)
  /-- MT_CMD_OPEN (R410): MT_CMD op 1 opens the selected session to the named peer. -/
  | mtCmdOpen (who : Requester) (port : Fin 2)
  /-- MT_CMD_CLOSE (R410): MT_CMD op 2 closes the selected session. -/
  | mtCmdClose (who : Requester)
  /-- CREAD (R419): Reads up to 256 control registers and returns them. -/
  | cread
  /-- CWRITE (R419): Writes up to 256 control registers in ascending order. -/
  | cwrite
  /-- DREAD (R421): Reads the data space and answers in response segments. -/
  | dread
  /-- DWRITE (R422): Checks and writes host data into a region store or a pile window. -/
  | dwrite
  /-- DWRITE_PERFORMED (R259): The last row of an accepted remote write is written and the response is sent. -/
  | dwritePerformed (i : Nat)
  /-- MARK (R494): An MBT MARK message requests a snapshot at a tick. -/
  | markMsg
  /-- DV_MARK_CMD_REQUEST (R494): A write of DV_MARK_CMD.request asks for a mark at the next tick. -/
  | dvMarkCmdRequest (who : Requester)
  /-- MARK_TICK (R493): At a requested tick every RO and W1C register latches into its shadow. -/
  | markTick
  /-- TELEMETRY_UPDATE (R496): Hub firmware rewrites the telemetry record every millisecond. -/
  | telemetryUpdate (r : Readings)
  /-- DV_TELE_SEQ_READ (R496): A read of DV_TELE_SEQ latches the telemetry record for the requester. -/
  | dvTeleSeqRead (who : Requester)
  /-- REG_LOW_READ (R14): Reading the low word of a 64-bit register latches its high word. -/
  | regLowRead (who : Requester) (addr : BitVec 32)
  /-- REG_LOW_WRITE (R14): A low-word write of a 64-bit register is held as pending. -/
  | regLowWrite (who : Requester) (addr value : BitVec 32)
  /-- REG_HIGH_WRITE (R14): A high-word write applies the pending low write with it, or the high word alone. -/
  | regHighWrite (who : Requester) (addr value : BitVec 32)
  /-- REG_WRITE (R15): A write to a register that has no row of its own, with its access-type effect. -/
  | regWrite (who : Requester) (addr value : BitVec 32)
  /-- HB_UNMAPPED_CLEAR (R50): Clears HB_UNMAPPED and HB_UNMAPPED_LAST. -/
  | hbUnmappedClear (who : Requester)
  /-- CO_ARITH_CLEAR (R91): Clears the arithmetic counters and sticky bits of a core. -/
  | coArithClear (who : Requester) (region : Fin 8) (core : Fin 40)
  /-- CO_SP_CLEAR (R209): Clears the core sparse counters and sticky bits. -/
  | coSpClear (who : Requester) (region : Fin 8) (core : Fin 40)
  /-- RN_SP_CLEAR (R210): Clears the region sparse counters and sticky bits. -/
  | rnSpClear (who : Requester) (region : Fin 8)
  /-- RN_BC_CLEAR (R229): Clears the region Beacon counters and sticky bits. -/
  | rnBcClear (who : Requester) (region : Fin 8)
  /-- RN_ST_CLEAR (R262): Clears the region store counters and W1C bits. -/
  | rnStClear (who : Requester) (region : Fin 8)
  /-- ST_CLEAR (R301): Clears a stream channel's counters and W1C bits. -/
  | stClear (who : Requester) (region channel : Fin 8)
  /-- PL_CLEAR (R324): Clears a pile's counters and W1C bits. -/
  | plClear (who : Requester) (pile : Fin 8)
  /-- CO_PL_CLEAR (R345): Clears a core's Plait counters and sticky bits. -/
  | coPlClear (who : Requester) (region : Fin 8) (core : Fin 40)
  /-- LL_CLEAR (R395): Clears the Lamplighter counters and W1C bits. -/
  | llClear (who : Requester)
  /-- ET_CLEAR (R427): Clears a port's Ethernet counters and W1C bits. -/
  | etClear (who : Requester) (port : Fin 2)
  /-- MT_CLEAR (R428): Clears the MBT counters and W1C bits. -/
  | mtClear (who : Requester)
  /-- TT_CLEAR (R455): Clears the Tether counters and W1C bits. -/
  | ttClear (who : Requester)
  /-- ER_STATE_CLEAR (R458): Clears an error record's overflow, corrected and fault counts. -/
  | erStateClear (who : Requester) (addr : BitVec 32)
  /-- AR_CLEAR (R488): Clears every counter of an arbiter record. -/
  | arClear (who : Requester) (addr : BitVec 32)
  /-- CO_PF_CLEAR (R492): Clears a core's performance counters. -/
  | coPfClear (who : Requester) (region : Fin 8) (core : Fin 40)
  /-- ET_MODE_WRITE (R398): A change of a port's mode drops and retrains its links. -/
  | etModeWrite (who : Requester) (port : Fin 2) (value : BitVec 32)
  /-- MT_PWIN_CTL_WRITE (R428): A pile-window control write is applied or ignored by its checks. -/
  | mtPwinCtlWrite (who : Requester) (window : Fin 16) (value : BitVec 32)
  /-- LL_REG_REGISTER (R369): LL_REG_CMD op 1 starts registration of a program image. -/
  | llRegRegister (who : Requester)
  /-- LL_REG_UNREGISTER (R370): LL_REG_CMD op 2 unregisters an image or fails. -/
  | llRegUnregister (who : Requester) (handle : BitVec 16)
  /-- REGISTRATION_DONE (R369): Registration checks end and the handle and status are written. -/
  | registrationDone
  /-- HB_FLK_CTL_COMMIT (R367): A commit of the shadow Flicker table becomes pending. -/
  | hbFlkCtlCommit (who : Requester)
  /-- FLK_TABLE_COPY (R367): Once no task is bound, the shadow table is copied into every region. -/
  | flkTableCopy
  /-- TT_PAIR_COMMIT (R431): Applies the staged pairing record as a seized setting. -/
  | ttPairCommit (who : Requester)
  /-- TT_CMD_RESUME (R441): The host resumes a rejoined pair on the primary. -/
  | ttCmdResume (who : Requester)
  /-- TT_CMD_REJOIN (R441): The host returns a FENCED module to SEEKING. -/
  | ttCmdRejoin (who : Requester)
  /-- JOIN (R441): A JOIN message is validated and roles are chosen. -/
  | joinMsg
  /-- FWD (R446): A replicated host message, ack or sent message arrives at the twin. -/
  | fwdMsg
  /-- TASK (R445): The twin binds or records a task accepted by the primary. -/
  | taskMsg
  /-- DIGEST (R447): A twin's digest arrives and the primary compares and completes the task. -/
  | digestMsg
  /-- STATE (R442): A twin's STATE message updates its resource inputs. -/
  | stateMsg
  /-- DETACH (R441): A DETACH with matching binding_id ends the pairing. -/
  | detachMsg
  /-- BEAT (R438): A heartbeat from the twin is received. -/
  | beatMsg (back : BitVec 64)
  /-- BEAT_SEND (R438): At each 8,000 ns multiple, the module sends a BEAT. -/
  | beatSend
  /-- BEAT_CHECK (R439): At each 8,000 ns multiple, a missing beat is recorded and the twin may be found lost. -/
  | beatCheck
  /-- SEEK_RETRY (R441): A SEEKING module retries opening session 4,095 every 10 ms. -/
  | seekRetry
  /-- SOLO_TIMEOUT (R441): 16 s after power-up a still SEEKING Lit module enters SOLO. -/
  | soloTimeout
  /-- COMPARE_TIMEOUT (R447): compare_ns passes with no twin digest and the primary sends DONE unmirrored. -/
  | compareTimeout (task : BitVec 32)
  /-- PAIR_READY (R441): A joined pair meets the offset, freshness and STATE conditions and starts replication. -/
  | pairReady
  /-- LANE_SINGLE_BIT (R463): A lane corrects a single-bit error. -/
  | laneSingleBit (region : Fin 8) (core : Fin 40) (lane : Fin 64) (item : BitVec 64)
  /-- LANE_UNCORRECTABLE (R25): An uncorrectable window error triggers an error replay or escalation. -/
  | laneUncorrectable (k : Ctx) (w : Fin 8) (lane : Fin 64)
  /-- CORE_SINGLE_BIT (R463): A core corrects a single-bit error in staging, registers or buffers. -/
  | coreSingleBit (region : Fin 8) (core : Fin 40) (unit : BitVec 32) (item : BitVec 64)
  /-- CORE_ERROR (R465): An uncorrectable core error or lane escalation starts core handling. -/
  | coreError (region : Fin 8) (core : Fin 40) (unit : BitVec 32) (item : BitVec 64)
  /-- CORE_SELF_CHECK_DONE (R465): The core self-check ends and the core returns to service or asks to be snuffed. -/
  | coreSelfCheckDone (region : Fin 8) (core : Fin 40) (passed : Bool)
  /-- SPARE_TEST_DONE (R474): A spare's built-in test ends and the logical index is remapped or the next spare tried. -/
  | spareTestDone (region : Fin 8) (index : Fin 36) (passed : Bool)
  /-- REMAP_BUSY_END (R31): 2 ms after a snuff the Lamplighter stops treating the core as busy. -/
  | remapBusyEnd (region : Fin 8) (index : Fin 36)
  /-- REGION_UNIT_FAULT (R466): A channel, short-path, queue or table fault starts region recovery. -/
  | regionUnitFault (region : Fin 8) (unit : BitVec 32)
  /-- REGION_RECOVERY_DONE (R466): Region recovery tests end and the region returns to service or is fenced. -/
  | regionRecoveryDone (region : Fin 8) (badCores : List (Fin 40)) (passed : Bool)
  /-- SLICE_FAULT (R467): A crossbar slice fault fences the slice onto the row path. -/
  | sliceFault (region : Fin 8) (slice : Fin 4)
  /-- LINK_REPLAY (R40): A die-link unit fails its CRC and is replayed. -/
  | linkReplay (link : Fin 3)
  /-- LINK_DOUBLE_FAIL (R469): A die-link unit fails twice and link recovery starts. -/
  | linkDoubleFail (link : Fin 3)
  /-- LINK_RETRAIN_DONE (R469): Link retraining ends and the link returns to service. -/
  | linkRetrainDone (passed : Bool)
  /-- HUB_FAULT (R475): An uncorrectable hub SRAM, watchdog or Lamplighter fault enters Safe Hold. -/
  | hubFault (unit : BitVec 32)
  /-- PLL_UNLOCK (R507): The main PLL loses lock and the device enters Safe Hold. -/
  | pllUnlock
  /-- POWER_STAGE_FAULT (R463): A power-stage fault enters Safe Hold. -/
  | powerStageFault (value : BitVec 64)
  /-- TAPER_RUN (R477): A taper run starts after period_h hours. -/
  | taperRun (region : Fin 8)
  /-- TP_CMD_RUN (R477): A write of TP_CMD.run starts a taper run. -/
  | tpCmdRun (who : Requester) (region : Fin 8)
  /-- TAPER_MEASURE_DONE (R477): A 1 ms slack measurement ends and the run steps voltage, requests a notch, or ends. -/
  | taperMeasureDone (region : Fin 8) (g0 g1 g2 g3 : Gauge)
  /-- NOTCH_EFFECT (R394): A pending frequency notch takes effect when every task that would miss has ended. -/
  | notchEffect (region : Fin 8)
  /-- COLD_START (R505): The input rises through 44 V or RESET_N is released and the cold start sequence runs to Lit. -/
  | coldStart (env : ColdEnv)
  /-- INPUT_RISE_SLOW (R497): The input has not risen above 52 V within 1 s of passing 44 V. -/
  | inputRiseSlow
  /-- INPUT_UNDERVOLT (R497): The input lies from 44 V to 52 V for 50 µs and the device enters Safe Hold. -/
  | inputUndervolt (mv : BitVec 64)
  /-- INPUT_OVERVOLT (R497): The input lies from 60 V to 66 V for 50 µs and the device enters Safe Hold. -/
  | inputOvervolt (mv : BitVec 64)
  /-- INPUT_OFF (R497): The input falls below 44 V or exceeds 66 V for 10 µs and the module goes Off. -/
  | inputOff
  /-- PWR_WARN_ASSERT (R499): PWR_WARN_N asserts and the device enters Safe Hold and flushes the mirror. -/
  | pwrWarnAssert
  /-- RESET_ASSERT (R516): RESET_N asserts; tasks are aborted and every domain but always-on is reset. -/
  | resetAssert
  /-- THROTTLE_ASSERT (R512): THROTTLE_N asserts and PW_THROTTLE.regions joins the throttle mask. -/
  | throttleAssert
  /-- THROTTLE_RELEASE (R515): THROTTLE_N releases and the mask is removed unless stuck. -/
  | throttleRelease
  /-- THROTTLE_GATE (R512): A masked region with no bound task has its core and stream domains gated. -/
  | throttleGate (region : Fin 8)
  /-- PIN_RATE_WINDOW_END (R514): A 1 ms rate window ends and a deferred level change is acted on. -/
  | pinRateWindowEnd (pin : Fin 4)
  /-- PIN_STUCK (R515): An input stays active beyond its stuck limit. -/
  | pinStuck (pin : Fin 4)
  /-- PPS_EDGE (R510): A rising edge on PPS_IN aligns DT or is rejected. -/
  | ppsEdge
  /-- POWER_OVER_TDP (R500): Mean input power over 1 s exceeds 2,300 W. -/
  | powerOverTdp
  /-- POWER_OVER_PEAK (R500): Mean input power over 20 ms exceeds 2,800 W and the device enters Safe Hold. -/
  | powerOverPeak (value : BitVec 64)
  /-- TEMP_HOT (R500): A die's hottest point reaches 100 °C. -/
  | tempHot
  /-- TEMP_CRITICAL (R500): A die's hottest point reaches 110 °C and the device enters Safe Hold. -/
  | tempCritical (value : BitVec 64)
  /-- PILE_OVERHEAT (R309): A pile layer exceeds 105 °C and its region joins the internal throttle mask. -/
  | pileOverheat (pile : Fin 8) (layer : Fin 12) (temp : BitVec 8)
  /-- PILE_COOLED (R500): Every layer of an overheated pile falls to 95 °C and its region leaves the mask. -/
  | pileCooled (pile : Fin 8) (layer : Fin 12) (temp : BitVec 8)
  /-- PILE_HOT_WINDOW (R309): A pile's hottest layer crosses 85 °C and the refresh window changes. -/
  | pileHotWindow (pile : Fin 8) (layer : Fin 12) (temp : BitVec 8)
  /-- CELL_LOW (R522): The lithium cell falls below its threshold and ALERT_N is raised. -/
  | cellLow
  /-- PW_CMD_PILOT (R502): A Pilot request sets pilot_pending and stops admission. -/
  | pwCmdPilot (who : Requester)
  /-- PILOT_ENTRY (R502): Once every accepted task has ended, the device enters Pilot. -/
  | pilotEntry
  /-- PW_CMD_WAKE (R503): A wake request brings the device from Pilot to Lit. -/
  | pwCmdWake (env : WakeEnv)
  /-- CK_DT_SET_WRITE (R511): A write of CK_DT_SET before Lit sets DT for free running. -/
  | ckDtSetWrite (who : Requester) (value : BitVec 64)
  /-- SMB_WRITE32 (R517): Management-bus command 0x01 performs one control-space write. -/
  | smbWrite32 (addr value : BitVec 32)
  /-- SMB_SET_ADDR (R517): Management-bus command 0x02 sets the read address. -/
  | smbSetAddr (addr : BitVec 32)
  /-- SMB_READ32 (R517): Management-bus command 0x03 reads a register and advances the address. -/
  | smbRead32
  /-- SC_STAGE_FIRMWARE (R532): SC_CMD op 1 checks and stages a firmware image into the idle slot. -/
  | scStageFirmware (who : Requester)
  /-- SC_QUOTE (R535): SC_CMD op 2 produces a signed attestation quote. -/
  | scQuote (who : Requester)
  /-- SC_CHALLENGE (R537): SC_CMD op 3 writes a fresh debug unlock challenge. -/
  | scChallenge (who : Requester)
  /-- SC_RELOCK (R537): SC_CMD op 4 relocks debug at once. -/
  | scRelock (who : Requester)
  /-- SC_COMMAND_DONE (R535): A running security command completes and writes SC_RESULT. -/
  | scCommandDone (entropy : List (BitVec 8))
  /-- SC_ARB_ADVANCE (R533): SC_ARB_CMD.advance raises the anti-rollback counter as a seized change. -/
  | scArbAdvance (who : Requester)
  /-- SC_OWNER_COMMIT (R536): SC_OWNER_COMMIT sets or clears the owner key digest as a seized change. -/
  | scOwnerCommit (who : Requester)
  /-- SC_DBG_UNLOCK (R537): SC_DBG_CMD.unlock verifies the challenge signature and unlocks debug. -/
  | scDbgUnlock (who : Requester)
  /-- SEIZED_CHANGE_APPLY (R528): A seized change is written to a mirror copy, read back, then applied to the store. -/
  | seizedChangeApply
  /-- EM_SAVE_NET (R525): EM_CMD.save_net copies the network settings into the Ember store. -/
  | emSaveNet (who : Requester)
  /-- MIRROR_WRITE (R527): Within 20 ms of a change, the lower-seq flash mirror copy is rewritten. -/
  | mirrorWrite
  /-- SLICE_FENCE_DONE (R464): The slice fence completes within 100 µs and closes the region's handling window. -/
  | sliceFenceDone (region : Fin 8)
  /-- PWR_WARN_RELEASE (R515): PWR_WARN_N is released; during a cold start this lets the device pass step 2. -/
  | pwrWarnRelease
  /-- INPUT_ABOVE_52V (R497): The input first rises above 52 V and a cold start held in step 1 continues. -/
  | inputAbove52v
  /-- PAUSE_QUANTA_EXPIRY (R397): The pause time of a received PFC frame runs out and transmission on that priority resumes. -/
  | pauseQuantaExpiry (port : Fin 2) (classes : BitVec 8)
  /-- CK_FREE_RUN_SET (R511): A write of CK_TIME_CFG.free_run before Lit ends cold-start step 4 at once and sets no_lock. -/
  | ckFreeRunSet (who : Requester)
  deriving DecidableEq, Repr

end Sys2Proof
end

