-- ==== Sys2Proof/WellFormed.lean ====
section
/-! DEFINITION. Which commands are well formed: an operation of a slot whose encoding R133 leaves undefined is not. -/

namespace Sys2Proof

/-- Whether a command names a defined encoding. Only the operations listed here have operand values that their tables do not allow. -/
def Instr.wellFormed : Instr → Bool
  | .getc _ _ num => decide (num.val ≤ 10)
  | .vfma _ _ _ _ _ ty => decide (ty.val ≠ 0)
  | .vdiv _ _ _ _ _ ty => decide (ty.val ≠ 0)
  | .vsqrt _ _ _ _ ty => decide (ty.val ≠ 0)
  | .vexp2 _ _ _ _ ty => decide (ty.val ≠ 0)
  | .vlog2 _ _ _ _ ty => decide (ty.val ≠ 0)
  | .vrmax _ _ _ _ ty => decide (ty.val ≤ 1)
  | .vcvt _ src dst _ _ _ _ mode => decide (src ≠ dst) && decide (src.val ≠ 7) && decide (dst.val ≠ 7) && decide (mode.val ≠ 3)
  | .vmxq _ _ _ _ _ _ _ mode => decide (mode.val ≠ 3)
  | .flkRaw _ _ va _ _ => decide (va.val % 2 = 0)
  | .flkTraw _ _ va _ _ => decide (va.val % 2 = 0)
  | .flkMask _ _ va _ _ => decide (va.val % 2 = 0)
  | .flkTmask _ _ va _ _ => decide (va.val % 2 = 0)
  | .topen _ fa fb _ _ _ => decide (fa.val ≤ 12) && decide (fb.val ≤ 12)
  | .troundNe _ _ _ fo _ draw => decide (fo.val ≤ 6) && decide (draw.val = 0)
  | .troundRz _ _ _ fo _ draw => decide (fo.val ≤ 6) && decide (draw.val = 0)
  | .troundSr _ _ _ fo _ _ => decide (fo.val ≤ 6)
  | .tcow _ _ _ _ _ esz => decide (esz.val ≤ 2)
  | .tpruneI _ _ _ _ mc kk => decide (mc.val ≤ 4) && decide (1 ≤ kk.val) && decide (kk.val < 4 * 2 ^ mc.val)
  | .tpruneF _ _ _ _ mc kk => decide (mc.val ≤ 4) && decide (1 ≤ kk.val) && decide (kk.val < 4 * 2 ^ mc.val)
  | .tpruneBf _ _ _ _ mc kk => decide (mc.val ≤ 4) && decide (1 ≤ kk.val) && decide (kk.val < 4 * 2 ^ mc.val)
  | .tpruneH _ _ _ _ mc kk => decide (mc.val ≤ 4) && decide (1 ≤ kk.val) && decide (kk.val < 4 * 2 ^ mc.val)
  | .stag _ _ _ fmt => decide (fmt.val ≠ 14)
  | .rowLd _ _ _ _ fmt => decide (fmt.val ≠ 14)
  | _ => true

end Sys2Proof
end

