-- ==== Sys2Proof/Decode.lean ====
section
/-! DEFINITION. The command that a word of the opcode table spells: no row of the table gives its command any bits (log 7). -/

namespace Sys2Proof

/-- The command that a word spells by the table's bits: the table spells none by bits. -/
def decodeTableWord (_nbits _w : Nat) : Option Instr := none

end Sys2Proof
end

