-- ==== Sys2Proof/Machine/Sparse.lean ====
section
/-! DEFINITION. Canonical sparse maps from addresses to values: the form in which the model holds memory, control-space words,
cores and sessions, with the little-endian byte accessors built on a byte-reading function. -/

namespace Sys2Proof.Machine

/-- A sparse map: pairs with strictly rising keys, none equal to what its key reads as when unlisted. -/
abbrev Sparse (α : Type) := List (Nat × α)

/-- The value at key `k`; a key that is not listed before the first greater key reads as `d k`. -/
def sget {α : Type} (d : Nat → α) : Sparse α → Nat → α
  | [], k => d k
  | (j, v) :: m, k => if j = k then v else if k < j then d k else sget d m k

/-- Put `v` at key `k` before a list whose keys are all greater, or drop it when it equals the default. -/
def sput {α : Type} [DecidableEq α] (d : Nat → α) (k : Nat) (v : α) (m : Sparse α) : Sparse α :=
  if v = d k then m else (k, v) :: m

/-- Write `v` at key `k`, keeping the canonical form. -/
def sset {α : Type} [DecidableEq α] (d : Nat → α) : Sparse α → Nat → α → Sparse α
  | [], k, v => sput d k v []
  | (j, w) :: m, k, v =>
    if k < j then sput d k v ((j, w) :: m)
    else if k = j then sput d k v (m.dropWhile fun p => decide (p.1 ≤ k))
    else (j, w) :: sset d m k v

/-- Change the value at key `k`. -/
def smod {α : Type} [DecidableEq α] (d : Nat → α) (m : Sparse α) (k : Nat) (f : α → α) : Sparse α :=
  sset d m k (f (sget d m k))

/-- Every listed key is at least `b`, the keys rise strictly and no entry equals its default. -/
def swfFrom {α : Type} [DecidableEq α] (d : Nat → α) : Nat → Sparse α → Bool
  | _, [] => true
  | b, (j, v) :: m => decide (b ≤ j) && decide (v ≠ d j) && swfFrom d (j + 1) m

/-- The canonical form of a sparse map. -/
def swf {α : Type} [DecidableEq α] (d : Nat → α) (m : Sparse α) : Bool := swfFrom d 0 m

/-- The element of a list at an index, or a default. -/
def nth {α : Type} (l : List α) (i : Nat) (x : α) : α := l.getD i x

/-- Replace the element of a list at an index; an index outside the list changes nothing. -/
def put {α : Type} (l : List α) (i : Nat) (x : α) : List α := l.set i x

/-- Apply a function at one index of a list. -/
def at_ {α : Type} (l : List α) (i : Nat) (f : α → α) : List α := l.modify i f

/-- The numbers from 0 to `n - 1`. -/
abbrev upto (n : Nat) : List Nat := List.range n

/-- Round a quotient up. -/
def ceilDiv (a b : Nat) : Nat := (a + b - 1) / b

/-! ### Little-endian accessors over a byte-reading function -/

/-- The number whose `n` little-endian bytes stand at `a`. -/
def leNat (rd : Nat → Byte) (a : Nat) : Nat → Nat
  | 0 => 0
  | n + 1 => (rd a).toNat + 256 * leNat rd (a + 1) n

/-- The `n` little-endian bytes of a number. -/
def leBytes (v : Nat) : Nat → List Byte
  | 0 => []
  | n + 1 => BitVec.ofNat 8 v :: leBytes (v / 256) n

/-- The number that a list of little-endian bytes holds. -/
def ofBytes : List Byte → Nat
  | [] => 0
  | b :: bs => b.toNat + 256 * ofBytes bs

/-- The bytes of a list read as a function of the address; bytes past the end read 0. -/
def bytesAt (l : List Byte) (a : Nat) : Byte := l.getD a 0

/-- The `n` bytes that stand at `a`. -/
def readBytes (rd : Nat → Byte) (a n : Nat) : List Byte := (upto n).map fun i => rd (a + i)

/-- Bits `hi` to `lo` of a number. -/
def field (v hi lo : Nat) : Nat := v / 2 ^ lo % 2 ^ (hi + 1 - lo)

/-- Bit `i` of a number. -/
def bit (v i : Nat) : Bool := Nat.testBit v i

/-- Replace bits `hi` to `lo` of a number by `x` modulo the field's size. -/
def setField (v hi lo x : Nat) : Nat :=
  v - field v hi lo * 2 ^ lo + x % 2 ^ (hi + 1 - lo) * 2 ^ lo

/-- The two's complement reading of the low `w` bits of a number. -/
def signed (w v : Nat) : Int :=
  let x := v % 2 ^ w
  if x < 2 ^ (w - 1) then (x : Int) else (x : Int) - 2 ^ w

/-- The low `w` bits of the two's complement of an integer. -/
def unsigned (w : Nat) (v : Int) : Nat := (v % (2 ^ w : Int)).toNat

/-- The bit length: the smallest `n` with `m < 2 ^ n`. -/
def bitLen (m : Nat) : Nat := if m = 0 then 0 else m.log2 + 1

/-- The number of set bits among the low `w` bits of a number. -/
def popcount (w v : Nat) : Nat := (upto w).foldl (fun n i => if bit v i then n + 1 else n) 0

/-- Saturate a count of `w` bits. -/
def satTo (w n : Nat) : Nat := min n (2 ^ w - 1)

end Sys2Proof.Machine
end

