-- ==== Sys2Proof/Machine/Formats.lean ====
section
/-! DEFINITION. Element formats (R56 to R60, R136), exact decoding into sign, magnitude and exponent, and the one rounding of an
exact magnitude onto a format's grid (R81, R82, R145). -/

namespace Sys2Proof.Machine

/-- A decoded number (R56): `fin s m q` is (-1)^s * m * 2^q. -/
inductive Num where
  | fin (neg : Bool) (m : Nat) (q : Int)
  | inf (neg : Bool)
  | nan
  deriving DecidableEq, Repr

/-- The shape of a binary floating format: exponent bits, fraction bits, bias, and which special encodings it has (R56). -/
structure FpShape where
  ebits : Nat
  fbits : Nat
  bias : Nat
  hasInf : Bool
  /-- the all-ones exponent and fraction is NaN though there is no infinity (E4M3) -/
  topNaN : Bool
  deriving DecidableEq, Repr

/-- Total bits of a floating format. -/
def FpShape.width (f : FpShape) : Nat := 1 + f.ebits + f.fbits

/-- The exponent of the smallest subnormal: q_min of R56. -/
def FpShape.qmin (f : FpShape) : Int := 1 - (f.bias : Int) - f.fbits

/-- The code of the largest finite magnitude. -/
def FpShape.maxCode (f : FpShape) : Nat :=
  if f.hasInf then (2 ^ f.ebits - 1) * 2 ^ f.fbits - 1
  else if f.topNaN then 2 ^ (f.ebits + f.fbits) - 2
  else 2 ^ (f.ebits + f.fbits) - 1

/-- The canonical NaN (R81). -/
def FpShape.nanCode (f : FpShape) : Nat :=
  if f.hasInf then (2 ^ f.ebits - 1) * 2 ^ f.fbits + 2 ^ (f.fbits - 1) else 2 ^ (f.ebits + f.fbits) - 1

/-- The code of positive infinity of a format that has one. -/
def FpShape.infCode (f : FpShape) : Nat := (2 ^ f.ebits - 1) * 2 ^ f.fbits

/-- FP32, IEEE 754 binary32 (R56). -/
def fp32 : FpShape := ⟨8, 23, 127, true, false⟩
/-- FP16, IEEE 754 binary16 (R56). -/
def fp16 : FpShape := ⟨5, 10, 15, true, false⟩
/-- BF16 (R56). -/
def bf16 : FpShape := ⟨8, 7, 127, true, false⟩
/-- FP8 E4M3 (R56). -/
def e4m3 : FpShape := ⟨4, 3, 7, false, true⟩
/-- FP8 E5M2 (R56). -/
def e5m2 : FpShape := ⟨5, 2, 15, true, false⟩
/-- FP6 E3M2 (R56). -/
def e3m2 : FpShape := ⟨3, 2, 3, false, false⟩
/-- FP6 E2M3 (R56). -/
def e2m3 : FpShape := ⟨2, 3, 1, false, false⟩
/-- FP4 E2M1 (R56). -/
def e2m1 : FpShape := ⟨2, 1, 1, false, false⟩

/-- Decode a floating encoding (R56). Negative zero decodes as zero magnitude with its sign. -/
def fpDecode (f : FpShape) (x : Nat) : Num :=
  let s := bit x (f.ebits + f.fbits)
  let e := field x (f.ebits + f.fbits - 1) f.fbits
  let m := x % 2 ^ f.fbits
  if f.hasInf && e == 2 ^ f.ebits - 1 then (if m = 0 then .inf s else .nan)
  else if f.topNaN && e == 2 ^ f.ebits - 1 && m == 2 ^ f.fbits - 1 then .nan
  else if e = 0 then .fin s m f.qmin
  else .fin s (2 ^ f.fbits + m) ((e : Int) - f.bias - f.fbits)

/-- Decode a two's complement integer of `w` bits with exponent `q` (R56). -/
def intDecode (w : Nat) (q : Int) (x : Nat) : Num :=
  let n := signed w x
  .fin (decide (n < 0)) n.natAbs q

/-- Decode an element of the format with code `c` of R136, by R56. Codes 0xD to 0xF name no element format and read as zero. -/
def elemDecode (c x : Nat) : Num :=
  match c with
  | 0 => intDecode 8 0 x
  | 1 => intDecode 4 0 x
  | 2 => fpDecode e4m3 x
  | 3 => fpDecode e5m2 x
  | 4 => fpDecode fp16 x
  | 5 => fpDecode bf16 x
  | 6 => fpDecode fp32 x
  | 7 => fpDecode e4m3 x
  | 8 => fpDecode e5m2 x
  | 9 => fpDecode e3m2 x
  | 10 => fpDecode e2m3 x
  | 11 => fpDecode e2m1 x
  | 12 => intDecode 8 (-6) x
  | _ => .fin false 0 0

/-- The width in bits of an element of format code `c` (R57, R136). -/
def elemBits (c : Nat) : Nat :=
  match c with
  | 1 => 4
  | 4 => 16
  | 5 => 16
  | 6 => 32
  | 9 => 6
  | 10 => 6
  | 11 => 4
  | _ => 8

/-- The MX element formats of R136. -/
def isMx (c : Nat) : Bool := decide (7 ≤ c) && decide (c ≤ 12)

/-- The bound e_b of R56. -/
def elemBound (c : Nat) : Int :=
  match c with
  | 0 => 8
  | 1 => 4
  | 2 => 9
  | 3 => 16
  | 4 => 16
  | 5 => 128
  | 6 => 128
  | 7 => 9
  | 8 => 16
  | 9 => 5
  | 10 => 3
  | 11 => 3
  | 12 => 2
  | _ => 0

/-- The operand pairs that a tensor dot multiplies (R58). -/
def pairAllowed (a b : Nat) : Bool :=
  (decide (a ≤ 1) && decide (b ≤ 1)) ||
  ((a == 2 || a == 3) && (b == 2 || b == 3)) ||
  (a == 4 && b == 4) || (a == 5 && b == 5) || (a == 6 && b == 6) ||
  (isMx a && isMx b)

/-- Products per lane per cyc (R65). -/
def pairRate (a b : Nat) : Nat :=
  if a == 6 && b == 6 then 4
  else if (a == 4 && b == 4) || (a == 5 && b == 5) then 16
  else if (decide (elemBits a < 8) || decide (elemBits b < 8)) && elemBits a != 8 && elemBits b != 8 then 128
  else 64

/-- Group size (R65). -/
def pairGroup (a b : Nat) : Nat :=
  if a == 6 && b == 6 then 4 else if (a == 4 && b == 4) || (a == 5 && b == 5) then 8 else 16

/-- The tensor-array cycles d of a dense product of `n` units of 512 elements (R154). -/
def dotCycles (a b n : Nat) : Nat := max 1 (ceilDiv (512 * n) (64 * pairRate a b))

/-- The unpacked bits of element `k` of width `w` in a little-endian bit string that starts at byte `base` (R57). -/
def packedBits (rd : Nat → Byte) (base w k : Nat) : Nat :=
  let b := w * k
  leNat rd (base + b / 8) (w / 8 + 2) / 2 ^ (b % 8) % 2 ^ w

/-- The smallest integer E with |x| < 2^E, of a finite non-zero number (R70). -/
def numExp (m : Nat) (q : Int) : Int := q + bitLen m

/-! ### Rounding -/

/-- The rounding modes of R82. -/
inductive Rnd where
  | ne | rz | sr
  deriving DecidableEq, Repr

/-- The rounding mode of a 2-bit field (R142): 0 NE, 1 RZ, 2 SR. -/
def rndOf (c : Nat) : Rnd := match c with | 1 => .rz | 2 => .sr | _ => .ne

/-- Divide `m * 2^s` by 1 for `s >= 0`, or floor and remainder for `s < 0`: the integer part, the remainder and the unit of the remainder. -/
def shiftSplit (m : Nat) (s : Int) : Nat × Nat × Nat :=
  if 0 ≤ s then (m * 2 ^ s.toNat, 0, 1)
  else
    let u := 2 ^ (-s).toNat
    (m / u, m % u, u)

/-- Choose between L (false) and U (true) for the fraction `rem / unit` strictly between the grid points (R82, R83). -/
def roundsUp (mode : Rnd) (odd : Bool) (rem unit : Nat) (r : Nat) : Bool :=
  if rem = 0 then false
  else match mode with
    | .rz => false
    | .ne => decide (2 * rem > unit) || (decide (2 * rem = unit) && odd)
    | .sr => decide (rem * 2 ^ 32 / unit > r)

/-- The result of rounding a magnitude: its code and whether it was saturated in the sense of R84. -/
structure Rounded where
  code : Nat
  sat : Bool
  deriving DecidableEq, Repr

/-- Round the exact magnitude m * 2^q onto the grid of a floating format (R81, R82): the magnitude code without its sign. -/
def fpRound (f : FpShape) (mode : Rnd) (r : Nat) (m : Nat) (q : Int) : Rounded :=
  if m = 0 then ⟨0, false⟩
  else
    let e := q + bitLen m - 1
    let topE : Int := ((f.maxCode / 2 ^ f.fbits : Nat) : Int) - f.bias
    let ulp := min (max (e - f.fbits) f.qmin) (topE - f.fbits)
    let (c, rem, unit) := shiftSplit m (q - ulp)
    let base := (ulp - f.qmin).toNat * 2 ^ f.fbits
    let low := base + c
    if low < f.maxCode || (low == f.maxCode && rem == 0) then
      ⟨if roundsUp mode (c % 2 == 1) rem unit r then low + 1 else low, false⟩
    else if !f.hasInf then ⟨f.maxCode, true⟩
    else
      -- above the largest finite: L is the largest finite value and U the point above it (R82)
      let lmax := f.maxCode - base
      let excess := (c - lmax) * unit + rem
      let up := match mode with
        | .rz => false
        | .ne => decide (2 * excess ≥ unit)
        | .sr => decide (excess * 2 ^ 32 / unit > r)
      if up then ⟨f.infCode, false⟩ else ⟨f.maxCode, true⟩

/-- Attach the sign bit to a magnitude code. -/
def withSign (f : FpShape) (neg : Bool) (code : Nat) : Nat :=
  if neg then code + 2 ^ (f.ebits + f.fbits) else code

/-- Round an exact magnitude to an integer of `w` bits, saturating (R81, R82, R145). The value is the `w`-bit two's complement code. -/
def intRound (w : Nat) (mode : Rnd) (r : Nat) (neg : Bool) (m : Nat) (q : Int) : Rounded :=
  let (c, rem, unit) := shiftSplit m q
  let lim := if neg then 2 ^ (w - 1) else 2 ^ (w - 1) - 1
  if c > lim || (c == lim && rem != 0) then ⟨unsigned w (if neg then -(lim : Int) else lim), true⟩
  else
    let v := if roundsUp mode (c % 2 == 1) rem unit r then c + 1 else c
    ⟨unsigned w (if neg then -(v : Int) else v), false⟩

/-- Round a decoded number into a floating format under a conversion's rules: infinities and NaN by the format (R82, R84, R145). -/
def numToFp (f : FpShape) (mode : Rnd) (r : Nat) : Num → Nat
  | .nan => f.nanCode
  | .inf s => withSign f s (if f.hasInf then f.infCode else f.maxCode)
  | .fin s m q => withSign f s (fpRound f mode r m q).code

/-- Round a decoded number into an integer of `w` bits (R145): NaN gives 0 and infinities saturate. -/
def numToInt (w : Nat) (mode : Rnd) (r : Nat) : Num → Nat
  | .nan => 0
  | .inf s => unsigned w (if s then -(2 ^ (w - 1) : Int) else 2 ^ (w - 1) - 1)
  | .fin s m q => (intRound w mode r s m q).code

end Sys2Proof.Machine
end

