-- ==== Sys2Proof/Machine/Bounds.lean ====
section
/-! DEFINITION. The timing record and the bound formulas of the Lamplighter (R372 to R384, R207, R299, R331): pure functions of the record's
bytes, the metadata quantities and the loads that the accepted set brings. -/

namespace Sys2Proof.Machine

/-- A timing record, as its little-endian bytes. -/
abbrev TRec := List Byte

/-- The number of `n` bytes at offset `o` of a record. -/
def TRec.u (r : TRec) (o n : Nat) : Nat := leNat (bytesAt r) o n

/-- The strict flag of a record (R208, R372). -/
def TRec.strict (r : TRec) : Bool := bit (r.u 10 2) 0
/-- The number of variants. -/
def TRec.variants (r : TRec) : Nat := r.u 12 2
/-- Offset of variant entry `v` (R373). -/
def TRec.var (r : TRec) (v : Nat) : Nat := r.u 24 4 + 128 * v
/-- Offset of footprint entry `i` (R374). -/
def TRec.fp (r : TRec) (i : Nat) : Nat := r.u 28 4 + 80 * i
/-- Offset of phase entry `i` (R375). -/
def TRec.ph (r : TRec) (i : Nat) : Nat := r.u 32 4 + 32 * i
/-- Offset of term entry `i` (R376). -/
def TRec.tm (r : TRec) (i : Nat) : Nat := r.u 36 4 + 48 * i
/-- G: the longest run of issue cycles between two switch points. -/
def TRec.segMax (r : TRec) : Nat := r.u 40 4
/-- The largest d_chunk of any chunk. -/
def TRec.dMax (r : TRec) : Nat := r.u 44 4
/-- The kind of a variant: 0 ordinary, 1 reshaping. -/
def TRec.varKind (r : TRec) (v : Nat) : Nat := r.u (r.var v) 1
/-- The global logical cores of a variant, ascending: rank r is the r-th (R108, R373). -/
def TRec.varCores (r : TRec) (v : Nat) : List Nat := (upto 288).filter fun g => bit (r.u (r.var v + 8 + g / 8) 1) (g % 8)
/-- The channels a variant declares, as region * 8 + channel. -/
def TRec.varChannels (r : TRec) (v : Nat) : List Nat := (upto 64).filter fun c => bit (r.u (r.var v + 44 + c / 8) 1) (c % 8)
/-- The phases of a variant in order, the prologue of a reshaping variant first when it runs. -/
def TRec.varPhases (r : TRec) (v : Nat) : List Nat := (upto (r.u (r.var v + 4) 2)).map fun i => r.u (r.var v + 2) 2 + i
/-- The prologue phase of a reshaping variant. -/
def TRec.varPrologue (r : TRec) (v : Nat) : List Nat := if r.varKind v = 1 then [r.u (r.var v + 74) 2] else []
/-- The terms of a phase. -/
def TRec.phTerms (r : TRec) (p : Nat) : List Nat := (upto (r.u (r.ph p + 8) 2)).map fun i => r.u (r.ph p + 4) 4 + i
/-- The footprint of a phase, when it declares one. -/
def TRec.phFp (r : TRec) (p : Nat) : Option Nat := let f := r.u (r.ph p + 10) 2; if f = 0xFFFF then none else some f
/-- Whether a footprint names group `g` of region `n`, numbered 72 * n + g. -/
def TRec.fpGroup (r : TRec) (f i : Nat) : Bool := bit (r.u (r.fp f + i / 8) 1) (i % 8)
/-- Parameter `i` (1 to 6) of a term. -/
def TRec.p (r : TRec) (t i : Nat) : Nat := r.u (r.tm t + 4 + 4 * i) 4
/-- The kind of a term. -/
def TRec.tmKind (r : TRec) (t : Nat) : Nat := r.u (r.tm t) 1
/-- The metadata slot of a term, if it names one. -/
def TRec.tmSlot (r : TRec) (t : Nat) : Option Nat := let s := r.u (r.tm t + 2) 2; if s = 0xFFFF then none else some s
/-- Occurrences of a term. -/
def TRec.tmC (r : TRec) (t : Nat) : Nat := r.u (r.tm t + 4) 4
/-- The resource mask of a stream term (R381). -/
def TRec.tmRes (r : TRec) (t : Nat) : Nat := r.u (r.tm t + 32) 4
/-- The stream resources that a term names. -/
def TRec.tmXs (r : TRec) (t : Nat) : List Nat := (upto 28).filter fun x => bit (r.tmRes t) x

/-- A metadata slot as the Lamplighter read it (R379): type, quantity q, and the tile headers and rp[rows] read for terms. -/
structure SlotVal where
  type : Nat := 0
  q : Nat := 0
  /-- pops of the tile headers that TILES terms read, by tile -/
  pops : Sparse Nat := []
  /-- rp[rows], when a PARTITION term uses the slot -/
  rpLast : Nat := 0
  /-- a header or entry read for a term failed -/
  bad : Bool := false
  deriving DecidableEq, Repr

/-- The surroundings in which a bound is evaluated. -/
structure EvalEnv where
  rowOnly : Bool
  /-- every value of B_w that governs or is pending at the regions of a phase -/
  bw : List Nat
  /-- combined narrow and wide requesters of a phase (R383) -/
  k : Nat
  w : Nat
  cores : List Nat
  slots : List SlotVal
  deriving DecidableEq, Repr

/-- The contract latency L_w of a distance code (R33). -/
def latW (x : Nat) : Nat := match x with | 0 => 10 | 1 => 26 | _ => 52
/-- L_r: 12 cyc in the own region when the program carries row_only (R244). -/
def latR (rowOnly : Bool) (x : Nat) : Nat := if x = 0 && rowOnly then 12 else latW x
/-- The distance code between two regions. -/
def distCode (a b : Nat) : Nat := if a = b then 0 else if a / 4 = b / 4 then 1 else 2
/-- The contract latency between two global logical cores. -/
def latCores (a b : Nat) : Nat := latW (distCode (a / 36) (b / 36))

/-- Rounds of a Plait tree of `n` ranks: the smallest D with 2^D at least n (R328). -/
def plaitRounds (n : Nat) : Nat := if n ≤ 1 then 0 else (n - 1).log2 + 1
/-- L_j: the largest contract latency over the pairs of round j (R331). -/
def plaitLat (cores : List Nat) (j : Nat) : Nat :=
  (upto cores.length).foldl (fun m r => if r % 2 ^ (j + 1) = 2 ^ j then max m (latCores (nth cores r 0) (nth cores (r - 2 ^ j) 0)) else m) 0
/-- t_P (R331). -/
def plaitT (cores : List Nat) : Nat := 4 + (upto (plaitRounds cores.length)).foldl (fun s j => s + plaitLat cores j + 6) 0
/-- t_PA (R331). -/
def plaitTA (cores : List Nat) : Nat := plaitT cores + (upto (plaitRounds cores.length)).foldl (fun s j => s + plaitLat cores j + 2) 0

/-- The charge of one tile (R207). -/
def tileCharge (D pop : Nat) : Nat := if pop ≥ 2048 then D else max (ceilDiv (D * pop) 4096) (ceilDiv D 8) + 24
/-- The partitioned-phase bound (R207). -/
def partCharge (Z u n g : Nat) : Nat :=
  if n = 1 then ceilDiv (Z * u) (2 ^ 16) else ceilDiv ((ceilDiv Z n + g - 1) * u) (2 ^ 16) + 40 * (n - 1)
/-- The largest value of a charge over the values of B_w. -/
def overBw (bw : List Nat) (f : Nat → Nat) : Nat := bw.foldl (fun m b => max m (f b)) 0

/-- The charge of a row transfer of `n` rows (R239). -/
def rowCharge (e : EvalEnv) (l n : Nat) : Nat := overBw e.bw fun b => l + ceilDiv n b * e.w * (b + 1)
/-- I_st of R299 for `n` rows, which is below 0 when no wide requester competes; 0 when rows is 0 (R382). -/
def istCharge (e : EvalEnv) (n : Nat) : Int := if n = 0 then 0 else (overBw e.bw fun b => ceilDiv n b * e.w * (b + 1)) - n

/-- The quantity of a term: from its slot, or `dflt` without one. -/
def TRec.tmQ (r : TRec) (t : Nat) (e : EvalEnv) (dflt : Nat) : Nat :=
  match r.tmSlot t with | none => dflt | some s => (nth e.slots s {}).q
/-- min(a, m) with the tally of a slot; unbounded without one (R196). -/
def TRec.tmTally (r : TRec) (t : Nat) (e : EvalEnv) (a : Nat) : Nat :=
  match r.tmSlot t with | none => a | some s => min a (nth e.slots s {}).q

/-- The charge of a compute term (R380). -/
def TRec.charge (r : TRec) (t : Nat) (e : EvalEnv) : Nat :=
  let c := r.tmC t
  let p := r.p t
  let slot := (r.tmSlot t).elim {} fun s => nth e.slots s {}
  match r.tmKind t with
  | 0x01 => c * p 1
  | 0x02 => c * overBw e.bw fun b => (b + 1) * e.k
  | 0x03 => c * rowCharge e (latR e.rowOnly (p 2)) (p 1)
  | 0x04 => c * rowCharge e (latR e.rowOnly (p 2)) (2 * p 1)
  | 0x05 => c * (p 1 + 40)
  | 0x06 => c * (p 1 + latW (p 2) + 2)
  | 0x07 => c * (p 1 + 106)
  | 0x09 => c * (ceilDiv (p 1) 512 + 6)
  | 0x0A => c * (ceilDiv (r.tmQ t e (p 1)) 16 + 32)
  | 0x0B => c * (ceilDiv (r.tmQ t e (p 1)) 16 + 40)
  | 0x0C => c * (latW (p 2) + r.tmTally t e (p 1) + 2)
  | 0x0D => c * (latW (p 2) + p 4 * r.tmTally t e (p 1 * p 3) + 4)
  | 0x0E => c * (max (ceilDiv (p 1) (64 * p 3)) (ceilDiv (p 2) (512 * p 3)) + 6)
  | 0x10 => c * (upto (p 3)).foldl (fun s i => s + tileCharge (p 1) (sget (fun _ => 0) slot.pops (p 2 + i))) 0
  | 0x11 => c * min (ceilDiv (p 1 * slot.q) 2048 + p 3 * (ceilDiv (p 1) 8 + 25)) (p 3 * max (p 1) (ceilDiv (p 1) 2 + 24))
  | 0x12 => c * partCharge slot.rpLast (p 1) e.cores.length (2 ^ p 2)
  | 0x13 => c * (if p 1 = 0 then plaitT e.cores else plaitTA e.cores)
  | 0x14 => c * (slot.q * p 1)
  | _ => 0

/-- The rate of a stream resource in bytes per cyc (R283, R381). -/
def resRate (x : Nat) : Nat :=
  if x < 8 then 1280 else if x < 24 then 512 else if x = 24 then 2000 else if x < 27 then 500 else 512

/-- The bytes a stream term moves (R382). -/
def TRec.bytes (r : TRec) (t : Nat) (e : EvalEnv) : Nat := r.p t 4 + r.p t 6 * r.tmQ t e 0

/-- T_s of a stream term (R382), for the bytes `O x` that other tasks move over a resource and its burst limit `B x`. -/
def TRec.streamCharge (r : TRec) (t : Nat) (e : EvalEnv) (O B : Nat → Nat) : Int :=
  ((4 + r.p t 3 + (r.p t 1 + r.p t 2 * r.tmQ t e 0) +
    (r.tmXs t).foldl (fun s x => s + ceilDiv (r.p t 5 + O x) (resRate x) + B x) 0 : Nat) : Int) + istCharge e (r.u (r.tm t + 36) 4)

/-- C_p without the shared charge (R384). -/
def TRec.phCompute (r : TRec) (p : Nat) (e : EvalEnv) : Nat :=
  (r.phTerms p).foldl (fun s t => s + r.charge t e) (r.u (r.ph p) 4)

/-- P_p (R384). -/
def TRec.phBound (r : TRec) (p : Nat) (e : EvalEnv) (shared : Bool) (O B : Nat → Nat) : Nat :=
  let C := r.phCompute p e + (if shared then 128 * r.u (r.ph p + 12) 4 else 0)
  (r.phTerms p).foldl (fun m t => if r.tmKind t = 0x20 then max m (r.streamCharge t e O B + r.u (r.tm t + 40) 4).toNat else m) C + 2

/-- S: the switch points of a variant's phases. -/
def TRec.varS (r : TRec) (v : Nat) : Nat := (r.varPhases v).foldl (fun s p => s + r.u (r.ph p + 12) 4) 0

/-- B_ns (R384). -/
def boundNs (cyc f : Nat) : Nat := ceilDiv (cyc * 1000) f + 2000

end Sys2Proof.Machine
end

