-- ==== Sys2Proof/Machine/Exact.lean ====
section
/-! DEFINITION. Window accumulators, chunks, drop summaries, Long Totals and their final rounding (R61 to R85). -/

namespace Sys2Proof.Machine

/-- A window's state (R67), without the fields that belong to the whole set (target). -/
structure Window where
  value : W128 := 0
  /-- signed wrap count, two's complement of two bits -/
  wrap : BitVec 2 := 0
  anchor : BitVec 16 := 0
  terms : Nat := 0
  drops : Nat := 0
  nan : Bool := false
  posInf : Bool := false
  negInf : Bool := false
  isOpen : Bool := false
  replayDue : Bool := false
  replayed : Bool := false
  target : Fin 32 := 0
  /-- largest e of R64, signed; 0x8000 when none -/
  pmax : BitVec 16 := 0x8000
  deriving DecidableEq, Repr

/-- A Long Total (R77). -/
structure LongTotal where
  value : BitVec 640 := 0
  nan : Bool := false
  posInf : Bool := false
  negInf : Bool := false
  dropSat : Bool := false
  /-- the top of the drop summary, signed; 0x8000 when none -/
  dropTop : BitVec 16 := 0x8000
  replays : W32 := 0
  bins : List (BitVec 40) := List.replicate 8 0
  deriving DecidableEq, Repr

/-- The Long Total of value 0, drop_top 0x8000 and every other field 0 (R108, R160). -/
def LongTotal.zero : LongTotal := {}

/-- The window of R108: pmax 0x8000 and all other fields 0. -/
def Window.zero : Window := {}

/-- The exact running sum that a window represents, in units of 2^(A - 104) (R66). -/
def Window.total (w : Window) : Int := w.value.toInt + w.wrap.toInt * 2 ^ 128

/-- Add to a window's value, keeping value + wrap * 2^128 equal to the true sum (R64). -/
def Window.addUnits (w : Window) (t : Int) : Window :=
  let s := w.total + t
  let v : W128 := BitVec.ofInt 128 s
  { w with value := v, wrap := BitVec.ofInt 2 ((s - v.toInt) / 2 ^ 128) }

/-- A term of a window (R62, R64): a product or a preload, already decoded. -/
abbrev Term := Num

/-- Add one finite term: the procedure of R64. -/
def Window.addFinite (w : Window) (neg : Bool) (m : Nat) (q : Int) : Window :=
  let w := { w with terms := w.terms + 1 }
  if m = 0 then w
  else
    let e := numExp m q
    let pm := if w.pmax = 0x8000 then e else max w.pmax.toInt e
    let a := w.anchor.toInt
    let (t, rem, _) := shiftSplit m (q - (a - 104))
    let w := { w with
      pmax := BitVec.ofInt 16 pm
      replayDue := w.replayDue || decide (e > a)
      drops := if rem = 0 then w.drops else w.drops + 1 }
    w.addUnits (if neg then -(t : Int) else t)

/-- Add one term (R62 to R64): a special term sets its flag, adds nothing and counts. -/
def Window.addTerm (w : Window) : Term → Window
  | .fin s m q => w.addFinite s m q
  | .nan => { w with terms := w.terms + 1, nan := true }
  | .inf false => { w with terms := w.terms + 1, posInf := true }
  | .inf true => { w with terms := w.terms + 1, negInf := true }

/-- The product of two decoded elements with an added scale exponent (R61, R62). -/
def product (a b : Num) (s : Int) : Term :=
  match a, b with
  | .nan, _ => .nan
  | _, .nan => .nan
  | .fin sa ma qa, .fin sb mb qb => .fin (sa != sb) (ma * mb) (qa + qb + s)
  | .inf sa, .inf sb => .inf (sa != sb)
  | .inf sa, .fin sb mb _ => if mb = 0 then .nan else .inf (sa != sb)
  | .fin sa ma _, .inf sb => if ma = 0 then .nan else .inf (sa != sb)

/-- The unbiased exponent of an E8M0 scale byte; none for NaN (R56). -/
def scaleExp (b : Byte) : Option Int := if b = 0xFF then none else some ((b.toNat : Int) - 127)

/-- Clear a window for the chunk that TOPEN opens (R68): every field but target, with the anchor of R71. -/
def Window.opened (w : Window) (target : Fin 32) (anchor : Int) : Window :=
  { Window.zero with isOpen := true, anchor := BitVec.ofInt 16 anchor, target := target }

/-- Clear a window for a replay under the anchor `a` (R74, R75): replay_due is not among the fields that R74 clears, so it stays. -/
def Window.forReplay (w : Window) (a : Int) (anchorReplay : Bool) : Window :=
  { w with value := 0, wrap := 0, terms := 0, drops := 0, nan := false, posInf := false, negInf := false,
           pmax := 0x8000, anchor := BitVec.ofInt 16 a,
           replayed := w.replayed || anchorReplay }

/-- The anchor of a replay on account of the anchor, for a chunk opened under the anchor `a`: max(A, pmax) + 1 (R74). -/
def Window.replayAnchor (w : Window) (a : Int) : Int := (if w.pmax = 0x8000 then a else max a w.pmax.toInt) + 1
/-- Whether a lane replays when a chunk opened under the anchor `a` closes: replay_due is set, and no error replay has already run every term
under the anchor that R74 gives (R74, R75, R90; log 67). -/
def Window.mustReplay (w : Window) (a : Int) : Bool := w.replayDue && w.anchor.toInt != w.replayAnchor a

/-! ### Drop summaries (R80) -/

/-- Saturate a 40-bit count (R80): the count and whether it saturated. -/
def sat40 (n : Nat) : BitVec 40 × Bool :=
  if n < 2 ^ 40 then (BitVec.ofNat 40 n, false) else (BitVec.ofNat 40 (2 ^ 40 - 1), true)

/-- Add `n` to bin `j` with saturation. -/
def LongTotal.addBin (d : LongTotal) (j n : Nat) : LongTotal :=
  let (v, s) := sat40 ((nth d.bins j 0).toNat + n)
  { d with bins := put d.bins j v, dropSat := d.dropSat || s }

/-- Move every bin of a drop summary down by `k` binades: the shifting loop of add_events, j from 7 down to 0 (R80). -/
def LongTotal.shiftBins (d : LongTotal) (k : Nat) : LongTotal :=
  (upto 8).reverse.foldl (fun d j =>
    let src := (nth d.bins j 0).toNat
    let d := { d with bins := put d.bins j 0 }
    d.addBin (min 7 (j + k)) src) d

/-- Add `n` dropped-low events at window bottom 2^k: add_events of R80. -/
def LongTotal.addEvents (d : LongTotal) (k : Int) (n : Nat) : LongTotal :=
  let d := if d.dropTop = 0x8000 then { d with dropTop := BitVec.ofInt 16 k } else d
  let d := if k > d.dropTop.toInt then
      { d.shiftBins (k - d.dropTop.toInt).toNat with dropTop := BitVec.ofInt 16 k }
    else d
  d.addBin (min 7 (d.dropTop.toInt - k).toNat) n

/-- Merge the drop summary of `e` into `d`: merge of R80. -/
def LongTotal.mergeDrops (d e : LongTotal) : LongTotal :=
  if e.dropTop = 0x8000 then d
  else (upto 8).foldl (fun d (j : Nat) => d.addEvents (e.dropTop.toInt - (j : Int)) (nth e.bins j 0).toNat) d

/-- Combine two Long Totals (R79). -/
def LongTotal.combine (a b : LongTotal) : LongTotal :=
  { (a.mergeDrops b) with
    value := a.value + b.value
    nan := a.nan || b.nan
    posInf := a.posInf || b.posInf
    negInf := a.negInf || b.negInf
    dropSat := (a.mergeDrops b).dropSat || b.dropSat
    replays := BitVec.ofNat 32 (satTo 32 (a.replays.toNat + b.replays.toNat)) }

/-- The exact value of a window in Long Total units of 2^-300. Every term is a multiple of 2^-300 (R78), so the floor is exact. -/
def Window.longUnits (w : Window) : Int :=
  let s := w.anchor.toInt - 104 + 300
  if 0 ≤ s then w.total * 2 ^ s.toNat else w.total / 2 ^ (-s).toNat

/-- Promote a window into a Long Total (R78). -/
def LongTotal.promote (t : LongTotal) (w : Window) : LongTotal :=
  let t := { t with
    value := t.value + BitVec.ofInt 640 w.longUnits
    nan := t.nan || w.nan
    posInf := t.posInf || w.posInf
    negInf := t.negInf || w.negInf
    replays := BitVec.ofNat 32 (satTo 32 (t.replays.toNat + w.replayed.toNat)) }
  if w.drops = 0 then t else t.addEvents (w.anchor.toInt - 104) w.drops

/-- Add one exactly represented number to a Long Total as one term (R198): a special value sets its flag and adds nothing. -/
def LongTotal.addNum (t : LongTotal) : Num → LongTotal
  | .nan => { t with nan := true }
  | .inf false => { t with posInf := true }
  | .inf true => { t with negInf := true }
  | .fin s m q =>
    let (v, _, _) := shiftSplit m (q + 300)
    { t with value := t.value + BitVec.ofInt 640 (if s then -(v : Int) else v) }

/-- The 128-byte record of a Long Total (R77). -/
def LongTotal.record (t : LongTotal) : List Byte :=
  leBytes t.value.toNat 80 ++
  leBytes (t.nan.toNat + 2 * t.posInf.toNat + 4 * t.negInf.toNat + 8 * t.dropSat.toNat) 1 ++
  leBytes 0 1 ++ leBytes t.dropTop.toNat 2 ++ leBytes t.replays.toNat 4 ++
  (upto 8).flatMap fun j => leBytes (nth t.bins j 0).toNat 5

/-- The Long Total that a 128-byte record at `a` holds (R77). -/
def LongTotal.ofRecord (rd : Nat → Byte) (a : Nat) : LongTotal :=
  let f := (rd (a + 80)).toNat
  { value := BitVec.ofNat 640 (leNat rd a 80)
    nan := bit f 0, posInf := bit f 1, negInf := bit f 2, dropSat := bit f 3
    dropTop := BitVec.ofNat 16 (leNat rd (a + 82) 2)
    replays := BitVec.ofNat 32 (leNat rd (a + 84) 4)
    bins := (upto 8).map fun j => BitVec.ofNat 40 (leNat rd (a + 88 + 5 * j) 5) }

/-- The 256-bit record of a window (R67) as a number. -/
def Window.recordBits (w : Window) : Nat :=
  w.value.toNat + w.anchor.toNat * 2 ^ 128 + w.terms % 2 ^ 25 * 2 ^ 144 + w.drops % 2 ^ 25 * 2 ^ 169 +
  w.wrap.toNat * 2 ^ 194 + w.nan.toNat * 2 ^ 196 + w.posInf.toNat * 2 ^ 197 + w.negInf.toNat * 2 ^ 198 +
  w.isOpen.toNat * 2 ^ 199 + w.replayDue.toNat * 2 ^ 200 + w.replayed.toNat * 2 ^ 201 +
  w.target.val * 2 ^ 202 + w.pmax.toNat * 2 ^ 208

/-- The window that a 256-bit record holds (R67). -/
def Window.ofRecordBits (v : Nat) : Window :=
  { value := BitVec.ofNat 128 v, anchor := BitVec.ofNat 16 (field v 143 128), terms := field v 168 144,
    drops := field v 193 169, wrap := BitVec.ofNat 2 (field v 195 194), nan := bit v 196, posInf := bit v 197,
    negInf := bit v 198, isOpen := bit v 199, replayDue := bit v 200, replayed := bit v 201,
    target := Fin.ofNat 32 (field v 206 202), pmax := BitVec.ofNat 16 (field v 223 208) }

/-! ### Final rounding (R81 to R85, R159) -/

/-- The result of TROUND: the lane bits, whether OUTPUT_SATURATED and OUTPUT_INVALID are counted (R84). -/
structure RoundResult where
  bits : W32
  saturated : Bool
  invalid : Bool
  deriving DecidableEq, Repr

/-- The floating output formats of TROUND by output code (R159); none for the integer outputs. -/
def outShape (code : Nat) : Option FpShape :=
  match code with
  | 0 => some fp32
  | 1 => some bf16
  | 2 => some fp16
  | 3 => some e5m2
  | 4 => some e4m3
  | _ => none

/-- Whether a Long Total has a special flag set. -/
def LongTotal.special (t : LongTotal) : Bool := t.nan || t.posInf || t.negInf

/-- Round a Long Total times 2^k into output format `code` (R81 to R85), with Flicker word `r` for SR. -/
def LongTotal.round (t : LongTotal) (mode : Rnd) (code : Nat) (k : Int) (r : Nat) : RoundResult :=
  let isNan := t.nan || (t.posInf && t.negInf)
  let v := t.value.toInt
  match outShape code with
  | some f =>
    if isNan then ⟨BitVec.ofNat 32 f.nanCode, false, false⟩
    else if t.posInf || t.negInf then
      ⟨BitVec.ofNat 32 (withSign f t.negInf (if f.hasInf then f.infCode else f.maxCode)), !f.hasInf, false⟩
    else
      let x := fpRound f mode r v.natAbs (k - 300)
      ⟨BitVec.ofNat 32 (withSign f (decide (v < 0)) x.code), x.sat, false⟩
  | none =>
    let w := if code = 5 then 32 else 8
    if isNan then ⟨0, false, true⟩
    else if t.posInf || t.negInf then
      ⟨BitVec.ofNat 32 (unsigned w (if t.negInf then -(2 ^ (w - 1) : Int) else 2 ^ (w - 1) - 1)), true, false⟩
    else
      let x := intRound w mode r (decide (v < 0)) v.natAbs (k - 300)
      ⟨BitVec.ofNat 32 x.code, x.sat, false⟩

end Sys2Proof.Machine
end

