-- ==== Sys2Proof/Machine/CoreState.lean ====
section
/-! DEFINITION. The state of contexts, cores, regions and stream channels (R66 to R80, R96 to R116, R200, R238, R248 to R281). -/

namespace Sys2Proof.Machine

/-! ### Context state (R100, R101) -/

/-- A result on its way to a register (R96): what it writes when it becomes visible. -/
inductive Dest where
  | s (r : Fin 64) (x : W64)
  /-- lanes of v whose mask bit is 1 -/
  | v (r : Fin 64) (mask : W64) (x : List W32)
  /-- bits of m whose mask bit is 1 -/
  | m (r : Fin 16) (mask x : W64)
  | t (r : Fin 32) (x : LongTotal)
  /-- windows promoted into a Long Total (R78, R156) -/
  | promote (r : Fin 32) (ws : List Window)
  | c (r : Fin 16) (x : W32)
  | h (r : Fin 16) (x : W32)
  | q (r : Fin 8) (x : W32)
  deriving DecidableEq, Repr

/-- A pending result: due issue cycle, issue cycle and slot of its operation, and the hold kind of its wait while it has not arrived (0 arrived). -/
structure Pend where
  due : Nat
  iat : Nat
  slot : Nat
  dest : Dest
  wait : Nat := 0
  /-- the Plait seq or window set that the arrival names -/
  tag : Nat := 0
  deriving DecidableEq, Repr

/-- Why a context holds (R106). -/
inductive Why where
  /-- until the metered operation completes -/
  | metered
  /-- until the additions of a SCAT.ADD have been performed -/
  | scatter
  /-- a due result that has not arrived -/
  | result
  | storeQueue
  /-- staging rows that a ROW.LD has still to write -/
  | stageRow (rows : List Nat)
  | arrayBusy
  | chanQueue (ch : Nat)
  | shortQueue
  /-- room for a Plait operation: until the oldest one, of this seq, ends (R333) -/
  | plaitRoom (oldest : Nat)
  /-- a replay inside a tensor dot (R156) -/
  | replay (w : Nat)
  | rowWait
  /-- readable bytes awaited in a coil -/
  | coilWait (region coil need : Nat)
  | knotWait (ch k : Nat)
  | belayWait (b count : Nat)
  | drain
  | csave
  deriving DecidableEq, Repr

/-- Whether a hold is one of the Plait (R345): for room (R333), or for a result (R332). -/
def Why.plait : Why → Nat → Bool
  | .plaitRoom _, _ => true
  | .result, kind => kind == 3
  | _, _ => false

/-- A hold (R106): its reason, the kind CO_SLOT_k shows, the slot of its operation, and whether it holds its own bundle before issue. -/
structure Hold where
  why : Why
  kind : Nat
  slot : Nat
  before : Bool := false
  deriving DecidableEq, Repr

/-- A logged tensor-array operation (R72): operand addresses, mask, and the groups of it that belong to this chunk. -/
structure LogOp where
  /-- 0 TDOT, 1 TDOT.SP, 2 TPRE -/
  kind : Nat
  elemA : Nat := 0
  scaleA : Nat := 0
  elemB : Nat := 0
  scaleB : Nat := 0
  /-- positions of the list of TDOT.SP -/
  pos : List Nat := []
  mask : W64 := 0
  n : Nat := 1
  first : Nat := 0
  last : Nat := 0
  /-- tensor-array cycles -/
  d : Nat := 1
  deriving DecidableEq, Repr

/-- An open chunk of a window set (R68 to R73). -/
structure Chunk where
  w : Nat
  fa : Nat
  fb : Nat
  /-- preload format, when the chunk has a preload span -/
  pre : Option Nat
  target : Fin 32
  anchor : Int
  log : List LogOp := []
  pinned : List Nat := []
  /-- lanes whose error replay has been done in this chunk (R25) -/
  errReplayed : W64 := 0
  deriving DecidableEq, Repr

/-- Rows pinned by a chunk whose closure has not retired: released at an issue cycle, or by the end of its replay (R73). -/
structure Closing where
  rows : List Nat
  release : Nat
  w : Nat
  replay : Bool
  deriving DecidableEq, Repr

/-- A row transfer, FILL or COPY in progress (R169). -/
structure Xfer where
  /-- 0 ROW.LD, 1 ROW.ST, 2 FILL, 3 COPY -/
  kind : Nat
  addr : Nat
  src : Nat := 0
  row : Nat := 0
  n : Nat
  fmt : Nat := 15
  word : W32 := 0
  /-- issue cycle -/
  iat : Nat
  deriving DecidableEq, Repr

/-- An SST write not yet performed (R168): staging address, lanes and the issue cycle that sees it. -/
structure StagePend where
  addr : Nat
  mask : W64
  x : List W32
  due : Nat
  deriving DecidableEq, Repr

/-- A loop-stack entry (R100, R140). -/
structure LoopEntry where
  start : Nat
  stop : Nat
  left : Nat
  deriving DecidableEq, Repr

/-- A Plait operation of a context in progress (R333, R335): its header, its partial and its progress. -/
structure PlaitOp where
  seq : Nat
  all : Bool
  step : W64
  td : Fin 32
  acc : LongTotal
  /-- reduction rounds combined at this rank -/
  round : Nat := 0
  /-- the record of this rank has been sent and not yet consumed -/
  sent : Bool := false
  deriving DecidableEq, Repr

/-- A coil operation that waits for earlier work of its context (R254): push or pop, region, coil, bytes. -/
structure CoilOp where
  push : Bool
  region : Nat
  coil : Nat
  bytes : Nat
  /-- issue cycle of the operation -/
  iat : Nat
  deriving DecidableEq, Repr

/-- What a window set still shows before issue cycle `due` (R154): its windows as they stood before a tensor operation. -/
structure WindowPast where
  due : Nat
  w : Nat
  ws : List Window
  deriving DecidableEq, Repr

/-- A context: every item of R100, its place in its task, and its work in progress. -/
structure Context where
  task : W32 := 0
  rank : Nat := 0
  s : List W64 := List.replicate 64 0
  v : List (List W32) := List.replicate 64 (List.replicate 64 0)
  /-- m1 to m15 as written; m0 reads all ones -/
  m : List W64 := List.replicate 16 0
  w : List (List Window) := List.replicate 8 (List.replicate 64 Window.zero)
  t : List LongTotal := List.replicate 32 LongTotal.zero
  c : List W32 := List.replicate 16 0
  h : List W32 := List.replicate 16 0
  q : List W32 := List.replicate 8 0
  pc : Nat := 0
  loops : List LoopEntry := []
  calls : List Nat := []
  step : W64 := 0
  restorePc : W64 := 0xFFFFFFFFFFFFFFFF
  /-- the context has started and not executed END (R109) -/
  active : Bool := false
  ended : Bool := false
  aborted : Bool := false
  /-- the next issue cycle (R96) -/
  cyc : Nat := 0
  pend : List Pend := []
  holds : List Hold := []
  /-- delay bundles left before a taken branch's target issues (R99) -/
  redirect : Option (Nat × Nat) := none
  chunks : List Chunk := []
  closing : List Closing := []
  /-- results of tensor operations that are not visible yet, oldest first -/
  wpast : List WindowPast := []
  xfers : List Xfer := []
  ssts : List StagePend := []
  coilOps : List CoilOp := []
  plaitSeq : Nat := 0
  plaits : List PlaitOp := []
  /-- belay marks (R275) -/
  marks : Sparse Nat := []
  /-- coils held: region, coil, rank (R260) -/
  coils : List (Nat × Nat × Nat) := []
  /-- hitch windows held: region, window, rank -/
  wins : List (Nat × Nat × Nat) := []
  /-- channels held (R265) -/
  chans : List Nat := []
  deriving DecidableEq, Repr

/-! ### Core state -/

/-- A store in a core's store queue (R166, R238): its context slot, issue cycle, and the bytes it writes. -/
structure StoreEntry where
  slot : Nat
  task : W32
  iat : Nat
  cells : List (Nat × Byte)
  deriving DecidableEq, Repr

/-- A page of an instruction store (R122): the image page it holds and its bundles. -/
structure IPage where
  handle : Nat
  program : W64
  page : Nat
  code : List W128
  deriving DecidableEq, Repr

/-- One physical core. -/
structure Core where
  slots : List (Option Context) := List.replicate 12 none
  running : Option Nat := none
  /-- incoming slot of a switch in progress -/
  switching : Option Nat := none
  staging : Sparse Byte := []
  /-- tag and format field of each staging row: tag + 2^16 * format (R70) -/
  tags : Sparse Nat := []
  storeQ : List StoreEntry := []
  ipages : List (Option IPage) := List.replicate 16 none
  /-- slot of the context whose replay occupies the tensor array (R155) -/
  replaying : Option Nat := none
  /-- the core's ports are in fixed-pipeline mode (R242) -/
  fixedPipe : Bool := true
  /-- DT of the core handling windows opened, latest first (R465) -/
  windows : List W64 := []
  deriving DecidableEq, Repr

/-- A core as it stands at reset. -/
def Core.initial : Core := {}

/-! ### Region state -/

/-- An addition in a conflict queue (R198, R200). -/
structure Addition where
  /-- context of the SCAT.ADD; none for a channel -/
  owner : Option Ctx
  /-- channel of the SCATTER_ADD, region * 8 + channel -/
  chan : Option Nat := none
  task : W32
  entry : Nat
  type : Nat
  addend : W32
  /-- the accumulator descriptor, whose counts the addition updates -/
  desc : Nat
  deriving DecidableEq, Repr

/-- A short-path transfer (R281). -/
structure ShortXfer where
  owner : Ctx
  task : W32
  src : Nat
  dst : Nat
  len : Nat
  iat : Nat
  deriving DecidableEq, Repr

/-- A substitution in progress (R29): logical index, snuffed core, spare under test. -/
structure Subst where
  index : Nat
  snuffed : Nat
  spare : Nat
  deriving DecidableEq, Repr

/-- A region's engines and its recovery state. -/
structure Region where
  shorts : List ShortXfer := []
  /-- conflict queues by bank, oldest first -/
  queues : Sparse (List Addition) := []
  /-- additions that the crossbar holds while the queue of their bank is full, oldest first (R200) -/
  crossbar : List Addition := []
  /-- owner context of the open windows that tasks opened -/
  winOwner : Sparse (Option Ctx) := []
  /-- the active Flicker table (R365) -/
  flk : Sparse W32 := []
  substs : List Subst := []
  /-- DT at which each substitution in progress began, by logical index (R31) -/
  snuffedAt : Sparse W64 := []
  /-- region recoveries begun, DT, latest first (R466) -/
  recoveries : List W64 := []
  recovering : Bool := false
  fixedPipe : Bool := true
  /-- next line that each bank scrubs, and passes completed by each bank (R248) -/
  scrubLine : Sparse Nat := []
  scrubPass : Sparse Nat := []
  /-- corrected words to be written back at their banks (R247) -/
  writebacks : List Nat := []
  /-- taper run (R477): 0 none, 1 first measurement or a step, 2 waits for a notch, 3 measurement after a notch -/
  taperPhase : Nat := 0
  /-- volt_steps or f has changed in this run -/
  taperChanged : Bool := false
  /-- a run that fell due during a recovery -/
  taperDue : Bool := false
  /-- last slack measured in ps -/
  slack : Int := 0
  /-- clock gated by a throttle (R512) -/
  gated : Bool := false
  /-- bank groups retained across Pilot (R251) -/
  retained : List Nat := []
  deriving DecidableEq, Repr

/-! ### Stream channels -/

/-- The bytes of a descriptor or record. -/
abbrev Raw := List Byte

/-- A descriptor in a channel's queue (R266, R271): its address, the bytes read at the arm, its task and the context that armed it. -/
structure Desc where
  addr : Nat
  raw : Raw
  task : W32
  owner : Ctx
  started : Bool := false
  /-- every byte of it has been moved -/
  moved : Bool := false
  status : Status := 0
  bytes : Nat := 0
  /-- what an activity close found: audited neurons, misses, capped neurons (R222) -/
  close : Option (Nat × Nat × Nat) := none
  /-- bytes that its coil push adds (R289) -/
  push : Nat := 0
  deriving DecidableEq, Repr

/-- A remote block in flight (R297): block number, destination, bytes still expected, session and the offset of the next segment. -/
structure RemoteBlock where
  block : Nat
  dst : Nat
  left : Nat
  session : Nat
  seq : Nat
  /-- DT at which the limit expires -/
  limit : W64
  deriving DecidableEq, Repr

/-- One stream channel. -/
structure Channel where
  task : W32 := 0
  /-- contexts that hold the channel -/
  holders : List Ctx := []
  generation : BitVec 16 := 0
  queue : List Desc := []
  remotes : List RemoteBlock := []
  /-- next block of the REMOTE in service -/
  nextBlock : Nat := 0
  /-- the knot carried by the descriptor last started, which gates the next (R274) -/
  gate : Option Nat := none
  deriving DecidableEq, Repr

end Sys2Proof.Machine
end

