-- ==== Sys2Proof/Machine/LampState.lean ====
section
/-! DEFINITION. What the Lamplighter keeps: registered images (R369) and the evaluation of each accepted task (R383 to R387). -/

namespace Sys2Proof.Machine

/-- A registered program image (R120, R369, R371): its place in data space, its identity and its timing record. -/
structure Image where
  addr : Nat
  program : W64
  rowOnly : Bool
  bundles : Nat
  codeOffset : Nat
  record : List Byte
  deriving DecidableEq, Repr

/-- The requesters that a phase of an accepted task is priced for (R383), raised by later admissions (R387). -/
structure PhaseLoad where
  phase : Nat
  k : Nat
  w : Nat
  deriving DecidableEq, Repr

/-- What the Lamplighter keeps of a task's evaluation (R386, R387). -/
structure Adm where
  /-- B_cyc, raised by later admissions -/
  cyc : Nat := 0
  /-- A: the sum of C_p without the shared charge -/
  active : Nat := 0
  /-- S: the sum of S_p -/
  points : Nat := 0
  shared : Bool := false
  /-- the blocking term β of R386 -/
  beta : Nat := 0
  /-- G: seg_max of its program -/
  seg : Nat := 0
  loads : List PhaseLoad := []
  slots : List SlotVal := []
  /-- the timing record of its image -/
  record : List Byte := []
  /-- compare_ns added to B_ns in Mirror mode (R444) -/
  extra : Nat := 0
  deriving DecidableEq, Repr

/-- The Lamplighter. -/
structure Lamp where
  /-- images by handle, 1 to 1,024 -/
  images : Sparse (Option Image) := []
  /-- task_id of the next acceptance (R391) -/
  next : W32 := 1
  /-- image address of the registration in progress -/
  job : Option Nat := none
  /-- DT of the latest OVERRUN abort (R392) -/
  lastOverrun : Option W64 := none
  deriving DecidableEq, Repr

end Sys2Proof.Machine
end

