-- ==== Sys2Proof/Config.lean ====
section
/-! DEFINITION. What one unit fixes and the values that the spec leaves open: opaque constants without a body, so that no proof can see
them (assumption log 1, 4, 5). -/

namespace Sys2Proof.Config

/-- The silicon stepping that DV_PART shows, "By silicon" (R542). -/
opaque stepping : BitVec 8

/-- The `n`-th free value that the model draws: values that the spec leaves open (log 1). -/
opaque freeValue : Nat → BitVec 64

/-- The serial number given at manufacture (R524). -/
opaque serial : BitVec 64

/-- The spare core that test chose in a quadrant at manufacture, 0 to 9 within the quadrant (R27). -/
opaque spare (region quadrant : Nat) : Fin 10

/-- SHA-512, the standard's function, 64 bytes (R531, R535, R536). -/
opaque sha512 (data : List Byte) : List Byte

/-- RSASSA-PSS verification with SHA-512 (R531): key block of 516 bytes, message, signature of 512 bytes. -/
opaque pssVerify (key message signature : List Byte) : Bool

/-- The RSASSA-PSS signature by the module's identity key (R534, R535), 512 bytes. -/
opaque identitySign (message : List Byte) : List Byte

/-- The key block of Lomest's firmware key in the Boot ROM (R531). -/
opaque firmwareKey : List Byte

/-- The firmware image that manufacture placed in a flash slot (R531). -/
opaque shippedImage (slot : Nat) : List Byte

/-- The certificates of R534, in DER form. -/
opaque certificate : List Byte

/-- The address, UDP port and home port at which a secondary reaches the host of a replicated pair session (R450): the spec gives the twin no
way to learn them. -/
opaque pairHost (session : Nat) : BitVec 128
opaque pairHostUdp (session : Nat) : BitVec 16
opaque pairHostPort (session : Nat) : Fin 2

end Sys2Proof.Config
end

