-- ==== Sys2Proof/Machine/RegTable.lean ====
section
/-! DEFINITION. The register map of the control space: the word table of each block (offset, strides, access masks and reset value of
every field, R35 to R542), generated from the register tables of the spec, and the offsets of the registers by name. -/

namespace Sys2Proof.Machine

/-- One row of a block's register map: a 32-bit word (or two arrays of words, with `stride1`/`count1` and `stride2`/`count2`; a count of 0 is
one word), the bits that a write sets and a read returns (`rw`), that a written 1 clears (`w1c`), that a write sets or triggers and a read
returns as 0 (`wo`, R15), the reset value, and its place in a 64-bit register: 0 none, 1 low word, 2 high word (R14). -/
structure RegWord where
  off : Nat
  stride1 : Nat
  count1 : Nat
  stride2 : Nat
  count2 : Nat
  rw : Nat
  w1c : Nat
  wo : Nat
  reset : Nat
  half : Nat
  deriving DecidableEq, Repr

/-- Offset of RN_STATE in its block. -/
abbrev rRnState : Nat := 0x0
/-- Offset of RN_FENCE in its block. -/
abbrev rRnFence : Nat := 0x10
/-- Offset of RN_SPARE in its block. -/
abbrev rRnSpare : Nat := 0x18
/-- Offset of RN_LMAP in its block. -/
abbrev rRnLmap : Nat := 0x100
/-- Offset of HB_UNMAPPED in its block. -/
abbrev rHbUnmapped : Nat := 0x10
/-- Offset of HB_UNMAPPED_LAST in its block. -/
abbrev rHbUnmappedLast : Nat := 0x18
/-- Offset of HB_UNMAPPED_CLEAR in its block. -/
abbrev rHbUnmappedClear : Nat := 0x1C
/-- Offset of DV_SERIAL in its block. -/
abbrev rDvSerial : Nat := 0x0
/-- Offset of DV_PART in its block. -/
abbrev rDvPart : Nat := 0x8
/-- Offset of DV_STATE in its block. -/
abbrev rDvState : Nat := 0xC
/-- Offset of DV_FW_BUILD in its block. -/
abbrev rDvFwBuild : Nat := 0x10
/-- Offset of CO_ARITH_STICKY in its block. -/
abbrev rCoArithSticky : Nat := 0x800
/-- Offset of CO_DROP_EVENTS in its block. -/
abbrev rCoDropEvents : Nat := 0x808
/-- Offset of CO_CHUNKS_CLOSED in its block. -/
abbrev rCoChunksClosed : Nat := 0x810
/-- Offset of CO_CHUNKS_DROPPING in its block. -/
abbrev rCoChunksDropping : Nat := 0x818
/-- Offset of CO_AUTO_CLOSES in its block. -/
abbrev rCoAutoCloses : Nat := 0x820
/-- Offset of CO_REPLAYS_ANCHOR in its block. -/
abbrev rCoReplaysAnchor : Nat := 0x828
/-- Offset of CO_REPLAYS_ERROR in its block. -/
abbrev rCoReplaysError : Nat := 0x830
/-- Offset of CO_SATURATIONS in its block. -/
abbrev rCoSaturations : Nat := 0x838
/-- Offset of CO_INVALIDS in its block. -/
abbrev rCoInvalids : Nat := 0x840
/-- Offset of CO_ARITH_CLEAR in its block. -/
abbrev rCoArithClear : Nat := 0x848
/-- Offset of CO_ACTIVE in its block. -/
abbrev rCoActive : Nat := 0x0
/-- Offset of CO_SWITCHES in its block. -/
abbrev rCoSwitches : Nat := 0x8
/-- Offset of CO_SLOT in its block. -/
abbrev rCoSlot : Nat := 0x100
/-- Offset of CO_IPAGE in its block. -/
abbrev rCoIpage : Nat := 0x200
/-- Offset of CO_LAST_ABORT in its block. -/
abbrev rCoLastAbort : Nat := 0x300
/-- Offset of CO_LAST_ABORT_AT in its block. -/
abbrev rCoLastAbortAt : Nat := 0x308
/-- Offset of CO_SP_STICKY in its block. -/
abbrev rCoSpSticky : Nat := 0x900
/-- Offset of CO_SP_RANGE_DROPS in its block. -/
abbrev rCoSpRangeDrops : Nat := 0x908
/-- Offset of CO_SP_ORDER_DROPS in its block. -/
abbrev rCoSpOrderDrops : Nat := 0x910
/-- Offset of CO_SP_SCAT_DROPS in its block. -/
abbrev rCoSpScatDrops : Nat := 0x918
/-- Offset of CO_SP_TILES_SPARSE in its block. -/
abbrev rCoSpTilesSparse : Nat := 0x920
/-- Offset of CO_SP_TILES_DENSE in its block. -/
abbrev rCoSpTilesDense : Nat := 0x928
/-- Offset of CO_SP_PLY_BITS in its block. -/
abbrev rCoSpPlyBits : Nat := 0x930
/-- Offset of CO_SP_CLEAR in its block. -/
abbrev rCoSpClear : Nat := 0x938
/-- Offset of RN_SP_STICKY in its block. -/
abbrev rRnSpSticky : Nat := 0x200
/-- Offset of RN_SP_POP_FIXES in its block. -/
abbrev rRnSpPopFixes : Nat := 0x208
/-- Offset of RN_SP_PREFIX_FIXES in its block. -/
abbrev rRnSpPrefixFixes : Nat := 0x210
/-- Offset of RN_SP_CLEAR in its block. -/
abbrev rRnSpClear : Nat := 0x218
/-- Offset of RN_BC_STICKY in its block. -/
abbrev rRnBcSticky : Nat := 0x300
/-- Offset of RN_BC_PASSES in its block. -/
abbrev rRnBcPasses : Nat := 0x308
/-- Offset of RN_BC_AUDITED in its block. -/
abbrev rRnBcAudited : Nat := 0x310
/-- Offset of RN_BC_MISSES in its block. -/
abbrev rRnBcMisses : Nat := 0x318
/-- Offset of RN_BC_CAPPED in its block. -/
abbrev rRnBcCapped : Nat := 0x320
/-- Offset of RN_BC_FALLBACKS in its block. -/
abbrev rRnBcFallbacks : Nat := 0x328
/-- Offset of RN_BC_CLEAR in its block. -/
abbrev rRnBcClear : Nat := 0x330
/-- Offset of RN_ST_STICKY in its block. -/
abbrev rRnStSticky : Nat := 0x0
/-- Offset of RN_ST_CORRECTED in its block. -/
abbrev rRnStCorrected : Nat := 0x8
/-- Offset of RN_ST_UNCORRECTABLE in its block. -/
abbrev rRnStUncorrectable : Nat := 0x10
/-- Offset of RN_ST_SCRUB_PASSES in its block. -/
abbrev rRnStScrubPasses : Nat := 0x18
/-- Offset of RN_ST_HITCH_DENIED in its block. -/
abbrev rRnStHitchDenied : Nat := 0x20
/-- Offset of RN_ST_CLEAR in its block. -/
abbrev rRnStClear : Nat := 0x28
/-- Offset of RN_ST_SCRUB_CTL in its block. -/
abbrev rRnStScrubCtl : Nat := 0x30
/-- Offset of RN_ST_SLICE in its block. -/
abbrev rRnStSlice : Nat := 0x38
/-- Offset of RN_BG_OFF_LO in its block. -/
abbrev rRnBgOffLo : Nat := 0x40
/-- Offset of RN_BG_OFF_HI in its block. -/
abbrev rRnBgOffHi : Nat := 0x48
/-- Offset of RN_BG_BUSY_LO in its block. -/
abbrev rRnBgBusyLo : Nat := 0x50
/-- Offset of RN_BG_BUSY_HI in its block. -/
abbrev rRnBgBusyHi : Nat := 0x58
/-- Offset of RN_COIL_BASE in its block. -/
abbrev rRnCoilBase : Nat := 0x1000
/-- Offset of RN_COIL_CFG in its block. -/
abbrev rRnCoilCfg : Nat := 0x1008
/-- Offset of RN_COIL_STATE in its block. -/
abbrev rRnCoilState : Nat := 0x100C
/-- Offset of RN_COIL_HEAD in its block. -/
abbrev rRnCoilHead : Nat := 0x1010
/-- Offset of RN_COIL_TAIL in its block. -/
abbrev rRnCoilTail : Nat := 0x1018
/-- Offset of RN_HITCH_DESC in its block. -/
abbrev rRnHitchDesc : Nat := 0x8000
/-- Offset of RN_HITCH_STATE in its block. -/
abbrev rRnHitchState : Nat := 0x8020
/-- Offset of RN_HITCH_CMD in its block. -/
abbrev rRnHitchCmd : Nat := 0x8024
/-- Offset of RN_HITCH_BYTES in its block. -/
abbrev rRnHitchBytes : Nat := 0x8028
/-- Offset of RN_HITCH_OWNER in its block. -/
abbrev rRnHitchOwner : Nat := 0x8030
/-- Offset of RN_HITCH_DENIED in its block. -/
abbrev rRnHitchDenied : Nat := 0x8034
/-- Offset of ST_STATE in its block. -/
abbrev rStState : Nat := 0x0
/-- Offset of ST_STICKY in its block. -/
abbrev rStSticky : Nat := 0x8
/-- Offset of ST_DESCS in its block. -/
abbrev rStDescs : Nat := 0x10
/-- Offset of ST_BYTES in its block. -/
abbrev rStBytes : Nat := 0x18
/-- Offset of ST_REARMS in its block. -/
abbrev rStRearms : Nat := 0x20
/-- Offset of ST_RANGE_DROPS in its block. -/
abbrev rStRangeDrops : Nat := 0x28
/-- Offset of ST_LAST_FAULT in its block. -/
abbrev rStLastFault : Nat := 0x30
/-- Offset of ST_CLEAR in its block. -/
abbrev rStClear : Nat := 0x38
/-- Offset of ST_KNOT_REACHED in its block. -/
abbrev rStKnotReached : Nat := 0x40
/-- Offset of ST_KNOT_RELEASED in its block. -/
abbrev rStKnotReleased : Nat := 0x60
/-- Offset of PL_STATE in its block. -/
abbrev rPlState : Nat := 0x0
/-- Offset of PL_STICKY in its block. -/
abbrev rPlSticky : Nat := 0x8
/-- Offset of PL_CORRECTED in its block. -/
abbrev rPlCorrected : Nat := 0x10
/-- Offset of PL_UNCORRECTABLE in its block. -/
abbrev rPlUncorrectable : Nat := 0x18
/-- Offset of PL_LAYER_FIXES in its block. -/
abbrev rPlLayerFixes : Nat := 0x20
/-- Offset of PL_LINK_RETRIES in its block. -/
abbrev rPlLinkRetries : Nat := 0x28
/-- Offset of PL_SCRUB_PASSES in its block. -/
abbrev rPlScrubPasses : Nat := 0x30
/-- Offset of PL_NMO_REROUNDED in its block. -/
abbrev rPlNmoRerounded : Nat := 0x38
/-- Offset of PL_CLEAR in its block. -/
abbrev rPlClear : Nat := 0x40
/-- Offset of PL_SCRUB_CTL in its block. -/
abbrev rPlScrubCtl : Nat := 0x44
/-- Offset of PL_LAST_ERR in its block. -/
abbrev rPlLastErr : Nat := 0x48
/-- Offset of PL_LAST_ERR_AT in its block. -/
abbrev rPlLastErrAt : Nat := 0x50
/-- Offset of PL_TEMP in its block. -/
abbrev rPlTemp : Nat := 0x58
/-- Offset of PL_NMO_OP in its block. -/
abbrev rPlNmoOp : Nat := 0x100
/-- Offset of PL_NMO_STATUS in its block. -/
abbrev rPlNmoStatus : Nat := 0x104
/-- Offset of PL_NMO_SRC in its block. -/
abbrev rPlNmoSrc : Nat := 0x108
/-- Offset of PL_NMO_DST in its block. -/
abbrev rPlNmoDst : Nat := 0x110
/-- Offset of PL_NMO_AUX in its block. -/
abbrev rPlNmoAux : Nat := 0x118
/-- Offset of PL_NMO_LEN in its block. -/
abbrev rPlNmoLen : Nat := 0x120
/-- Offset of PL_NMO_ARG in its block. -/
abbrev rPlNmoArg : Nat := 0x128
/-- Offset of PL_NMO_DONE_BYTES in its block. -/
abbrev rPlNmoDoneBytes : Nat := 0x130
/-- Offset of CO_PL_STICKY in its block. -/
abbrev rCoPlSticky : Nat := 0xA00
/-- Offset of CO_PL_OPS in its block. -/
abbrev rCoPlOps : Nat := 0xA08
/-- Offset of CO_PL_HOLDS in its block. -/
abbrev rCoPlHolds : Nat := 0xA10
/-- Offset of CO_PL_HOLD_CYC in its block. -/
abbrev rCoPlHoldCyc : Nat := 0xA18
/-- Offset of CO_PL_CLEAR in its block. -/
abbrev rCoPlClear : Nat := 0xA20
/-- Offset of HB_FLK_TAB in its block. -/
abbrev rHbFlkTab : Nat := 0x8000
/-- Offset of HB_FLK_CTL in its block. -/
abbrev rHbFlkCtl : Nat := 0x9000
/-- Offset of HB_FLK_STATE in its block. -/
abbrev rHbFlkState : Nat := 0x9004
/-- Offset of LL_STATE in its block. -/
abbrev rLlState : Nat := 0x0
/-- Offset of LL_REG_ADDR in its block. -/
abbrev rLlRegAddr : Nat := 0x8
/-- Offset of LL_REG_CMD in its block. -/
abbrev rLlRegCmd : Nat := 0x10
/-- Offset of LL_REG_RESULT in its block. -/
abbrev rLlRegResult : Nat := 0x14
/-- Offset of LL_ACTIVE in its block. -/
abbrev rLlActive : Nat := 0x18
/-- Offset of LL_ACCEPTS in its block. -/
abbrev rLlAccepts : Nat := 0x20
/-- Offset of LL_REFUSALS in its block. -/
abbrev rLlRefusals : Nat := 0x28
/-- Offset of LL_ABORTS in its block. -/
abbrev rLlAborts : Nat := 0x30
/-- Offset of LL_OVERRUNS in its block. -/
abbrev rLlOverruns : Nat := 0x38
/-- Offset of LL_LAST_REFUSAL in its block. -/
abbrev rLlLastRefusal : Nat := 0x40
/-- Offset of LL_EVAL_MAX in its block. -/
abbrev rLlEvalMax : Nat := 0x44
/-- Offset of LL_STICKY in its block. -/
abbrev rLlSticky : Nat := 0x48
/-- Offset of LL_CLEAR in its block. -/
abbrev rLlClear : Nat := 0x4C
/-- Offset of ET_MODE in its block. -/
abbrev rEtMode : Nat := 0x0
/-- Offset of ET_STATE in its block. -/
abbrev rEtState : Nat := 0x4
/-- Offset of ET_STICKY in its block. -/
abbrev rEtSticky : Nat := 0x8
/-- Offset of ET_FCS_ERRORS in its block. -/
abbrev rEtFcsErrors : Nat := 0x10
/-- Offset of ET_FEC_CORRECTED in its block. -/
abbrev rEtFecCorrected : Nat := 0x18
/-- Offset of ET_FEC_UNCORRECTED in its block. -/
abbrev rEtFecUncorrected : Nat := 0x20
/-- Offset of ET_RQ_DROPS in its block. -/
abbrev rEtRqDrops : Nat := 0x28
/-- Offset of ET_RQ_POISON in its block. -/
abbrev rEtRqPoison : Nat := 0x30
/-- Offset of ET_MACSEC_DROPS in its block. -/
abbrev rEtMacsecDrops : Nat := 0x38
/-- Offset of ET_PAUSES_SENT in its block. -/
abbrev rEtPausesSent : Nat := 0x40
/-- Offset of ET_PAUSES_RECEIVED in its block. -/
abbrev rEtPausesReceived : Nat := 0x48
/-- Offset of ET_CLEAR in its block. -/
abbrev rEtClear : Nat := 0x50
/-- Offset of ET_RQ_CFG in its block. -/
abbrev rEtRqCfg : Nat := 0x54
/-- Offset of ET_RQ_LEVEL in its block. -/
abbrev rEtRqLevel : Nat := 0x58
/-- Offset of ET_PFC in its block. -/
abbrev rEtPfc : Nat := 0x5C
/-- Offset of ET_MAC0 in its block. -/
abbrev rEtMac0 : Nat := 0x60
/-- Offset of ET_MAC1 in its block. -/
abbrev rEtMac1 : Nat := 0x68
/-- Offset of ET_VLAN in its block. -/
abbrev rEtVlan : Nat := 0x70
/-- Offset of ET_IP_CFG in its block. -/
abbrev rEtIpCfg : Nat := 0x74
/-- Offset of ET_IPV4 in its block. -/
abbrev rEtIpv4 : Nat := 0x78
/-- Offset of ET_IPV4_GW in its block. -/
abbrev rEtIpv4Gw : Nat := 0x7C
/-- Offset of ET_IPV6 in its block. -/
abbrev rEtIpv6 : Nat := 0x80
/-- Offset of ET_IPV6_GW in its block. -/
abbrev rEtIpv6Gw : Nat := 0x90
/-- Offset of ET_PTP_CFG in its block. -/
abbrev rEtPtpCfg : Nat := 0xA0
/-- Offset of ET_PTP_OFFSET in its block. -/
abbrev rEtPtpOffset : Nat := 0xA8
/-- Offset of ET_SCI in its block. -/
abbrev rEtSci : Nat := 0xB0
/-- Offset of ET_SA_CTL in its block. -/
abbrev rEtSaCtl : Nat := 0x100
/-- Offset of ET_SA_SSCI in its block. -/
abbrev rEtSaSsci : Nat := 0x104
/-- Offset of ET_SA_PN in its block. -/
abbrev rEtSaPn : Nat := 0x108
/-- Offset of ET_SA_KEY in its block. -/
abbrev rEtSaKey : Nat := 0x110
/-- Offset of ET_SA_SALT in its block. -/
abbrev rEtSaSalt : Nat := 0x130
/-- Offset of MT_CFG in its block. -/
abbrev rMtCfg : Nat := 0x0
/-- Offset of MT_STATE in its block. -/
abbrev rMtState : Nat := 0x4
/-- Offset of MT_STICKY in its block. -/
abbrev rMtSticky : Nat := 0x8
/-- Offset of MT_CHECK_FAILS in its block. -/
abbrev rMtCheckFails : Nat := 0x10
/-- Offset of MT_RETRANSMITS in its block. -/
abbrev rMtRetransmits : Nat := 0x18
/-- Offset of MT_NAKS in its block. -/
abbrev rMtNaks : Nat := 0x20
/-- Offset of MT_REJECTS in its block. -/
abbrev rMtRejects : Nat := 0x28
/-- Offset of MT_SESSION_FAILS in its block. -/
abbrev rMtSessionFails : Nat := 0x30
/-- Offset of MT_DISCARDED in its block. -/
abbrev rMtDiscarded : Nat := 0x38
/-- Offset of MT_CLEAR in its block. -/
abbrev rMtClear : Nat := 0x40
/-- Offset of MT_ALLOW in its block. -/
abbrev rMtAllow : Nat := 0x100
/-- Offset of MT_PWIN_BASE in its block. -/
abbrev rMtPwinBase : Nat := 0x400
/-- Offset of MT_PWIN_LEN in its block. -/
abbrev rMtPwinLen : Nat := 0x408
/-- Offset of MT_PWIN_CTL in its block. -/
abbrev rMtPwinCtl : Nat := 0x410
/-- Offset of MT_SEL in its block. -/
abbrev rMtSel : Nat := 0x800
/-- Offset of MT_CMD in its block. -/
abbrev rMtCmd : Nat := 0x804
/-- Offset of MT_OPEN_PEER in its block. -/
abbrev rMtOpenPeer : Nat := 0x808
/-- Offset of MT_OPEN_ADDR in its block. -/
abbrev rMtOpenAddr : Nat := 0x810
/-- Offset of MT_SD_STATE in its block. -/
abbrev rMtSdState : Nat := 0x820
/-- Offset of MT_SD_PEER in its block. -/
abbrev rMtSdPeer : Nat := 0x824
/-- Offset of MT_SD_TX_SEQ in its block. -/
abbrev rMtSdTxSeq : Nat := 0x828
/-- Offset of MT_SD_RX_EXPECT in its block. -/
abbrev rMtSdRxExpect : Nat := 0x82C
/-- Offset of MT_SD_ADDR in its block. -/
abbrev rMtSdAddr : Nat := 0x830
/-- Offset of TT_STATE in its block. -/
abbrev rTtState : Nat := 0x0
/-- Offset of TT_STICKY in its block. -/
abbrev rTtSticky : Nat := 0x4
/-- Offset of TT_CFG in its block. -/
abbrev rTtCfg : Nat := 0x8
/-- Offset of TT_CMD in its block. -/
abbrev rTtCmd : Nat := 0xC
/-- Offset of TT_PEER_SERIAL in its block. -/
abbrev rTtPeerSerial : Nat := 0x10
/-- Offset of TT_BEATS_MISSED in its block. -/
abbrev rTtBeatsMissed : Nat := 0x18
/-- Offset of TT_MISMATCHES in its block. -/
abbrev rTtMismatches : Nat := 0x20
/-- Offset of TT_UNMIRRORED in its block. -/
abbrev rTtUnmirrored : Nat := 0x28
/-- Offset of TT_TAKEOVERS in its block. -/
abbrev rTtTakeovers : Nat := 0x30
/-- Offset of TT_CLEAR in its block. -/
abbrev rTtClear : Nat := 0x38
/-- Offset of TT_OFFSET in its block. -/
abbrev rTtOffset : Nat := 0x3C
/-- Offset of TT_LAST_TASK in its block. -/
abbrev rTtLastTask : Nat := 0x40
/-- Offset of TT_EPOCH in its block. -/
abbrev rTtEpoch : Nat := 0x44
/-- Offset of TT_PAIR in its block. -/
abbrev rTtPair : Nat := 0x100
/-- Offset of TT_PAIR_COMMIT in its block. -/
abbrev rTtPairCommit : Nat := 0x160
/-- Offset of ER_STATE in its block. -/
abbrev rErState : Nat := 0x0
/-- Offset of ER_OVERFLOW in its block. -/
abbrev rErOverflow : Nat := 0x4
/-- Offset of ER_CORRECTED in its block. -/
abbrev rErCorrected : Nat := 0x8
/-- Offset of ER_FAULTS in its block. -/
abbrev rErFaults : Nat := 0x10
/-- Offset of ER_LAST_AT in its block. -/
abbrev rErLastAt : Nat := 0x18
/-- Offset of TP_STATE in its block. -/
abbrev rTpState : Nat := 0x0
/-- Offset of TP_CFG in its block. -/
abbrev rTpCfg : Nat := 0x4
/-- Offset of TP_CMD in its block. -/
abbrev rTpCmd : Nat := 0x8
/-- Offset of TP_GAUGE in its block. -/
abbrev rTpGauge : Nat := 0x10
/-- Offset of TP_RUNS in its block. -/
abbrev rTpRuns : Nat := 0x20
/-- Offset of TP_LAST_AT in its block. -/
abbrev rTpLastAt : Nat := 0x28
/-- Offset of CO_PF_ISSUE in its block. -/
abbrev rCoPfIssue : Nat := 0xB00
/-- Offset of CO_PF_HOLD in its block. -/
abbrev rCoPfHold : Nat := 0xB08
/-- Offset of CO_PF_SWITCH in its block. -/
abbrev rCoPfSwitch : Nat := 0xB10
/-- Offset of CO_PF_IDLE in its block. -/
abbrev rCoPfIdle : Nat := 0xB18
/-- Offset of CO_PF_TARRAY in its block. -/
abbrev rCoPfTarray : Nat := 0xB20
/-- Offset of CO_PF_PRODUCTS in its block. -/
abbrev rCoPfProducts : Nat := 0xB28
/-- Offset of CO_PF_CLEAR in its block. -/
abbrev rCoPfClear : Nat := 0xB30
/-- Offset of DV_MARK_CMD in its block. -/
abbrev rDvMarkCmd : Nat := 0x100
/-- Offset of DV_MARK_NUM in its block. -/
abbrev rDvMarkNum : Nat := 0x104
/-- Offset of DV_MARK_AT in its block. -/
abbrev rDvMarkAt : Nat := 0x108
/-- Offset of DV_MARK_STATE in its block. -/
abbrev rDvMarkState : Nat := 0x110
/-- Offset of DV_SHADOW_BASE in its block. -/
abbrev rDvShadowBase : Nat := 0x200
/-- Offset of DV_SHADOW_WIN in its block. -/
abbrev rDvShadowWin : Nat := 0x8000
/-- Offset of DV_TELE_SEQ in its block. -/
abbrev rDvTeleSeq : Nat := 0x400
/-- Offset of DV_TELE_AT in its block. -/
abbrev rDvTeleAt : Nat := 0x408
/-- Offset of DV_TELE_POWER in its block. -/
abbrev rDvTelePower : Nat := 0x410
/-- Offset of DV_TELE_PARTS in its block. -/
abbrev rDvTeleParts : Nat := 0x414
/-- Offset of DV_TELE_TEMP in its block. -/
abbrev rDvTeleTemp : Nat := 0x418
/-- Offset of PW_STATE in its block. -/
abbrev rPwState : Nat := 0x0
/-- Offset of PW_CMD in its block. -/
abbrev rPwCmd : Nat := 0x4
/-- Offset of PW_PIN in its block. -/
abbrev rPwPin : Nat := 0x8
/-- Offset of PW_PIN_STICKY in its block. -/
abbrev rPwPinSticky : Nat := 0xC
/-- Offset of PW_THROTTLE in its block. -/
abbrev rPwThrottle : Nat := 0x10
/-- Offset of PW_STICKY in its block. -/
abbrev rPwSticky : Nat := 0x14
/-- Offset of PW_BOOT in its block. -/
abbrev rPwBoot : Nat := 0x20
/-- Offset of CK_STATE in its block. -/
abbrev rCkState : Nat := 0x0
/-- Offset of CK_TIME_CFG in its block. -/
abbrev rCkTimeCfg : Nat := 0x4
/-- Offset of CK_DT in its block. -/
abbrev rCkDt : Nat := 0x8
/-- Offset of CK_DT_SET in its block. -/
abbrev rCkDtSet : Nat := 0x10
/-- Offset of CK_DOMAIN_ON in its block. -/
abbrev rCkDomainOn : Nat := 0x18
/-- Offset of CK_DOMAIN_RST in its block. -/
abbrev rCkDomainRst : Nat := 0x20
/-- Offset of CK_STICKY in its block. -/
abbrev rCkSticky : Nat := 0x28
/-- Offset of CK_PPS_REJECTS in its block. -/
abbrev rCkPpsRejects : Nat := 0x2C
/-- Offset of SC_STATE in its block. -/
abbrev rScState : Nat := 0x0
/-- Offset of SC_RESULT in its block. -/
abbrev rScResult : Nat := 0x4
/-- Offset of SC_CMD in its block. -/
abbrev rScCmd : Nat := 0x8
/-- Offset of SC_FW_ADDR in its block. -/
abbrev rScFwAddr : Nat := 0x10
/-- Offset of SC_ARB_CMD in its block. -/
abbrev rScArbCmd : Nat := 0x18
/-- Offset of SC_OWNER_COMMIT in its block. -/
abbrev rScOwnerCommit : Nat := 0x1C
/-- Offset of SC_DBG_CMD in its block. -/
abbrev rScDbgCmd : Nat := 0x20
/-- Offset of SC_CERT_LEN in its block. -/
abbrev rScCertLen : Nat := 0x24
/-- Offset of SC_COUNTS in its block. -/
abbrev rScCounts : Nat := 0x28
/-- Offset of SC_OWNER_STAGE in its block. -/
abbrev rScOwnerStage : Nat := 0x40
/-- Offset of SC_NONCE in its block. -/
abbrev rScNonce : Nat := 0x80
/-- Offset of SC_CHAL in its block. -/
abbrev rScChal : Nat := 0xC0
/-- Offset of SC_SIG in its block. -/
abbrev rScSig : Nat := 0x100
/-- Offset of SC_KEY in its block. -/
abbrev rScKey : Nat := 0x300
/-- Offset of SC_QUOTE in its block. -/
abbrev rScQuote : Nat := 0x800
/-- Offset of SC_CERT in its block. -/
abbrev rScCert : Nat := 0x1000
/-- Offset of EM_STATE in its block. -/
abbrev rEmState : Nat := 0x0
/-- Offset of EM_CMD in its block. -/
abbrev rEmCmd : Nat := 0x4
/-- Offset of EM_SEQ in its block. -/
abbrev rEmSeq : Nat := 0x8
/-- Offset of EM_SMB_ADDR in its block. -/
abbrev rEmSmbAddr : Nat := 0x10
/-- Offset of EM_IMAGE in its block. -/
abbrev rEmImage : Nat := 0x1000
/-- Offset of ER_ENTRY in its block. -/
abbrev rErEntry : Nat := 0x20

/-- The words of the block: Region state and core map. -/
def wordsRn : List RegWord :=
  [⟨0x0, 0, 0, 0, 0, 0, 0, 0, 0, 0⟩,
   ⟨0x10, 0, 0, 0, 0, 0, 0, 0, 0, 1⟩,
   ⟨0x14, 0, 0, 0, 0, 0, 0, 0, 0, 2⟩,
   ⟨0x18, 0, 0, 0, 0, 0, 0, 0, 0, 1⟩,
   ⟨0x1C, 0, 0, 0, 0, 0, 0, 0, 0, 2⟩,
   ⟨0x100, 4, 36, 0, 0, 0, 0, 0, 0x7F, 0⟩,
   ⟨0x200, 0, 0, 0, 0, 0, 0x3, 0, 0, 0⟩,
   ⟨0x208, 0, 0, 0, 0, 0, 0, 0, 0, 1⟩,
   ⟨0x20C, 0, 0, 0, 0, 0, 0, 0, 0, 2⟩,
   ⟨0x210, 0, 0, 0, 0, 0, 0, 0, 0, 1⟩,
   ⟨0x214, 0, 0, 0, 0, 0, 0, 0, 0, 2⟩,
   ⟨0x218, 0, 0, 0, 0, 0, 0, 0x1, 0, 0⟩,
   ⟨0x300, 0, 0, 0, 0, 0, 0x3, 0, 0, 0⟩,
   ⟨0x308, 0, 0, 0, 0, 0, 0, 0, 0, 1⟩,
   ⟨0x30C, 0, 0, 0, 0, 0, 0, 0, 0, 2⟩,
   ⟨0x310, 0, 0, 0, 0, 0, 0, 0, 0, 1⟩,
   ⟨0x314, 0, 0, 0, 0, 0, 0, 0, 0, 2⟩,
   ⟨0x318, 0, 0, 0, 0, 0, 0, 0, 0, 1⟩,
   ⟨0x31C, 0, 0, 0, 0, 0, 0, 0, 0, 2⟩,
   ⟨0x320, 0, 0, 0, 0, 0, 0, 0, 0, 1⟩,
   ⟨0x324, 0, 0, 0, 0, 0, 0, 0, 0, 2⟩,
   ⟨0x328, 0, 0, 0, 0, 0, 0, 0, 0, 1⟩,
   ⟨0x32C, 0, 0, 0, 0, 0, 0, 0, 0, 2⟩,
   ⟨0x330, 0, 0, 0, 0, 0, 0, 0x1, 0, 0⟩]

/-- The words of the block: Hub. -/
def wordsHb : List RegWord :=
  [⟨0x10, 0, 0, 0, 0, 0, 0, 0, 0, 1⟩,
   ⟨0x14, 0, 0, 0, 0, 0, 0, 0, 0, 2⟩,
   ⟨0x18, 0, 0, 0, 0, 0, 0, 0, 0, 0⟩,
   ⟨0x1C, 0, 0, 0, 0, 0, 0, 0x1, 0, 0⟩,
   ⟨0x8000, 4, 1024, 0, 0, 0xFFFFFFFF, 0, 0, 0, 0⟩,
   ⟨0x9000, 0, 0, 0, 0, 0, 0, 0x1, 0, 0⟩,
   ⟨0x9004, 0, 0, 0, 0, 0, 0, 0, 0x2, 0⟩]

/-- The words of the block: Device identity, state, marks, shadows and telemetry (R45). -/
def wordsDv : List RegWord :=
  [⟨0x0, 0, 0, 0, 0, 0, 0, 0, 0, 1⟩,
   ⟨0x4, 0, 0, 0, 0, 0, 0, 0, 0, 2⟩,
   ⟨0x8, 0, 0, 0, 0, 0, 0, 0, (0x880 + Config.stepping.toNat % 2 ^ 8 * 2 ^ 16), 0⟩,
   ⟨0xC, 0, 0, 0, 0, 0, 0, 0, 0x1, 0⟩,
   ⟨0x10, 0, 0, 0, 0, 0, 0, 0, 0, 1⟩,
   ⟨0x14, 0, 0, 0, 0, 0, 0, 0, 0, 2⟩,
   ⟨0x100, 0, 0, 0, 0, 0, 0, 0x1, 0, 0⟩,
   ⟨0x104, 0, 0, 0, 0, 0, 0, 0, 0, 0⟩,
   ⟨0x108, 0, 0, 0, 0, 0, 0, 0, 0, 1⟩,
   ⟨0x10C, 0, 0, 0, 0, 0, 0, 0, 0, 2⟩,
   ⟨0x110, 0, 0, 0, 0, 0, 0, 0, 0, 0⟩,
   ⟨0x200, 0, 0, 0, 0, 0xFFFFFFFF, 0, 0, 0, 0⟩,
   ⟨0x8000, 4, 256, 0, 0, 0, 0, 0, 0, 0⟩,
   ⟨0x400, 0, 0, 0, 0, 0, 0, 0, 0, 0⟩,
   ⟨0x408, 0, 0, 0, 0, 0, 0, 0, 0, 1⟩,
   ⟨0x40C, 0, 0, 0, 0, 0, 0, 0, 0, 2⟩,
   ⟨0x410, 0, 0, 0, 0, 0, 0, 0, 0, 0⟩,
   ⟨0x414, 0, 0, 0, 0, 0, 0, 0, 0, 0⟩,
   ⟨0x418, 0, 0, 0, 0, 0, 0, 0, 0, 0⟩]

/-- The words of the block: Physical core. -/
def wordsCo : List RegWord :=
  [⟨0x800, 0, 0, 0, 0, 0, 0x1F, 0, 0, 0⟩,
   ⟨0x808, 0, 0, 0, 0, 0, 0, 0, 0, 1⟩,
   ⟨0x80C, 0, 0, 0, 0, 0, 0, 0, 0, 2⟩,
   ⟨0x810, 0, 0, 0, 0, 0, 0, 0, 0, 1⟩,
   ⟨0x814, 0, 0, 0, 0, 0, 0, 0, 0, 2⟩,
   ⟨0x818, 0, 0, 0, 0, 0, 0, 0, 0, 1⟩,
   ⟨0x81C, 0, 0, 0, 0, 0, 0, 0, 0, 2⟩,
   ⟨0x820, 0, 0, 0, 0, 0, 0, 0, 0, 1⟩,
   ⟨0x824, 0, 0, 0, 0, 0, 0, 0, 0, 2⟩,
   ⟨0x828, 0, 0, 0, 0, 0, 0, 0, 0, 1⟩,
   ⟨0x82C, 0, 0, 0, 0, 0, 0, 0, 0, 2⟩,
   ⟨0x830, 0, 0, 0, 0, 0, 0, 0, 0, 1⟩,
   ⟨0x834, 0, 0, 0, 0, 0, 0, 0, 0, 2⟩,
   ⟨0x838, 0, 0, 0, 0, 0, 0, 0, 0, 1⟩,
   ⟨0x83C, 0, 0, 0, 0, 0, 0, 0, 0, 2⟩,
   ⟨0x840, 0, 0, 0, 0, 0, 0, 0, 0, 1⟩,
   ⟨0x844, 0, 0, 0, 0, 0, 0, 0, 0, 2⟩,
   ⟨0x848, 0, 0, 0, 0, 0, 0, 0x1, 0, 0⟩,
   ⟨0x0, 0, 0, 0, 0, 0, 0, 0, 0xF, 0⟩,
   ⟨0x8, 0, 0, 0, 0, 0, 0, 0, 0, 1⟩,
   ⟨0xC, 0, 0, 0, 0, 0, 0, 0, 0, 2⟩,
   ⟨0x100, 8, 12, 0, 0, 0, 0, 0, 0, 1⟩,
   ⟨0x104, 8, 12, 0, 0, 0, 0, 0, 0, 2⟩,
   ⟨0x200, 4, 16, 0, 0, 0, 0, 0, 0, 0⟩,
   ⟨0x300, 0, 0, 0, 0, 0, 0, 0, 0, 1⟩,
   ⟨0x304, 0, 0, 0, 0, 0, 0, 0, 0, 2⟩,
   ⟨0x308, 0, 0, 0, 0, 0, 0, 0, 0, 1⟩,
   ⟨0x30C, 0, 0, 0, 0, 0, 0, 0, 0, 2⟩,
   ⟨0x900, 0, 0, 0, 0, 0, 0x7, 0, 0, 0⟩,
   ⟨0x908, 0, 0, 0, 0, 0, 0, 0, 0, 1⟩] ++
  [⟨0x90C, 0, 0, 0, 0, 0, 0, 0, 0, 2⟩,
   ⟨0x910, 0, 0, 0, 0, 0, 0, 0, 0, 1⟩,
   ⟨0x914, 0, 0, 0, 0, 0, 0, 0, 0, 2⟩,
   ⟨0x918, 0, 0, 0, 0, 0, 0, 0, 0, 1⟩,
   ⟨0x91C, 0, 0, 0, 0, 0, 0, 0, 0, 2⟩,
   ⟨0x920, 0, 0, 0, 0, 0, 0, 0, 0, 1⟩,
   ⟨0x924, 0, 0, 0, 0, 0, 0, 0, 0, 2⟩,
   ⟨0x928, 0, 0, 0, 0, 0, 0, 0, 0, 1⟩,
   ⟨0x92C, 0, 0, 0, 0, 0, 0, 0, 0, 2⟩,
   ⟨0x930, 0, 0, 0, 0, 0, 0, 0, 0, 1⟩,
   ⟨0x934, 0, 0, 0, 0, 0, 0, 0, 0, 2⟩,
   ⟨0x938, 0, 0, 0, 0, 0, 0, 0x1, 0, 0⟩,
   ⟨0xA00, 0, 0, 0, 0, 0, 0x7, 0, 0, 0⟩,
   ⟨0xA08, 0, 0, 0, 0, 0, 0, 0, 0, 1⟩,
   ⟨0xA0C, 0, 0, 0, 0, 0, 0, 0, 0, 2⟩,
   ⟨0xA10, 0, 0, 0, 0, 0, 0, 0, 0, 1⟩,
   ⟨0xA14, 0, 0, 0, 0, 0, 0, 0, 0, 2⟩,
   ⟨0xA18, 0, 0, 0, 0, 0, 0, 0, 0, 1⟩,
   ⟨0xA1C, 0, 0, 0, 0, 0, 0, 0, 0, 2⟩,
   ⟨0xA20, 0, 0, 0, 0, 0, 0, 0x1, 0, 0⟩,
   ⟨0xB00, 0, 0, 0, 0, 0, 0, 0, 0, 1⟩,
   ⟨0xB04, 0, 0, 0, 0, 0, 0, 0, 0, 2⟩,
   ⟨0xB08, 0, 0, 0, 0, 0, 0, 0, 0, 1⟩,
   ⟨0xB0C, 0, 0, 0, 0, 0, 0, 0, 0, 2⟩,
   ⟨0xB10, 0, 0, 0, 0, 0, 0, 0, 0, 1⟩,
   ⟨0xB14, 0, 0, 0, 0, 0, 0, 0, 0, 2⟩,
   ⟨0xB18, 0, 0, 0, 0, 0, 0, 0, 0, 1⟩,
   ⟨0xB1C, 0, 0, 0, 0, 0, 0, 0, 0, 2⟩,
   ⟨0xB20, 0, 0, 0, 0, 0, 0, 0, 0, 1⟩,
   ⟨0xB24, 0, 0, 0, 0, 0, 0, 0, 0, 2⟩] ++
  [⟨0xB28, 0, 0, 0, 0, 0, 0, 0, 0, 1⟩,
   ⟨0xB2C, 0, 0, 0, 0, 0, 0, 0, 0, 2⟩,
   ⟨0xB30, 0, 0, 0, 0, 0, 0, 0x1, 0, 0⟩]

/-- The words of the block: Region store control. -/
def wordsRs : List RegWord :=
  [⟨0x0, 0, 0, 0, 0, 0, 0x5F, 0, 0, 0⟩,
   ⟨0x8, 0, 0, 0, 0, 0, 0, 0, 0, 1⟩,
   ⟨0xC, 0, 0, 0, 0, 0, 0, 0, 0, 2⟩,
   ⟨0x10, 0, 0, 0, 0, 0, 0, 0, 0, 1⟩,
   ⟨0x14, 0, 0, 0, 0, 0, 0, 0, 0, 2⟩,
   ⟨0x18, 0, 0, 0, 0, 0, 0, 0, 0, 1⟩,
   ⟨0x1C, 0, 0, 0, 0, 0, 0, 0, 0, 2⟩,
   ⟨0x20, 0, 0, 0, 0, 0, 0, 0, 0, 1⟩,
   ⟨0x24, 0, 0, 0, 0, 0, 0, 0, 0, 2⟩,
   ⟨0x28, 0, 0, 0, 0, 0, 0, 0x1, 0, 0⟩,
   ⟨0x30, 0, 0, 0, 0, 0x1, 0, 0, 0x1, 0⟩,
   ⟨0x38, 0, 0, 0, 0, 0, 0, 0, 0, 0⟩,
   ⟨0x40, 0, 0, 0, 0, 0xFFFFFFFF, 0, 0, 0, 1⟩,
   ⟨0x44, 0, 0, 0, 0, 0xFFFFFFFF, 0, 0, 0, 2⟩,
   ⟨0x48, 0, 0, 0, 0, 0xFF, 0, 0, 0, 0⟩,
   ⟨0x50, 0, 0, 0, 0, 0, 0, 0, 0, 1⟩,
   ⟨0x54, 0, 0, 0, 0, 0, 0, 0, 0, 2⟩,
   ⟨0x58, 0, 0, 0, 0, 0, 0, 0, 0, 0⟩,
   ⟨0x1000, 32, 512, 0, 0, 0xFFFFFFFF, 0, 0, 0, 1⟩,
   ⟨0x1004, 32, 512, 0, 0, 0xFFFF, 0, 0, 0, 2⟩,
   ⟨0x1008, 32, 512, 0, 0, 0xFFFF00FF, 0, 0, 0, 0⟩,
   ⟨0x100C, 32, 512, 0, 0, 0, 0, 0, 0, 0⟩,
   ⟨0x1010, 32, 512, 0, 0, 0, 0, 0, 0, 1⟩,
   ⟨0x1014, 32, 512, 0, 0, 0, 0, 0, 0, 2⟩,
   ⟨0x1018, 32, 512, 0, 0, 0, 0, 0, 0, 1⟩,
   ⟨0x101C, 32, 512, 0, 0, 0, 0, 0, 0, 2⟩,
   ⟨0x8000, 64, 256, 4, 8, 0xFFFFFFFF, 0, 0, 0, 0⟩,
   ⟨0x8020, 64, 256, 0, 0, 0, 0, 0, 0, 0⟩,
   ⟨0x8024, 64, 256, 0, 0, 0, 0, 0x3, 0, 0⟩,
   ⟨0x8028, 64, 256, 0, 0, 0, 0, 0, 0, 1⟩] ++
  [⟨0x802C, 64, 256, 0, 0, 0, 0, 0, 0, 2⟩,
   ⟨0x8030, 64, 256, 0, 0, 0, 0, 0, 0, 0⟩,
   ⟨0x8034, 64, 256, 0, 0, 0, 0, 0, 0, 0⟩]

/-- The words of the block: Stream channel. -/
def wordsSt : List RegWord :=
  [⟨0x0, 0, 0, 0, 0, 0, 0, 0, 0, 1⟩,
   ⟨0x4, 0, 0, 0, 0, 0, 0, 0, 0, 2⟩,
   ⟨0x8, 0, 0, 0, 0, 0, 0x7, 0, 0, 0⟩,
   ⟨0x10, 0, 0, 0, 0, 0, 0, 0, 0, 1⟩,
   ⟨0x14, 0, 0, 0, 0, 0, 0, 0, 0, 2⟩,
   ⟨0x18, 0, 0, 0, 0, 0, 0, 0, 0, 1⟩,
   ⟨0x1C, 0, 0, 0, 0, 0, 0, 0, 0, 2⟩,
   ⟨0x20, 0, 0, 0, 0, 0, 0, 0, 0, 1⟩,
   ⟨0x24, 0, 0, 0, 0, 0, 0, 0, 0, 2⟩,
   ⟨0x28, 0, 0, 0, 0, 0, 0, 0, 0, 1⟩,
   ⟨0x2C, 0, 0, 0, 0, 0, 0, 0, 0, 2⟩,
   ⟨0x30, 0, 0, 0, 0, 0, 0, 0, 0, 1⟩,
   ⟨0x34, 0, 0, 0, 0, 0, 0, 0, 0, 2⟩,
   ⟨0x38, 0, 0, 0, 0, 0, 0, 0x1, 0, 0⟩,
   ⟨0x40, 4, 8, 0, 0, 0, 0, 0, 0xFFFFFFFF, 0⟩,
   ⟨0x60, 4, 8, 0, 0, 0, 0, 0, 0, 0⟩]

/-- The words of the block: Pile. -/
def wordsPl : List RegWord :=
  [⟨0x0, 0, 0, 0, 0, 0, 0, 0, 0, 0⟩,
   ⟨0x8, 0, 0, 0, 0, 0, 0x3F, 0, 0, 0⟩,
   ⟨0x10, 0, 0, 0, 0, 0, 0, 0, 0, 1⟩,
   ⟨0x14, 0, 0, 0, 0, 0, 0, 0, 0, 2⟩,
   ⟨0x18, 0, 0, 0, 0, 0, 0, 0, 0, 1⟩,
   ⟨0x1C, 0, 0, 0, 0, 0, 0, 0, 0, 2⟩,
   ⟨0x20, 0, 0, 0, 0, 0, 0, 0, 0, 1⟩,
   ⟨0x24, 0, 0, 0, 0, 0, 0, 0, 0, 2⟩,
   ⟨0x28, 0, 0, 0, 0, 0, 0, 0, 0, 1⟩,
   ⟨0x2C, 0, 0, 0, 0, 0, 0, 0, 0, 2⟩,
   ⟨0x30, 0, 0, 0, 0, 0, 0, 0, 0, 1⟩,
   ⟨0x34, 0, 0, 0, 0, 0, 0, 0, 0, 2⟩,
   ⟨0x38, 0, 0, 0, 0, 0, 0, 0, 0, 1⟩,
   ⟨0x3C, 0, 0, 0, 0, 0, 0, 0, 0, 2⟩,
   ⟨0x40, 0, 0, 0, 0, 0, 0, 0x1, 0, 0⟩,
   ⟨0x44, 0, 0, 0, 0, 0x1, 0, 0, 0x1, 0⟩,
   ⟨0x48, 0, 0, 0, 0, 0, 0, 0, 0, 1⟩,
   ⟨0x4C, 0, 0, 0, 0, 0, 0, 0, 0, 2⟩,
   ⟨0x50, 0, 0, 0, 0, 0, 0, 0, 0, 1⟩,
   ⟨0x54, 0, 0, 0, 0, 0, 0, 0, 0, 2⟩,
   ⟨0x58, 0, 0, 0, 0, 0, 0, 0, 0, 0⟩,
   ⟨0x100, 0, 0, 0, 0, 0, 0, 0x7, 0, 0⟩,
   ⟨0x104, 0, 0, 0, 0, 0, 0, 0, 0, 0⟩,
   ⟨0x108, 0, 0, 0, 0, 0xFFFFFFFF, 0, 0, 0, 1⟩,
   ⟨0x10C, 0, 0, 0, 0, 0xFFFF, 0, 0, 0, 2⟩,
   ⟨0x110, 0, 0, 0, 0, 0xFFFFFFFF, 0, 0, 0, 1⟩,
   ⟨0x114, 0, 0, 0, 0, 0xFFFF, 0, 0, 0, 2⟩,
   ⟨0x118, 0, 0, 0, 0, 0xFFFFFFFF, 0, 0, 0, 1⟩,
   ⟨0x11C, 0, 0, 0, 0, 0xFFFF, 0, 0, 0, 2⟩,
   ⟨0x120, 0, 0, 0, 0, 0xFFFFFFFF, 0, 0, 0, 1⟩] ++
  [⟨0x124, 0, 0, 0, 0, 0xFFFFFFFF, 0, 0, 0, 2⟩,
   ⟨0x128, 0, 0, 0, 0, 0xFFFFFFFF, 0, 0, 0, 1⟩,
   ⟨0x12C, 0, 0, 0, 0, 0xFFFFFFFF, 0, 0, 0, 2⟩,
   ⟨0x130, 0, 0, 0, 0, 0, 0, 0, 0, 1⟩,
   ⟨0x134, 0, 0, 0, 0, 0, 0, 0, 0, 2⟩]

/-- The words of the block: Lamplighter. -/
def wordsLl : List RegWord :=
  [⟨0x0, 0, 0, 0, 0, 0, 0, 0, 0, 0⟩,
   ⟨0x8, 0, 0, 0, 0, 0xFFFFFFFF, 0, 0, 0, 1⟩,
   ⟨0xC, 0, 0, 0, 0, 0xFFFF, 0, 0, 0, 2⟩,
   ⟨0x10, 0, 0, 0, 0, 0, 0, 0xFFFF0003, 0, 0⟩,
   ⟨0x14, 0, 0, 0, 0, 0, 0, 0, 0, 0⟩,
   ⟨0x18, 0, 0, 0, 0, 0, 0, 0, 0, 0⟩,
   ⟨0x20, 0, 0, 0, 0, 0, 0, 0, 0, 1⟩,
   ⟨0x24, 0, 0, 0, 0, 0, 0, 0, 0, 2⟩,
   ⟨0x28, 0, 0, 0, 0, 0, 0, 0, 0, 1⟩,
   ⟨0x2C, 0, 0, 0, 0, 0, 0, 0, 0, 2⟩,
   ⟨0x30, 0, 0, 0, 0, 0, 0, 0, 0, 1⟩,
   ⟨0x34, 0, 0, 0, 0, 0, 0, 0, 0, 2⟩,
   ⟨0x38, 0, 0, 0, 0, 0, 0, 0, 0, 1⟩,
   ⟨0x3C, 0, 0, 0, 0, 0, 0, 0, 0, 2⟩,
   ⟨0x40, 0, 0, 0, 0, 0, 0, 0, 0, 0⟩,
   ⟨0x44, 0, 0, 0, 0, 0, 0, 0, 0, 0⟩,
   ⟨0x48, 0, 0, 0, 0, 0, 0x7, 0, 0, 0⟩,
   ⟨0x4C, 0, 0, 0, 0, 0, 0, 0x1, 0, 0⟩]

/-- The words of the block: Ethernet port. -/
def wordsEt : List RegWord :=
  [⟨0x0, 0, 0, 0, 0, 0x3FFFF, 0, 0, 0x24000, 0⟩,
   ⟨0x4, 0, 0, 0, 0, 0, 0, 0, 0, 0⟩,
   ⟨0x8, 0, 0, 0, 0, 0, 0x1F, 0, 0, 0⟩,
   ⟨0x10, 0, 0, 0, 0, 0, 0, 0, 0, 1⟩,
   ⟨0x14, 0, 0, 0, 0, 0, 0, 0, 0, 2⟩,
   ⟨0x18, 0, 0, 0, 0, 0, 0, 0, 0, 1⟩,
   ⟨0x1C, 0, 0, 0, 0, 0, 0, 0, 0, 2⟩,
   ⟨0x20, 0, 0, 0, 0, 0, 0, 0, 0, 1⟩,
   ⟨0x24, 0, 0, 0, 0, 0, 0, 0, 0, 2⟩,
   ⟨0x28, 0, 0, 0, 0, 0, 0, 0, 0, 1⟩,
   ⟨0x2C, 0, 0, 0, 0, 0, 0, 0, 0, 2⟩,
   ⟨0x30, 0, 0, 0, 0, 0, 0, 0, 0, 1⟩,
   ⟨0x34, 0, 0, 0, 0, 0, 0, 0, 0, 2⟩,
   ⟨0x38, 0, 0, 0, 0, 0, 0, 0, 0, 1⟩,
   ⟨0x3C, 0, 0, 0, 0, 0, 0, 0, 0, 2⟩,
   ⟨0x40, 0, 0, 0, 0, 0, 0, 0, 0, 1⟩,
   ⟨0x44, 0, 0, 0, 0, 0, 0, 0, 0, 2⟩,
   ⟨0x48, 0, 0, 0, 0, 0, 0, 0, 0, 1⟩,
   ⟨0x4C, 0, 0, 0, 0, 0, 0, 0, 0, 2⟩,
   ⟨0x50, 0, 0, 0, 0, 0, 0, 0x1, 0, 0⟩,
   ⟨0x54, 0, 0, 0, 0, 0x7F7F, 0, 0, 0x4060, 0⟩,
   ⟨0x58, 0, 0, 0, 0, 0, 0, 0, 0, 0⟩,
   ⟨0x5C, 0, 0, 0, 0, 0xFFFF00FF, 0, 0, 0xFFFF0000, 0⟩,
   ⟨0x60, 0, 0, 0, 0, 0xFFFFFFFF, 0, 0, 0, 1⟩,
   ⟨0x64, 0, 0, 0, 0, 0xFFFF, 0, 0, 0, 2⟩,
   ⟨0x68, 0, 0, 0, 0, 0xFFFFFFFF, 0, 0, 0, 1⟩,
   ⟨0x6C, 0, 0, 0, 0, 0xFFFF, 0, 0, 0, 2⟩,
   ⟨0x70, 0, 0, 0, 0, 0x7FFF, 0, 0, 0, 0⟩,
   ⟨0x74, 0, 0, 0, 0, 0xFF3F03, 0, 0, 0, 0⟩,
   ⟨0x78, 0, 0, 0, 0, 0xFFFFFFFF, 0, 0, 0, 0⟩] ++
  [⟨0x7C, 0, 0, 0, 0, 0xFFFFFFFF, 0, 0, 0, 0⟩,
   ⟨0x80, 4, 4, 0, 0, 0xFFFFFFFF, 0, 0, 0, 0⟩,
   ⟨0x90, 4, 4, 0, 0, 0xFFFFFFFF, 0, 0, 0, 0⟩,
   ⟨0xA0, 0, 0, 0, 0, 0xFFF, 0, 0, 0x3, 0⟩,
   ⟨0xA8, 0, 0, 0, 0, 0, 0, 0, 0, 1⟩,
   ⟨0xAC, 0, 0, 0, 0, 0, 0, 0, 0, 2⟩,
   ⟨0xB0, 0, 0, 0, 0, 0xFFFFFFFF, 0, 0, 0, 1⟩,
   ⟨0xB4, 0, 0, 0, 0, 0xFFFFFFFF, 0, 0, 0, 2⟩,
   ⟨0x100, 64, 8, 0, 0, 0x1F, 0, 0, 0, 0⟩,
   ⟨0x104, 64, 8, 0, 0, 0xFFFFFFFF, 0, 0, 0, 0⟩,
   ⟨0x108, 64, 8, 0, 0, 0xFFFFFFFF, 0, 0, 0x1, 1⟩,
   ⟨0x10C, 64, 8, 0, 0, 0xFFFFFFFF, 0, 0, 0, 2⟩,
   ⟨0x110, 64, 8, 4, 8, 0, 0, 0xFFFFFFFF, 0, 0⟩,
   ⟨0x130, 64, 8, 4, 3, 0, 0, 0xFFFFFFFF, 0, 0⟩]

/-- The words of the block: MBT engine. -/
def wordsMt : List RegWord :=
  [⟨0x0, 0, 0, 0, 0, 0xFFFFFF, 0, 0, 0x804D42, 0⟩,
   ⟨0x4, 0, 0, 0, 0, 0, 0, 0, 0, 0⟩,
   ⟨0x8, 0, 0, 0, 0, 0, 0xF, 0, 0, 0⟩,
   ⟨0x10, 0, 0, 0, 0, 0, 0, 0, 0, 1⟩,
   ⟨0x14, 0, 0, 0, 0, 0, 0, 0, 0, 2⟩,
   ⟨0x18, 0, 0, 0, 0, 0, 0, 0, 0, 1⟩,
   ⟨0x1C, 0, 0, 0, 0, 0, 0, 0, 0, 2⟩,
   ⟨0x20, 0, 0, 0, 0, 0, 0, 0, 0, 1⟩,
   ⟨0x24, 0, 0, 0, 0, 0, 0, 0, 0, 2⟩,
   ⟨0x28, 0, 0, 0, 0, 0, 0, 0, 0, 1⟩,
   ⟨0x2C, 0, 0, 0, 0, 0, 0, 0, 0, 2⟩,
   ⟨0x30, 0, 0, 0, 0, 0, 0, 0, 0, 1⟩,
   ⟨0x34, 0, 0, 0, 0, 0, 0, 0, 0, 2⟩,
   ⟨0x38, 0, 0, 0, 0, 0, 0, 0, 0, 1⟩,
   ⟨0x3C, 0, 0, 0, 0, 0, 0, 0, 0, 2⟩,
   ⟨0x40, 0, 0, 0, 0, 0, 0, 0x1, 0, 0⟩,
   ⟨0x100, 32, 16, 4, 4, 0xFFFFFFFF, 0, 0, 0, 0⟩,
   ⟨0x110, 32, 16, 0, 0, 0x1FF, 0, 0, 0, 0⟩,
   ⟨0x400, 32, 16, 0, 0, 0xFFFFFFFF, 0, 0, 0, 1⟩,
   ⟨0x404, 32, 16, 0, 0, 0xFFFF, 0, 0, 0, 2⟩,
   ⟨0x408, 32, 16, 0, 0, 0xFFFFFFFF, 0, 0, 0, 1⟩,
   ⟨0x40C, 32, 16, 0, 0, 0xF, 0, 0, 0, 2⟩,
   ⟨0x410, 32, 16, 0, 0, 0xFFFF0003, 0, 0, 0xFFFF0000, 0⟩,
   ⟨0x800, 0, 0, 0, 0, 0xFFF, 0, 0, 0, 0⟩,
   ⟨0x804, 0, 0, 0, 0, 0, 0, 0x7, 0, 0⟩,
   ⟨0x808, 0, 0, 0, 0, 0xFFFFFFFF, 0, 0, 0xFFFF4D42, 0⟩,
   ⟨0x810, 4, 4, 0, 0, 0xFFFFFFFF, 0, 0, 0, 0⟩,
   ⟨0x820, 0, 0, 0, 0, 0, 0, 0, 0, 0⟩,
   ⟨0x824, 0, 0, 0, 0, 0, 0, 0, 0, 0⟩,
   ⟨0x828, 0, 0, 0, 0, 0, 0, 0, 0, 0⟩] ++
  [⟨0x82C, 0, 0, 0, 0, 0, 0, 0, 0, 0⟩,
   ⟨0x830, 4, 4, 0, 0, 0, 0, 0, 0, 0⟩]

/-- The words of the block: Tether. -/
def wordsTt : List RegWord :=
  [⟨0x0, 0, 0, 0, 0, 0, 0, 0, 0x40, 0⟩,
   ⟨0x4, 0, 0, 0, 0, 0, 0xF, 0, 0, 0⟩,
   ⟨0x8, 0, 0, 0, 0, 0xFFFF, 0, 0, 0xFA0, 0⟩,
   ⟨0xC, 0, 0, 0, 0, 0, 0, 0x3, 0, 0⟩,
   ⟨0x10, 0, 0, 0, 0, 0, 0, 0, 0, 1⟩,
   ⟨0x14, 0, 0, 0, 0, 0, 0, 0, 0, 2⟩,
   ⟨0x18, 0, 0, 0, 0, 0, 0, 0, 0, 1⟩,
   ⟨0x1C, 0, 0, 0, 0, 0, 0, 0, 0, 2⟩,
   ⟨0x20, 0, 0, 0, 0, 0, 0, 0, 0, 1⟩,
   ⟨0x24, 0, 0, 0, 0, 0, 0, 0, 0, 2⟩,
   ⟨0x28, 0, 0, 0, 0, 0, 0, 0, 0, 1⟩,
   ⟨0x2C, 0, 0, 0, 0, 0, 0, 0, 0, 2⟩,
   ⟨0x30, 0, 0, 0, 0, 0, 0, 0, 0, 1⟩,
   ⟨0x34, 0, 0, 0, 0, 0, 0, 0, 0, 2⟩,
   ⟨0x38, 0, 0, 0, 0, 0, 0, 0x1, 0, 0⟩,
   ⟨0x3C, 0, 0, 0, 0, 0, 0, 0, 0, 0⟩,
   ⟨0x40, 0, 0, 0, 0, 0, 0, 0, 0, 0⟩,
   ⟨0x44, 0, 0, 0, 0, 0, 0, 0, 0, 0⟩,
   ⟨0x100, 4, 24, 0, 0, 0xFFFFFFFF, 0, 0, 0, 0⟩,
   ⟨0x160, 0, 0, 0, 0, 0x1, 0, 0, 0, 0⟩]

/-- The words of the block: Error record header. -/
def wordsEr : List RegWord :=
  [⟨0x0, 0, 0, 0, 0, 0, 0x6, 0x8, 0, 0⟩,
   ⟨0x4, 0, 0, 0, 0, 0, 0, 0, 0, 0⟩,
   ⟨0x8, 0, 0, 0, 0, 0, 0, 0, 0, 1⟩,
   ⟨0xC, 0, 0, 0, 0, 0, 0, 0, 0, 2⟩,
   ⟨0x10, 0, 0, 0, 0, 0, 0, 0, 0, 1⟩,
   ⟨0x14, 0, 0, 0, 0, 0, 0, 0, 0, 2⟩,
   ⟨0x18, 0, 0, 0, 0, 0, 0, 0, 0, 1⟩,
   ⟨0x1C, 0, 0, 0, 0, 0, 0, 0, 0, 2⟩]

/-- The words of the block: Taper gauges. -/
def wordsTp : List RegWord :=
  [⟨0x0, 0, 0, 0, 0, 0, 0, 0, 0x320000, 0⟩,
   ⟨0x4, 0, 0, 0, 0, 0xFFFFFF, 0, 0, 0x180F28, 0⟩,
   ⟨0x8, 0, 0, 0, 0, 0, 0, 0x1, 0, 0⟩,
   ⟨0x10, 4, 4, 0, 0, 0, 0, 0, 0, 0⟩,
   ⟨0x20, 0, 0, 0, 0, 0, 0, 0, 0, 1⟩,
   ⟨0x24, 0, 0, 0, 0, 0, 0, 0, 0, 2⟩,
   ⟨0x28, 0, 0, 0, 0, 0, 0, 0, 0, 1⟩,
   ⟨0x2C, 0, 0, 0, 0, 0, 0, 0, 0, 2⟩]

/-- The words of the block: Power manager. -/
def wordsPw : List RegWord :=
  [⟨0x0, 0, 0, 0, 0, 0, 0, 0, 0x9, 0⟩,
   ⟨0x4, 0, 0, 0, 0, 0, 0, 0x3, 0, 0⟩,
   ⟨0x8, 0, 0, 0, 0, 0, 0, 0, 0x7F, 0⟩,
   ⟨0xC, 0, 0, 0, 0, 0, 0xF, 0, 0, 0⟩,
   ⟨0x10, 0, 0, 0, 0, 0xFF, 0, 0, 0xF0, 0⟩,
   ⟨0x14, 0, 0, 0, 0, 0, 0x1F, 0, 0, 0⟩,
   ⟨0x20, 4, 6, 0, 0, 0, 0, 0, 0, 0⟩]

/-- The words of the block: Clock manager. -/
def wordsCk : List RegWord :=
  [⟨0x0, 0, 0, 0, 0, 0, 0, 0, 0, 0⟩,
   ⟨0x4, 0, 0, 0, 0, 0x3, 0, 0, 0, 0⟩,
   ⟨0x8, 0, 0, 0, 0, 0, 0, 0, 0, 1⟩,
   ⟨0xC, 0, 0, 0, 0, 0, 0, 0, 0, 2⟩,
   ⟨0x10, 0, 0, 0, 0, 0, 0, 0xFFFFFFFF, 0, 1⟩,
   ⟨0x14, 0, 0, 0, 0, 0, 0, 0xFFFFFFFF, 0, 2⟩,
   ⟨0x18, 0, 0, 0, 0, 0, 0, 0, 0, 1⟩,
   ⟨0x1C, 0, 0, 0, 0, 0, 0, 0, 0x80, 2⟩,
   ⟨0x20, 0, 0, 0, 0, 0, 0, 0, 0xFFFFFFFF, 1⟩,
   ⟨0x24, 0, 0, 0, 0, 0, 0, 0, 0x7F, 2⟩,
   ⟨0x28, 0, 0, 0, 0, 0, 0x7, 0, 0, 0⟩,
   ⟨0x2C, 0, 0, 0, 0, 0, 0, 0, 0, 0⟩]

/-- The words of the block: Security. -/
def wordsSc : List RegWord :=
  [⟨0x0, 0, 0, 0, 0, 0, 0, 0, 0, 0⟩,
   ⟨0x4, 0, 0, 0, 0, 0, 0, 0, 0, 0⟩,
   ⟨0x8, 0, 0, 0, 0, 0, 0, 0x7, 0, 0⟩,
   ⟨0x10, 0, 0, 0, 0, 0xFFFFFFFF, 0, 0, 0, 1⟩,
   ⟨0x14, 0, 0, 0, 0, 0xFFFF, 0, 0, 0, 2⟩,
   ⟨0x18, 0, 0, 0, 0, 0x1, 0, 0, 0, 0⟩,
   ⟨0x1C, 0, 0, 0, 0, 0x1, 0, 0, 0, 0⟩,
   ⟨0x20, 0, 0, 0, 0, 0x1, 0, 0, 0, 0⟩,
   ⟨0x24, 0, 0, 0, 0, 0, 0, 0, 0, 0⟩,
   ⟨0x28, 0, 0, 0, 0, 0, 0, 0, 0, 0⟩,
   ⟨0x40, 4, 16, 0, 0, 0xFFFFFFFF, 0, 0, 0, 0⟩,
   ⟨0x80, 4, 8, 0, 0, 0xFFFFFFFF, 0, 0, 0, 0⟩,
   ⟨0xC0, 4, 16, 0, 0, 0, 0, 0, 0, 0⟩,
   ⟨0x100, 4, 128, 0, 0, 0, 0, 0xFFFFFFFF, 0, 0⟩,
   ⟨0x300, 4, 129, 0, 0, 0, 0, 0xFFFFFFFF, 0, 0⟩,
   ⟨0x800, 4, 256, 0, 0, 0, 0, 0, 0, 0⟩,
   ⟨0x1000, 4, 1024, 0, 0, 0, 0, 0, 0, 0⟩]

/-- The words of the block: Ember store. -/
def wordsEm : List RegWord :=
  [⟨0x0, 0, 0, 0, 0, 0, 0, 0, 0, 0⟩,
   ⟨0x4, 0, 0, 0, 0, 0, 0, 0x1, 0, 0⟩,
   ⟨0x8, 0, 0, 0, 0, 0, 0, 0, 0, 1⟩,
   ⟨0xC, 0, 0, 0, 0, 0, 0, 0, 0, 2⟩,
   ⟨0x10, 0, 0, 0, 0, 0x7F, 0, 0, 0x5A, 0⟩,
   ⟨0x1000, 4, 2048, 0, 0, 0, 0, 0, 0, 0⟩]

end Sys2Proof.Machine
end

