-- ==== Sys2Proof/Machine/RegMap.lean ====
section
/-! DEFINITION. Control-space addresses: the blocks of R45 to R49, the word table that applies at an address, the reset value of every
word, and the addresses of the registers of each unit. -/

namespace Sys2Proof.Machine

/-- The arbiters of a region, with offset in its AR_ block, policy and number of requesters (R489). -/
def regionArbiters : List (Nat × Nat × Nat) := [(0x0, 0, 12), (0x400, 1, 10), (0x800, 1, 10), (0xC00, 1, 10)]
/-- The six link-direction arbiters of the hub (R489). -/
def hubArbiters : List (Nat × Nat × Nat) :=
  [(0x0, 1, 4), (0x200, 1, 4), (0x400, 1, 4), (0x600, 1, 4), (0x800, 1, 4), (0xA00, 1, 4)]
/-- The staging-port arbiter of a core (R489). -/
def coreArbiters : List (Nat × Nat × Nat) := [(0x100, 1, 10)]

/-- The requester entries of an arbiter, from offset `b` (R490, R491). -/
def arEntries (b n : Nat) : List RegWord :=
  [⟨b, 32, n, 0, 0, 0, 0, 0, 0, 1⟩, ⟨b + 4, 32, n, 0, 0, 0, 0, 0, 0, 2⟩,
   ⟨b + 8, 32, n, 0, 0, 0, 0, 0, 0, 1⟩, ⟨b + 12, 32, n, 0, 0, 0, 0, 0, 0, 2⟩,
   ⟨b + 16, 32, n, 0, 0, 0, 0, 0, 0, 1⟩, ⟨b + 20, 32, n, 0, 0, 0, 0, 0, 0, 2⟩,
   ⟨b + 24, 32, n, 0, 0, 0, 0, 0, 1, 0⟩]

/-- The words of one arbiter record (R490, R491). -/
def arWords (a : Nat × Nat × Nat) : List RegWord :=
  ⟨a.1, 0, 0, 0, 0, 0xFF, 0, 0, 0x0F + a.2.1 * 2 ^ 8 + a.2.2 * 2 ^ 16, 0⟩ ::
  ⟨a.1 + 4, 0, 0, 0, 0, 0, 0, 0, 0x0F, 0⟩ ::
  ⟨a.1 + 8, 0, 0, 0, 0, 0, 0, 1, 0, 0⟩ :: arEntries (a.1 + 0x20) a.2.2

/-- The words of an error record with `n` entries (R458, R459): the valid bit is bit 24 of word 0 of an entry. -/
def erWords (n : Nat) : List RegWord :=
  wordsEr ++ [⟨0x20, 32, n, 0, 0, 0, 0x1000000, 0, 0, 0⟩, ⟨0x24, 32, n, 4, 7, 0, 0, 0, 0, 0⟩]

/-- Whether a row of a word table names the offset. -/
def RegWord.hits (w : RegWord) (o : Nat) : Bool :=
  let c1 := max w.count1 1
  let c2 := max w.count2 1
  if o < w.off then false
  else
    let d := o - w.off
    if w.count1 = 0 then d == 0
    else
      let i := d / w.stride1
      let r := d % w.stride1
      decide (i < c1) && (if w.count2 = 0 then r == 0 else r % w.stride2 == 0 && decide (r / w.stride2 < c2))

/-- The row of a word table that names the offset. -/
def findWord (ws : List RegWord) (o : Nat) : Option RegWord := ws.find? fun w => w.hits o

/-- The block in which a control-space address lies (R45 to R49): its word table and the offset in it; none outside every block. -/
def blockOf (a : Nat) : Option (List RegWord × Nat) :=
  if a < 0xD0000 then
    let o := a % 0x10000
    some (match a / 0x10000 with
      | 0 => wordsDv | 1 => wordsHb | 2 => wordsLl | 3 => wordsMt | 4 => wordsEt | 5 => wordsEt | 6 => wordsTt
      | 7 => wordsSc | 8 => wordsEm | 9 => wordsCk | 10 => wordsPw | 11 => erWords 256
      | _ => hubArbiters.flatMap arWords, o)
  else if 0x10000000 ≤ a && a < 0x18000000 then
    let o := a % 0x1000000
    if o < 0x10000 then some (wordsRn, o)
    else if o < 0x18000 then some (wordsSt, o % 0x1000)
    else if o < 0x20000 then none
    else if o < 0x30000 then some (wordsRs, o % 0x10000)
    else if o < 0x40000 then some (wordsTp, o % 0x10000)
    else if o < 0x50000 then some (erWords 128, o % 0x10000)
    else if o < 0x60000 then some (regionArbiters.flatMap arWords, o % 0x10000)
    else if o < 0x100000 then none
    else if o < 0x1A0000 then
      let c := (o - 0x100000) % 0x4000
      if c < 0x1000 then some (wordsCo, c)
      else if c < 0x2000 then some (erWords 16, c % 0x1000)
      else if c < 0x3000 then some (erWords 1, c % 0x40)
      else some (arEntries 0 2 ++ [⟨0x40, 0, 0, 0, 0, 0, 0, 1, 0, 0⟩] ++ coreArbiters.flatMap arWords, c % 0x1000)
    else none
  else if 0x20000000 ≤ a && a < 0x20800000 then
    let o := a % 0x100000
    if o < 0x10000 then some (wordsPl, o)
    else if o < 0x20000 then some (erWords 128, o % 0x10000)
    else none
  else none

/-- The register word at an address, if its block's map names it. -/
def wordAt (a : Nat) : Option RegWord :=
  match blockOf a with
  | none => none
  | some (ws, o) => findWord ws o

/-- The reset value of the control-space word at an address (R35 to R542): reserved and unnamed words are 0 (R18). -/
def regReset (a : Nat) : W32 :=
  match wordAt a with
  | none => 0
  | some w => BitVec.ofNat 32 w.reset

/-! ### Unit addresses -/

/-- Base of region `n` (R46). -/
abbrev aRn (n : Nat) : Nat := 0x10000000 + n * 0x1000000
/-- Base of the region store control of region `n`. -/
abbrev aRs (n : Nat) : Nat := aRn n + 0x20000
/-- Base of stream channel `c` of region `n`. -/
abbrev aSt (n c : Nat) : Nat := aRn n + 0x10000 + c * 0x1000
/-- Base of the taper gauges of region `n`. -/
abbrev aTp (n : Nat) : Nat := aRn n + 0x30000
/-- Base of the error record of region `n`. -/
abbrev aErRn (n : Nat) : Nat := aRn n + 0x40000
/-- Base of the arbiter block of region `n`. -/
abbrev aArRn (n : Nat) : Nat := aRn n + 0x50000
/-- Base of physical core `k` of region `n` (R47). -/
abbrev aCo (n k : Nat) : Nat := aRn n + 0x100000 + k * 0x4000
/-- Base of the error record of a core. -/
abbrev aErCo (n k : Nat) : Nat := aCo n k + 0x1000
/-- Base of the error record of lane `l` of a core. -/
abbrev aErLane (n k l : Nat) : Nat := aCo n k + 0x2000 + l * 0x40
/-- Base of pile `n` (R48). -/
abbrev aPl (n : Nat) : Nat := 0x20000000 + n * 0x100000
/-- Base of the error record of pile `n`. -/
abbrev aErPl (n : Nat) : Nat := aPl n + 0x10000
/-- Base of the DV_ block. -/
abbrev aDv : Nat := 0
/-- Base of the HB_ block. -/
abbrev aHb : Nat := 0x10000
/-- Base of the LL_ block. -/
abbrev aLl : Nat := 0x20000
/-- Base of the MT_ block. -/
abbrev aMt : Nat := 0x30000
/-- Base of the ET_ block of port 0 (A) or 1 (B). -/
abbrev aEt (p : Nat) : Nat := 0x40000 + p * 0x10000
/-- Base of the TT_ block. -/
abbrev aTt : Nat := 0x60000
/-- Base of the SC_ block. -/
abbrev aSc : Nat := 0x70000
/-- Base of the EM_ block. -/
abbrev aEm : Nat := 0x80000
/-- Base of the CK_ block. -/
abbrev aCk : Nat := 0x90000
/-- Base of the PW_ block. -/
abbrev aPw : Nat := 0xA0000
/-- Base of the device error record. -/
abbrev aErDv : Nat := 0xB0000
/-- Base of the hub arbiter block. -/
abbrev aArHb : Nat := 0xC0000

end Sys2Proof.Machine
end

