-- ==== Sys2Proof/Machine/NetState.lean ====
section
/-! DEFINITION. The state of the Ethernet ports, the MBT sessions and the receive queues (R397 to R426), and the frames that leave. -/

namespace Sys2Proof.Machine

/-- An IP address: IPv6, or IPv4 mapped into IPv6 (R428). -/
abbrev Ip := BitVec 128

/-- An MBT message (R405), without its check field, which `Mbt.check` gives. -/
structure Mbt where
  type : Nat
  session : Nat
  seq : W32 := 0
  ack : W32 := 0
  ref : W32 := 0
  deadline : W64 := 0
  flags : Nat := 0
  body : List Byte := []
  deriving DecidableEq, Repr

/-- What a frame that leaves a port carries. -/
inductive Payload where
  /-- an MBT frame, with the UDP port it goes to -/
  | mbt (udp : Nat) (m : Mbt)
  /-- `mac` answers for `ip`, told to the hardware address `asker` -/
  | arpReply (ip : Ip) (mac asker : BitVec 48)
  | neighbourAdvert (ip : Ip) (mac asker : BitVec 48)
  | echoReply (data : List Byte)
  /-- who has `ip`? asked by `own`, whose hardware address is `mac` -/
  | arpRequest (ip own : Ip) (mac : BitVec 48)
  | neighbourSolicit (ip own : Ip) (mac : BitVec 48)
  /-- a PTP message over IEEE 802.3, UDP on IPv4 or UDP on IPv6 (R403) -/
  | ptp (transport : Nat) (data : List Byte)
  /-- a PFC frame: priorities and quanta (R426) -/
  | pause (classes : BitVec 8) (quanta : BitVec 16)
  deriving DecidableEq, Repr

/-- Whether a frame goes to the hardware address of one next hop, which the port has to know. -/
def Payload.unicast : Payload → Bool
  | .mbt _ _ | .echoReply _ => true
  | _ => false

/-- A frame that has left a port (R398, R400, R401, R404). -/
structure OutFrame where
  port : Nat
  /-- sublink it left on -/
  sub : Nat := 0
  at_ : W64
  vid : Nat
  pcp : Nat
  /-- transmit SA and packet number, when MACsec protects it -/
  sa : Option (Nat × Nat) := none
  srcMac : BitVec 48 := 0
  src : Ip := 0
  /-- its UDP source port, in a UDP datagram (log 72) -/
  srcUdp : Nat := 0
  dst : Ip := 0
  /-- next hop: the destination, or the gateway -/
  hop : Ip := 0
  payload : Payload
  deriving DecidableEq, Repr

/-- A sequenced message that the device keeps until an ack covers it (R413). -/
structure Sent where
  msg : Mbt
  /-- DT of its last transmission -/
  sentAt : W64
  deriving DecidableEq, Repr

/-- An MBT session (R408, R410). -/
structure Session where
  /-- 0 CLOSED, 1 OPENING, 2 OPEN, 3 SUSPENDED -/
  state : Nat := 0
  /-- home port -/
  home : Nat := 0
  localOpen : Bool := false
  /-- the last frame arrived protected -/
  protect : Bool := false
  /-- the peer reached the pair address: a pair session (R434, R446) -/
  pair : Bool := false
  addr : Ip := 0
  udp : BitVec 16 := 0
  peerSession : BitVec 16 := 0
  /-- seq of the next message handed to the session; `Session.nextSeq` is the one to leave next -/
  txSeq : W32 := 0
  /-- next seq that the device expects -/
  rxExpect : W32 := 0
  /-- the ack that its messages carry -/
  ackNo : W32 := 0
  unacked : List Sent := []
  waiting : List Mbt := []
  /-- DT at which the ack advanced and no message has carried it yet -/
  ackOwed : Option W64 := none
  /-- last NAK: expected number and DT -/
  lastNak : Option (W32 × W64) := none
  /-- retransmissions without the ack advancing -/
  retries : Nat := 0
  /-- OPENs sent while OPENING, and DT of the last -/
  opens : Nat := 0
  openAt : W64 := 0
  suspendedAt : W64 := 0
  /-- TAKEOVER is to be sent once the session is OPEN (R450) -/
  takeover : Bool := false
  deriving DecidableEq, Repr

/-- A message whose frame has entered a receive queue (R424), in arrival order until it has been processed. -/
structure InMsg where
  port : Nat
  msg : Mbt
  /-- body words still in the queue -/
  left : Nat := 0
  /-- body words drained whose parity was bad (R425), counted from the body's start -/
  poison : List Nat := []
  /-- DT of the last byte of the frame -/
  arrived : W64
  /-- the frame arrived MACsec-protected -/
  protect : Bool := false
  src : Ip := 0
  srcUdp : BitVec 16 := 0
  dst : Ip := 0
  deriving DecidableEq, Repr

/-- A remote write on its way to a store or a pile (R258, R422). -/
structure RemoteWrite where
  session : Nat
  seq : W32
  addr : Nat
  data : List Byte
  /-- words of the data whose parity was bad -/
  poison : List Nat := []
  twin : Bool := false
  /-- seq of the FWD that carried it, on the twin -/
  fwd : Option W32 := none
  /-- its first beat has been checked -/
  checked : Bool := false
  /-- the twin's refusal, which answers the host (R437) -/
  status : Status := 0
  /-- window that admits it: region, number and generation (R259) -/
  win : Option (Nat × Nat × Nat) := none
  /-- performed here; the response still waits for the twin (R446) -/
  done : Bool := false
  deriving DecidableEq, Repr

/-- What the time logic keeps of a port (R403): IEEE 1588-2019 fixes these exchanges (log 72). -/
structure PtpPort where
  /-- the best Announce: its dataset, then the identity of its sender; the lowest is best -/
  master : Option Nat := none
  /-- a two-step Sync that waits for its Follow_Up: sequence number, receive timestamp and correction -/
  sync : Option (Nat × Int × Int) := none
  /-- corrected departure and receive timestamp of the last Sync -/
  last : Option (Int × Int) := none
  /-- sequence number and send timestamp of the last delay request -/
  reqSeq : Nat := 0
  req : Option Int := none
  /-- a two-step Pdelay_Resp that waits for its follow-up: the peer's receive timestamp, and ours -/
  resp : Option (Int × Int) := none
  /-- the measured path delay -/
  delay : Option Int := none
  deriving DecidableEq, Repr

/-- The timestamps by DT that the time logic keeps follow a step of DT. -/
def PtpPort.shift (q : PtpPort) (e : Int) : PtpPort :=
  { q with sync := q.sync.map fun x => (x.1, x.2.1 + e, x.2.2), last := q.last.map fun x => (x.1, x.2 + e), req := q.req.map (· + e),
           resp := q.resp.map fun x => (x.1, x.2 + e) }

/-- The transmit side of a port, and its time logic. -/
structure Port where
  /-- priorities that a received PFC frame pauses -/
  paused : BitVec 8 := 0
  /-- frames that wait for a pause to end -/
  held : List OutFrame := []
  /-- next hops whose hardware address it has asked for or learned (R397) -/
  known : List Ip := []
  ptp : PtpPort := {}
  deriving DecidableEq, Repr

/-- The network state. -/
structure Net where
  portA : Port := {}
  portB : Port := {}
  sessions : Sparse Session := []
  inbox : List InMsg := []
  writes : List RemoteWrite := []
  /-- FWDs sent on session 4,095 whose ack advances the ack of a pair session: FWD seq, pair session, ack (R446) -/
  fwdAcks : List (W32 × Nat × W32) := []
  /-- frames that have left, latest first -/
  wire : List OutFrame := []
  deriving DecidableEq, Repr

/-! ### Message bytes -/

/-- The 28 bytes of an MBT header before its check field (R405). -/
def Mbt.head (m : Mbt) : List Byte :=
  leBytes 1 1 ++ leBytes m.type 1 ++ leBytes m.session 2 ++ leBytes m.seq.toNat 4 ++ leBytes m.ack.toNat 4 ++
  leBytes m.ref.toNat 4 ++ leBytes m.deadline.toNat 8 ++ leBytes m.body.length 2 ++ leBytes m.flags 2

/-- Whether a message type is sequenced (R409, R415). -/
def mbtSequenced (t : Nat) : Bool := !(decide (1 ≤ t) && decide (t ≤ 7)) && !(decide (0x48 ≤ t) && decide (t ≤ 0x4F))

/-- Whether a message type is listed by R415 and R436. -/
def mbtKnown (t : Nat) : Bool :=
  [1, 2, 3, 4, 5, 6, 7, 0x10, 0x11, 0x12, 0x13, 0x20, 0x21, 0x22, 0x23, 0x30, 0x40, 0x41, 0x42, 0x43, 0x44, 0x45, 0x48, 0x4A].contains t

/-- The serial-number comparison of R409: how far `a` lies ahead of `b`, as a signed number. -/
def serialDiff (a b : W32) : Int := (a - b).toInt

end Sys2Proof.Machine
end

