-- ==== Sys2Proof/Machine/UnitState.lean ====
section
/-! DEFINITION. The state of the piles, the Ember store and its flash mirror, the security block, the Tether, the pins, the time logic, the
die links and the control-space requesters, as far as registers do not hold it (R14, R303 to R323, R430 to R453, R469, R493 to R496, R509 to
R518, R522 to R537). -/

namespace Sys2Proof.Machine

/-- A pile: row errors, repairs, scrub position and the near-memory operation in progress. -/
structure Pile where
  /-- corrected errors of a row since cold start (R314), by row key -/
  rowErrs : Sparse Nat := []
  /-- rows marked for repair at the next cold start -/
  marked : List Nat := []
  /-- the repair map, oldest repair first (R323): a row and the spare row of its bank that replaces it; repairs are only ever added -/
  repairs : List (Nat × Nat) := []
  /-- bank refreshed last (R309) -/
  refresh : Nat := 0
  /-- rows whose neighbours are to be refreshed in the next slot of their bank (R310) -/
  neighbours : List Nat := []
  /-- corrected words to be written back in the bank's next slot (R313) -/
  writebacks : List Nat := []
  /-- next unit that each channel scrubs, and passes completed by each channel (R312) -/
  scrubNext : Sparse Nat := []
  scrubPass : Sparse Nat := []
  /-- words whose transfer failed its retry for a reader that is no task: the remote read that makes the access finds it failed (R311) -/
  lost : List Nat := []
  /-- near-memory operation in progress: 1 FILL, 2 COPY, 3 COMPACT, 4 EXPAND -/
  nmo : Option Nat := none
  deriving DecidableEq, Repr

/-! ### The Ember store -/

/-- One mirror copy in flash (R527): the image it holds and whether its HMAC is right. -/
structure Mirror where
  image : Sparse Byte := []
  intact : Bool := true
  deriving DecidableEq, Repr

/-- The Ember store and its flash mirror (R522, R527). -/
structure Ember where
  store : Sparse Byte := []
  /-- the store's own CRC holds: until the cell falls out during an Off period (R529) -/
  valid : Bool := true
  copy0 : Mirror := {}
  copy1 : Mirror := {}
  deriving DecidableEq, Repr

/-! ### The security block -/

/-- A command that the security block runs (R532, R535, R537). -/
inductive SecJob where
  /-- stage the firmware image at a data address -/
  | stage (addr : Nat)
  /-- complete a quote with these 512 bytes -/
  | quote (head : List Byte)
  /-- write a challenge, with its first 24 bytes -/
  | challenge (head : List Byte)
  deriving DecidableEq, Repr

/-- A change that R528 orders, on its way into the store: the op that SC_RESULT shows and the bytes it writes. -/
structure Seized where
  op : Nat
  cells : List (Nat × Byte)
  deriving DecidableEq, Repr

/-- The security block. -/
structure Sec where
  job : Option SecJob := none
  change : Option Seized := none
  /-- a challenge is outstanding -/
  challenge : Bool := false
  /-- firmware images by flash slot -/
  flash : Sparse (List Byte) := []
  deriving DecidableEq, Repr

/-! ### The Tether -/

/-- A TASK record that the secondary keeps (R436, R445, R448). -/
structure TwinRec where
  id : W32
  variant : Nat
  session : Nat
  seq : W32
  program : W64
  start : W64
  bound : Nat
  deadline : W64
  body : List Byte
  deriving DecidableEq, Repr

/-- An ABORT that the secondary of a Mirror pair keeps for a takeover (R447, R450): task, pair session, SUBMIT seq and body. -/
structure TwinAbort where
  id : W32
  session : Nat
  seq : W32
  body : List Byte
  deriving DecidableEq, Repr

/-- What a valid JOIN told of the twin (R436): its serial, epoch, Tether state, fresh flag and role claim. -/
structure PeerJoin where
  serial : W64
  epoch : W32
  state : Nat
  fresh : Bool
  claim : Nat
  deriving DecidableEq, Repr

/-- The Tether engine. -/
structure Twin where
  /-- JOINs refused with PAIR_RECORD (R441, R456) -/
  badRecords : Nat := 0
  /-- seq of the JOIN sent, until it is acknowledged -/
  joinSent : Option W32 := none
  /-- the own JOIN has been acknowledged -/
  joinAcked : Bool := false
  /-- the valid JOIN received last -/
  joined : Option PeerJoin := none
  /-- beat count since the join -/
  beats : W32 := 0
  /-- a valid BEAT arrived since the last multiple of 8,000 ns -/
  heard : Bool := false
  /-- consecutive missed beats -/
  missed : Nat := 0
  /-- consecutive beats whose offset lay within 200 ns (R443) -/
  good : Nat := 0
  /-- the last BEAT's lit flag -/
  peerLit : Bool := false
  /-- the last BEAT's Tether state -/
  peerState : Nat := 0
  /-- entries of the last STATE sent and received (R442) -/
  stateSent : List Byte := []
  stateGot : Option (List Byte) := none
  /-- DT of the last OPEN of session 4,095 under R441, and of power-up -/
  seekAt : Option W64 := none
  poweredAt : W64 := 0
  records : List TwinRec := []
  /-- pair sessions that FWDs and TASKs have named (R450) -/
  pairs : List Nat := []
  unsent : List TwinAbort := []
  deriving DecidableEq, Repr

/-! ### Pins, time and links -/

/-- An input pin (R514): its filtered level, the level last acted on, and the end of its rate window. -/
structure Pin where
  high : Bool := true
  acted : Bool := true
  window : Option W64 := none
  deriving DecidableEq, Repr

/-- The input pins, the power input and the start-up in progress. -/
structure Power where
  reset : Pin := {}
  warn : Pin := {}
  throttle : Pin := {}
  pps : Pin := {}
  /-- the input lies between 44 V and 66 V -/
  input : Bool := true
  /-- throttle applied through THROTTLE_N (R512, R515) -/
  throttled : Bool := false
  /-- internal throttle mask (R500) -/
  hotMask : BitVec 8 := 0
  /-- what the cold start in progress meets, until it ends -/
  cold : Option ColdEnv := none
  /-- a wake that waits for the entry into Pilot to complete (R503) -/
  wake : Option WakeEnv := none
  deriving DecidableEq, Repr

/-- The time logic (R509 to R511). -/
structure Clock where
  /-- consecutive Sync intervals with the offset within 100 ns -/
  good : Nat := 0
  /-- DT at which holdover began -/
  holdover : Option W64 := none
  /-- DT of the last rising edge of PPS_IN -/
  pps : Option W64 := none
  /-- what slewing has yet to add to DT, in ns, and the ns until its next one (R403) -/
  slew : Int := 0
  slewWait : Nat := 0
  /-- PTP serves as a time source -/
  ptp : Bool := false
  /-- the offset of DT from PTP measured last, followed through every correction since -/
  offset : Int := 0
  /-- the frequency correction in use, in ns per 10^9 ns, and what holdover has gathered of it (R509) -/
  freq : Int := 0
  gathered : Int := 0
  deriving DecidableEq, Repr

/-- The die links: the one in recovery, and the DT of recoveries begun, latest first (R469). -/
structure Links where
  recovering : Option Nat := none
  begun : List W64 := []
  deriving DecidableEq, Repr

/-- An event that an error record has entered in the cycle in progress (R461): its DT, record, source, unit and detail, the entry that holds it,
and whether that entry was written for it. -/
structure CycleEvent where
  dt : W64
  base : Nat
  source : Nat
  unit : Nat
  detail : Nat
  entry : Option Nat
  fresh : Bool
  deriving DecidableEq, Repr

/-! ### Requesters and marks -/

/-- The holding register of a requester (R14, R420) and its telemetry copy (R496). -/
structure Holding where
  /-- register and latched high word -/
  latch : Option (Nat × W32) := none
  /-- register and pending low word -/
  low : Option (Nat × W32) := none
  /-- the six words of the telemetry record, latched -/
  telemetry : Option (List W32) := none
  deriving DecidableEq, Repr

/-- A pending mark tick (R494): the tick, and the session and seq of each MARK that it answers. -/
structure MarkReq where
  tick : W64
  asked : List (Nat × W32) := []
  deriving DecidableEq, Repr

/-- Marks, shadows and the management bus. -/
structure Obs where
  holdings : Sparse Holding := []
  marks : List MarkReq := []
  /-- requests that wait for a place among the 16 pending ticks: tick asked for (0 next), session and seq of a MARK -/
  waiting : List (W64 × Option (Nat × W32)) := []
  /-- control messages that follow an unanswered MARK of their session (R416) -/
  deferred : List InMsg := []
  /-- address that READ32 reads (R517) -/
  smbAddr : W32 := 0
  /-- value and status of the last READ32 -/
  smbAnswer : Option (W32 × Status) := none
  deriving DecidableEq, Repr

end Sys2Proof.Machine
end

