-- ==== Sys2Proof/Machine/State.lean ====
section
/-! DEFINITION. The state of the whole module, its faults and refusals, and the state after reset. -/

namespace Sys2Proof.Machine

/-- A Plait record in flight (R335): sender and receiver rank, header and Long Total. -/
structure PlaitRec where
  sender : Nat
  dest : Nat
  /-- 0 PLAIT, 1 PLAIT.ALL reduction, 2 PLAIT.ALL broadcast -/
  kind : Nat
  round : Nat
  seq : Nat
  step : W64
  total : LongTotal
  /-- it stands in the receive buffer, checked, and waits for its turn (R330, R334, R336) -/
  received : Bool := false
  deriving DecidableEq, Repr

/-- An activity close that awaits the layer boundary (R223): the layer record, whether it set flagged, and the region that counted it. -/
structure Closure where
  layer : Nat
  flagged : Bool
  region : Nat
  deriving DecidableEq, Repr

/-- An accepted task (R108, R391): what its SUBMIT and its variant gave, its places once bound, and its result once written. -/
structure Task where
  id : W32
  /-- MBT session and seq of its SUBMIT -/
  session : Nat := 0
  seq : W32 := 0
  /-- image handle, and variant of its timing record -/
  image : Nat := 0
  variant : Nat := 0
  /-- identity of the program (R120) -/
  program : W64 := 0
  /-- planned start S, bound B_ns and planned end E (R385) -/
  start : W64 := 0
  bound : Nat := 0
  stop : W64 := 0
  deadline : W64 := 0
  /-- places by rank, once bound -/
  places : List Ctx := []
  started : Bool := false
  /-- global logical cores by rank (R104) -/
  cores : List Nat := []
  seed : W128 := 0
  stream : W32 := 0
  step : W64 := 0
  args : Nat := 0
  /-- data address of a context image to restore (R127 to R131) -/
  restore : Option Nat := none
  strict : Bool := false
  rowOnly : Bool := false
  /-- bundles of its code section -/
  bundles : Nat := 0
  belays : Sparse Nat := []
  plaits : List PlaitRec := []
  /-- channels the variant declares: region * 8 + channel -/
  channels : List Nat := []
  /-- ranks that have executed the CSAVE in progress, the address that rank 0 gave, and the DT of its CSAVE (R123, R125) -/
  csaves : List Nat := []
  csaveAddr : Nat := 0
  savedAt : W64 := 0
  /-- snapshots of its layer records: address and 64 bytes (R214) -/
  layers : List (Nat × Raw) := []
  /-- activity closes since the last layer boundary -/
  closures : List Closure := []
  /-- DT at which results and digest were written, and the digest: the task ends with DONE (R53) -/
  written : Option (W64 × W64) := none
  /-- what the Lamplighter keeps of its evaluation -/
  adm : Adm := {}
  /-- DT has reached E - 2,000 ns before its results and digest were written (R392) -/
  overrun : Bool := false
  /-- replicated from the primary of a pair (R445) -/
  twin : Bool := false
  /-- the primary has sent the DONE or ABORT of this replicated task (R446) -/
  closed : Bool := false
  /-- the primary waits for the twin's digest (R447) -/
  mirrored : Bool := false
  /-- status and digest of the twin's DIGEST -/
  twinDigest : Option (Status × W64) := none
  deriving DecidableEq, Repr

/-- The device but for its shadows: every register, memory, buffer, queue and mode of the module. -/
structure Plant where
  /-- control-space words by address (R13) -/
  ctl : Sparse W32 := []
  /-- data space, bytes by address (R41) -/
  mem : Sparse Byte := []
  /-- words of data space that are not plain: 1 poisoned, 2 uncorrectable (R247, R313, R425), by address / 4 -/
  marks : Sparse Nat := []
  /-- physical cores, region * 40 + core -/
  cores : Sparse Core := []
  regions : Sparse Region := []
  /-- stream channels, region * 8 + channel -/
  chans : Sparse Channel := []
  piles : Sparse Pile := []
  tasks : List Task := []
  net : Net := {}
  lamp : Lamp := {}
  ember : Ember := {}
  sec : Sec := {}
  twin : Twin := {}
  power : Power := {}
  clock : Clock := {}
  links : Links := {}
  /-- events of the cycle in progress, by record the one of greatest unit and source first (R461, log 69) -/
  cycleEvents : List CycleEvent := []
  obs : Obs := {}
  /-- tasks whose end a pending burst-limit change awaits, by arbiter record (R486) -/
  burstWait : Sparse (List W32) := []
  /-- DT of core handling windows now open, by core (R465) -/
  coreOpen : Sparse (Option W64) := []
  /-- device time in nanoseconds (R22) -/
  dt : W64 := 0
  /-- free values drawn so far: the model's own (log 1) -/
  free : Nat := 0
  deriving DecidableEq, Repr

/-- The device. Its shadows (R493, R495) are held as what the control space showed at the last mark: the device as it stood then, without the
contents of data space, none before any mark. -/
structure Dev extends Plant where
  shadow : Option Plant := none
  /-- shadows of the 256 registers of the shadow window itself -/
  shadowWin : List W32 := []
  deriving DecidableEq, Repr

/-- The bundle being issued: the model's own (log 6). -/
structure Base where
  key : Ctx
  /-- slot of the bundle issued last: 0 C, 1 V, 2 T, 3 M -/
  last : Nat
  /-- the device as it stood before the bundle, for R118 -/
  dev : Dev
  /-- the device on which the later slots of the bundle act: an END of the bundle has released nothing in it yet (R141) -/
  work : Dev
  deriving DecidableEq, Repr

/-- The state of the block. -/
structure State where
  dev : Dev
  base : Option Base
  /-- commands waiting, first in first out -/
  pending : List Instr
  deriving DecidableEq, Repr

/-- Faults: none. An error of the hardware is an effect on the state, so the model never raises one (safe). -/
inductive Fault where
  deriving DecidableEq, Repr

/-- Refusals. -/
inductive Refusal where
  /-- raised by the arm of a command that has no meaning yet: safe -/
  | notModelled (mnemonic : String)
  /-- raised by an operation of a slot whose encoding R133 leaves undefined; the loader refuses its image under R121: safe -/
  | undefinedEncoding
  deriving DecidableEq, Repr

/-- The module right after reset: every control-space word at its reset value, nothing in memory, every queue empty. -/
def State.reset : State := { dev := {}, base := none, pending := [] }

end Sys2Proof.Machine
end

