-- ==== Sys2Proof/Machine/Ops.lean ====
section
/-! DEFINITION. The named operations over the state: control-space words, counters, cores, contexts, memory. -/

namespace Sys2Proof.Machine

/-- The outcome of a command. -/
abbrev Out := Host.Outcome State Fault Refusal

/-! ### Control-space words -/

/-- The stored word at a control-space address. -/
def Dev.rd (d : Dev) (a : Nat) : W32 := sget regReset d.ctl a
/-- Set the stored word at a control-space address. -/
def Dev.wr (d : Dev) (a : Nat) (v : W32) : Dev := { d with ctl := sset regReset d.ctl a v }
/-- The stored 64-bit register at an address (R14). -/
def Dev.rd64 (d : Dev) (a : Nat) : Nat := (d.rd a).toNat + (d.rd (a + 4)).toNat * 2 ^ 32
/-- Set the stored 64-bit register at an address. -/
def Dev.wr64 (d : Dev) (a : Nat) (v : Nat) : Dev := (d.wr a (BitVec.ofNat 32 v)).wr (a + 4) (BitVec.ofNat 32 (v / 2 ^ 32))
/-- Add to a saturating 64-bit counter. -/
def Dev.inc64 (d : Dev) (a n : Nat) : Dev := d.wr64 a (satTo 64 (d.rd64 a + n))
/-- Add to a saturating 32-bit counter. -/
def Dev.inc32 (d : Dev) (a n : Nat) : Dev := d.wr a (BitVec.ofNat 32 (satTo 32 ((d.rd a).toNat + n)))
/-- Bits `hi` to `lo` of a word. -/
def Dev.fld (d : Dev) (a hi lo : Nat) : Nat := field (d.rd a).toNat hi lo
/-- Set bits `hi` to `lo` of a word. -/
def Dev.setFld (d : Dev) (a hi lo x : Nat) : Dev := d.wr a (BitVec.ofNat 32 (setField (d.rd a).toNat hi lo x))
/-- Whether bit `i` of a word is set. -/
def Dev.flag (d : Dev) (a i : Nat) : Bool := (d.rd a).getLsbD i
/-- Set bit `i` of a word: a sticky bit or a mode. -/
def Dev.setBit (d : Dev) (a i : Nat) : Dev := d.wr a (d.rd a ||| (1 <<< i))
/-- Clear bit `i` of a word. -/
def Dev.clrBit (d : Dev) (a i : Nat) : Dev := d.wr a (d.rd a &&& ~~~ ((1 : W32) <<< i))
/-- Set or clear bit `i` of a word. -/
def Dev.putBit (d : Dev) (a i : Nat) (v : Bool) : Dev := if v then d.setBit a i else d.clrBit a i
/-- Set the words of a list of addresses to their reset values: counter and sticky clears. -/
def Dev.clearWords (d : Dev) (as : List Nat) : Dev := as.foldl (fun d a => d.wr a (regReset a)) d

/-! ### Units -/

/-- A physical core. -/
def Dev.core (d : Dev) (n k : Nat) : Core := sget (fun _ => Core.initial) d.cores (n * 40 + k)
/-- Change a physical core. -/
def Dev.modCore (d : Dev) (n k : Nat) (f : Core → Core) : Dev :=
  { d with cores := smod (fun _ => Core.initial) d.cores (n * 40 + k) f }
/-- A region. -/
def Dev.region (d : Dev) (n : Nat) : Region := sget (fun _ => {}) d.regions n
/-- Change a region. -/
def Dev.modRegion (d : Dev) (n : Nat) (f : Region → Region) : Dev :=
  { d with regions := smod (fun _ => {}) d.regions n f }
/-- A stream channel, by region * 8 + channel. -/
def Dev.chan (d : Dev) (i : Nat) : Channel := sget (fun _ => {}) d.chans i
/-- Change a stream channel. -/
def Dev.modChan (d : Dev) (i : Nat) (f : Channel → Channel) : Dev :=
  { d with chans := smod (fun _ => {}) d.chans i f }
/-- A pile. -/
def Dev.pile (d : Dev) (n : Nat) : Pile := sget (fun _ => {}) d.piles n
/-- Change a pile. -/
def Dev.modPile (d : Dev) (n : Nat) (f : Pile → Pile) : Dev := { d with piles := smod (fun _ => {}) d.piles n f }
/-- The context in a slot. -/
def Dev.ctx? (d : Dev) (k : Ctx) : Option Context := nth (d.core k.region k.core).slots k.slot none
/-- The context in a slot, or an empty one. -/
def Dev.ctx (d : Dev) (k : Ctx) : Context := (d.ctx? k).getD {}
/-- Put a context into a slot. -/
def Dev.setCtx (d : Dev) (k : Ctx) (c : Option Context) : Dev :=
  d.modCore k.region k.core fun co => { co with slots := put co.slots k.slot c }
/-- Change the context in a slot, if there is one. -/
def Dev.modCtx (d : Dev) (k : Ctx) (f : Context → Context) : Dev :=
  match d.ctx? k with
  | none => d
  | some c => d.setCtx k (some (f c))
/-- An accepted task. -/
def Dev.task? (d : Dev) (id : W32) : Option Task := d.tasks.find? fun t => t.id == id
/-- Change an accepted task. -/
def Dev.modTask (d : Dev) (id : W32) (f : Task → Task) : Dev :=
  { d with tasks := d.tasks.map fun t => if t.id = id then f t else t }
/-- Draw a free value (log 1). -/
def Dev.draw (d : Dev) : W64 × Dev := (Config.freeValue d.free, { d with free := d.free + 1 })

/-! ### Data space (R41, R234) -/

/-- Bytes of one region store. -/
def storeSize : Nat := 0x4800000
/-- Bytes of the eight region stores. -/
def storesEnd : Nat := 0x24000000
/-- First address of the piles. -/
def pilesBase : Nat := 0x10000000000
/-- Bytes of one pile. -/
def pileSize : Nat := 0xC00000000
/-- First address after the piles. -/
def pilesEnd : Nat := 0x16000000000

/-- Whether the address lies in a region store. -/
def inStore (a : Nat) : Bool := decide (a < storesEnd)
/-- Whether the address lies in a pile. -/
def inPile (a : Nat) : Bool := decide (pilesBase ≤ a) && decide (a < pilesEnd)
/-- Whether the address is mapped (R41). -/
def mapped (a : Nat) : Bool := inStore a || inPile a
/-- The region of a store address, or of a pile address. -/
def regionOf (a : Nat) : Nat := if a < storesEnd then a / storeSize else (a - pilesBase) / pileSize
/-- Whether `n` bytes from `a` lie in one region store (n = 0 counts as inside when `a` is). -/
def inOneStore (a n : Nat) : Bool := decide (a + n ≤ storesEnd) && (n == 0 || a / storeSize == (a + n - 1) / storeSize)
/-- Whether `n` bytes from `a` lie in the store of region `r`. -/
def inStoreOf (r a n : Nat) : Bool := decide (r * storeSize ≤ a) && decide (a + n ≤ (r + 1) * storeSize)
/-- Whether `n` bytes from `a` lie in one pile. -/
def inOnePile (a n : Nat) : Bool :=
  decide (pilesBase ≤ a) && decide (a + n ≤ pilesEnd) && (n == 0 || (a - pilesBase) / pileSize == (a + n - 1 - pilesBase) / pileSize)
/-- Whether `n` bytes from `a` lie in one store or one pile. -/
def inOneUnit (a n : Nat) : Bool := inOneStore a n || inOnePile a n
/-- The quadrant of a store address (R234). -/
def quadrantOf (a : Nat) : Nat := a % storeSize / 0x1200000
/-- The bank group of a store address within its region, 0 to 71 (R234). -/
def groupOf (a : Nat) : Nat := 18 * quadrantOf a + a % storeSize % 0x1200000 / 2 ^ 20
/-- The bank of a store address within its region, 0 to 575 (R234). -/
def bankOf (a : Nat) : Nat :=
  144 * quadrantOf a + 8 * (a % storeSize % 0x1200000 / 2 ^ 20) + a % storeSize / 64 % 8

/-- The default byte of data space: log 3. -/
def memByte (_ : Nat) : Byte := 0
/-- The canonical form of data space: strictly rising addresses, and no entry that an unlisted address reads as. -/
def Memory.wf (m : Sparse Byte) : Bool := swf memByte m
/-- The byte at an address of data space. -/
def Dev.byte (d : Dev) (a : Nat) : Byte := sget memByte d.mem a
/-- Write one byte of data space. -/
def Dev.setByte (d : Dev) (a : Nat) (v : Byte) : Dev := { d with mem := sset memByte d.mem a v }
/-- The mark of the word at an address: 0 none, 1 poisoned, 2 uncorrectable. -/
def Dev.mark (d : Dev) (a : Nat) : Nat := sget (fun _ => 0) d.marks (a / 4)
/-- Set the mark of a word. -/
def Dev.setMark (d : Dev) (a m : Nat) : Dev := { d with marks := sset (fun _ => 0) d.marks (a / 4) m }
/-- The worst mark among the words that hold `n` bytes from `a`. -/
def Dev.markIn (d : Dev) (a n : Nat) : Nat :=
  if n = 0 then 0 else (d.marks.filter fun p => decide (a / 4 ≤ p.1) && decide (p.1 ≤ (a + n - 1) / 4)).foldl (fun x p => max x p.2) 0
/-- The bytes that a write must replace to clear the mark `m` of the word at `a`: the 32-bit word, or the 64-bit word of a pile that its ECC
found uncorrectable (R247, R313, R425). -/
def markSpan (a m : Nat) : Nat × Nat := if m = 2 && inPile a then (a / 8 * 8, 8) else (a / 4 * 4, 4)
/-- Write bytes at their addresses. A word that is written whole loses its mark (R247, R313, R425). -/
def Dev.writeCells (d : Dev) (cells : List (Nat × Byte)) : Dev :=
  let d := { d with mem := cells.foldl (fun m p => sset memByte m p.1 p.2) d.mem }
  if d.marks = [] then d
  else
    let whole (p : Nat × Nat) : Bool :=
      let s := markSpan (4 * p.1) p.2
      (upto s.2).all fun i => cells.any fun c => c.1 == s.1 + i
    { d with marks := d.marks.filter fun p => !whole p }
/-- The cells of a run of bytes. -/
def cellsAt (a : Nat) (bs : List Byte) : List (Nat × Byte) := (upto bs.length).map fun i => (a + i, bs.getD i 0)
/-- Write a run of bytes. -/
def Dev.writeBytes (d : Dev) (a : Nat) (bs : List Byte) : Dev := d.writeCells (cellsAt a bs)

/-- Whether the bank group that holds a store address is powered down or busy (R249, R250). -/
def Dev.groupOff (d : Dev) (a : Nat) : Bool :=
  let r := regionOf a
  let g := groupOf a
  let b := if g < 32 then 0 else 4
  if g < 64 then d.flag (aRs r + rRnBgOffLo + b) (g % 32) || d.flag (aRs r + rRnBgBusyLo + b) (g % 32)
  else d.flag (aRs r + rRnBgOffHi) (g - 64) || d.flag (aRs r + rRnBgBusyHi) (g - 64)
/-- Whether some byte of `n` bytes from `a` lies in a group that is off; a group is 1 MiB. -/
def Dev.anyOff (d : Dev) (a n : Nat) : Bool :=
  (upto (n / 2 ^ 20 + 2)).any fun i =>
    let x := if i = 0 then a else min (a / 2 ^ 20 * 2 ^ 20 + i * 2 ^ 20) (a + n - 1)
    decide (0 < n) && d.groupOff x
/-- Whether slice `q` of region `r` is fenced (R243). -/
def Dev.sliceFenced (d : Dev) (a : Nat) : Bool := d.flag (aRs (regionOf a) + rRnStSlice) (quadrantOf a)
/-- Whether some byte of `n` bytes from `a` lies in a quadrant on the row path. -/
def Dev.anyFenced (d : Dev) (a n : Nat) : Bool := decide (0 < n) && (d.sliceFenced a || d.sliceFenced (a + n - 1))

/-! ### Staging (R168 to R173) -/

/-- Bytes of a staging buffer. -/
def stageSize : Nat := 0x40000
/-- The byte at a staging address, taken modulo 256 KiB (R135). -/
def Core.stageByte (c : Core) (a : Nat) : Byte := sget memByte c.staging (a % stageSize)
/-- Write bytes at staging addresses, each modulo 256 KiB. -/
def Core.setStage (c : Core) (a : Nat) (bs : List Byte) : Core :=
  { c with staging := (upto bs.length).foldl (fun m i => sset memByte m ((a + i) % stageSize) (bs.getD i 0)) c.staging }
/-- The tag entry of a staging row: tag + 2^16 * format; a row never written reads as written under no format (log 2). -/
def tagNone (_ : Nat) : Nat := 0x7FFF + 15 * 2 ^ 16
/-- The tag of a row as a signed number's 16 bits. -/
def Core.tag (c : Core) (r : Nat) : Nat := sget tagNone c.tags (r % 512) % 2 ^ 16
/-- The format field of a row. -/
def Core.tagFmt (c : Core) (r : Nat) : Nat := sget tagNone c.tags (r % 512) / 2 ^ 16
/-- Write the tag and the format field of a row together. -/
def Core.setTag (c : Core) (r tag fmt : Nat) : Core := { c with tags := sset tagNone c.tags (r % 512) (tag + fmt * 2 ^ 16) }

/-- The tag of a row written under a format, from the row's bytes (R70). -/
def rowTag (fmt : Nat) (rd : Nat → Byte) : Nat :=
  if fmt = 15 then 0x7FFF
  else if fmt = 13 then
    let es := (upto 512).filterMap fun i => scaleExp (rd i)
    match es.foldl (fun (m : Option Int) e => some (match m with | none => e | some m => max m e)) none with
    | none => 0x8000
    | some e => unsigned 16 e
  else
    let w := elemBits fmt
    let es := (upto (4096 / w)).filterMap fun i => match elemDecode fmt (packedBits rd 0 w i) with
      | .fin _ m q => if m = 0 then none else some (numExp m q)
      | _ => none
    match es.foldl (fun (m : Option Int) e => some (match m with | none => e | some m => max m e)) none with
    | none => 0x8000
    | some e => unsigned 16 e

/-- Recompute the tag of a row under a format and write the format field (STAG, ROW.LD, channel writes: R70). -/
def Core.tagRow (c : Core) (r fmt : Nat) : Core := c.setTag r (rowTag fmt fun i => c.stageByte (r % 512 * 512 + i)) fmt

/-- The rows that `n` bytes from a staging address touch. -/
def stageRows (a n : Nat) : List Nat := if n = 0 then [] else (upto ((a % 512 + n - 1) / 512 + 1)).map fun i => (a / 512 + i) % 512
/-- The rows pinned on a core (R73). -/
def Core.pinned (c : Core) : List Nat :=
  c.slots.flatMap fun s => match s with
    | none => []
    | some x => (x.chunks.flatMap fun h => h.pinned) ++ x.closing.flatMap fun g => g.rows
/-- Whether some row of a list is pinned. -/
def Core.anyPinned (c : Core) (rows : List Nat) : Bool := let p := c.pinned; rows.any fun r => p.contains r

end Sys2Proof.Machine
end

