-- ==== Sys2Proof/Machine/SparseMath.lean ====
section
/-! DEFINITION. The procedures of the Ply and Splice units and of TALLY over a byte-reading function (R162, R187, R193, R195), and
the CRC forms of the device (R406, R454). -/

namespace Sys2Proof.Machine

/-- Whether the ranges of `n` bytes at `a` and `m` bytes at `b` of a ring of `size` bytes share a byte. -/
def ringOverlap (size a n b m : Nat) : Bool :=
  decide (n ≠ 0) && decide (m ≠ 0) &&
    (decide ((b + size - a % size) % size < n) || decide ((a + size - b % size) % size < m))

/-- Whether the ranges of `n` bytes at `a` and `m` bytes at `b` share a byte. -/
def overlap (a n b m : Nat) : Bool := decide (a < b + m) && decide (b < a + n) && decide (n ≠ 0) && decide (m ≠ 0)

/-- The output of a Ply operation: bytes written at dst and the value of sd (R162). -/
structure PlyOut where
  bytes : List Byte
  sd : Nat
  deriving DecidableEq, Repr

/-- PLY.AND (R162). -/
def plyAnd (rd : Nat → Byte) (s1 s2 bits : Nat) : PlyOut :=
  let bs := (upto (bits / 8)).map fun i => rd (s1 + i) &&& rd (s2 + i)
  ⟨bs, bs.foldl (fun n b => n + popcount 8 b.toNat) 0⟩

/-- PLY.POP (R162): one 32-bit count for each 64-bit word, of the set bits in the words before it. -/
def plyPop (rd : Nat → Byte) (s1 bits : Nat) : PlyOut :=
  let r := (upto (bits / 64)).foldl (fun (p : List Byte × Nat) i =>
    (p.1 ++ leBytes p.2 4, p.2 + popcount 64 (leNat rd (s1 + 8 * i) 8))) ([], 0)
  ⟨r.1, r.2⟩

/-- PLY.CMP (R158, R162): the position list of the set bits. -/
def plyCmp (rd : Nat → Byte) (s1 bits : Nat) : PlyOut :=
  let ps := (upto bits).filter fun i => bit (rd (s1 + i / 8)).toNat (i % 8)
  ⟨leBytes ps.length 4 ++ ps.flatMap fun p => leBytes p 2, ps.length⟩

/-! ### Splice (R193) -/

/-- A list segment as the Splice unit reads it. -/
structure SpliceSrc where
  addr : Nat
  count : Nat
  base : Nat
  isLast : Bool
  deriving DecidableEq, Repr

/-- The counts of metadata errors met (R193). -/
structure SpliceErr where
  range : Nat := 0
  order : Nat := 0
  /-- the first error met: 1 range, 2 order, 0 none -/
  first : Nat := 0
  deriving DecidableEq, Repr

/-- Entry `i` of an index list. -/
def listEntry (rd : Nat → Byte) (addr i : Nat) : Nat := leNat rd (addr + 4 * i) 4

/-- The procedure skip of R193, with the entries left as fuel. -/
def spliceSkip (rd : Nat → Byte) (src : SpliceSrc) (lo hi : Nat) (last : Option Nat) : Nat → Nat → SpliceErr → Nat × SpliceErr
  | 0, i, e => (i, e)
  | fuel + 1, i, e =>
    if i < src.count then
      let x := listEntry rd src.addr i
      if x < lo || hi < x then
        spliceSkip rd src lo hi last fuel (i + 1)
          { e with range := e.range + 1, first := if e.first = 0 then 1 else e.first }
      else if (match last with | none => false | some y => decide (x ≤ y)) then
        spliceSkip rd src lo hi last fuel (i + 1)
          { e with order := e.order + 1, first := if e.first = 0 then 2 else e.first }
      else (i, e)
    else (i, e)

/-- The state of the splice loop and, at its end, its result. -/
structure SpliceRun where
  i : Nat
  j : Nat
  la : Option Nat := none
  lb : Option Nat := none
  n : Nat := 0
  out : List (Nat × Nat × Nat) := []
  err : SpliceErr := {}
  complete : Bool := false
  outFull : Bool := false
  deriving DecidableEq, Repr

/-- The position that stands for an absent entry (R193). -/
def noPos : Nat := 0xFFFFFFFF

/-- The loop of the procedure splice of R193; every turn but the last consumes an entry, so the entries are fuel. -/
def spliceLoop (rd : Nat → Byte) (isect : Bool) (A B : SpliceSrc) (lo hi cap : Nat) : Nat → SpliceRun → SpliceRun
  | 0, r => r
  | fuel + 1, r =>
    let (i, e1) := spliceSkip rd A lo hi r.la (A.count - r.i) r.i r.err
    let (j, e2) := spliceSkip rd B lo hi r.lb (B.count - r.j) r.j e1
    let r := { r with i := i, j := j, err := e2 }
    let ea := decide (i = A.count)
    let eb := decide (j = B.count)
    let emit (r : SpliceRun) (x p q : Nat) : SpliceRun := { r with out := (x, p, q) :: r.out, n := r.n + 1 }
    if ea && eb then { r with complete := true }
    else if isect && ((ea && A.isLast) || (eb && B.isLast)) then { r with complete := true }
    else if r.n = cap then { r with outFull := true }
    else
      let x := listEntry rd A.addr i
      let y := listEntry rd B.addr j
      if !ea && !eb && x == y then
        let r := emit r x (A.base + i) (B.base + j)
        spliceLoop rd isect A B lo hi cap fuel { r with la := some x, lb := some y, i := i + 1, j := j + 1 }
      else if !ea && (eb || decide (x < y)) then
        if eb && !B.isLast then r
        else
          let r := if isect then r else emit r x (A.base + i) noPos
          spliceLoop rd isect A B lo hi cap fuel { r with la := some x, i := i + 1 }
      else
        if ea && !A.isLast then r
        else
          let r := if isect then r else emit r y noPos (B.base + j)
          spliceLoop rd isect A B lo hi cap fuel { r with lb := some y, j := j + 1 }

/-- The output bytes of a splice (R194). -/
def spliceBytes (withPos : Bool) (out : List (Nat × Nat × Nat)) : List Byte :=
  out.reverse.flatMap fun (x, p, q) =>
    leBytes x 4 ++ (if withPos then leBytes p 4 ++ leBytes q 4 else [])

/-! ### CRC -/

/-- One bit of a reflected CRC. -/
def crcBit (poly : Nat) (c : Nat) : Nat := if c % 2 = 1 then Nat.xor (c / 2) poly else c / 2

/-- One byte of a reflected CRC. -/
def crcByte (poly : Nat) (c : Nat) (b : Byte) : Nat :=
  (upto 8).foldl (fun c _ => crcBit poly c) (Nat.xor c b.toNat)

/-- The CRC-32C of R406: polynomial 0x1EDC6F41 reflected, all-ones initial value and final XOR. -/
def crc32c (bs : List Byte) : Nat := Nat.xor (bs.foldl (crcByte 0x82F63B78) 0xFFFFFFFF) 0xFFFFFFFF

/-- One bit of the CRC-64 of R454: no reflection. -/
def crc64Bit (c : Nat) : Nat :=
  if c < 2 ^ 63 then 2 * c else Nat.xor (2 * (c - 2 ^ 63)) 0x42F0E1EBA9EA3693

/-- One byte of the CRC-64. -/
def crc64Byte (c : Nat) (b : Byte) : Nat :=
  (upto 8).foldl (fun c _ => crc64Bit c) (Nat.xor c (b.toNat * 2 ^ 56))

/-- The CRC-64 of R454 continued from `c`: initial value 0, no reflection, no final XOR. -/
def crc64From (c : Nat) (bs : List Byte) : Nat := bs.foldl crc64Byte c

/-- The CRC-64 of R454 and R120. -/
def crc64 (bs : List Byte) : Nat := crc64From 0 bs

end Sys2Proof.Machine
end

