-- ==== Sys2Proof/Machine/Records.lean ====
section
/-! DEFINITION. Error records (R457 to R462), hitch windows (R256 to R259) and coils (R252 to R254) as the device's registers hold them. -/

namespace Sys2Proof.Machine

/-- Word `w` of entry `i` of the error record at `base`. -/
def erEntry (base i w : Nat) : Nat := base + 0x20 + 32 * i + 4 * w

/-- Whether entry `i` of a record is valid (R459). -/
def Dev.erValid (d : Dev) (base i : Nat) : Bool := d.flag (erEntry base i 0) 24

/-! The events of one cycle (R461). The model's clock is DT, so the events of one record at one DT are those of one cycle (log 69). -/

/-- The event of this cycle with the given record, source, unit and detail, if the record has entered one (R461). -/
def Dev.cycleEvent? (d : Dev) (base source unit detail : Nat) : Option CycleEvent :=
  d.cycleEvents.find? fun e => e.dt == d.dt && e.base == base && e.source == source && e.unit == unit && e.detail == detail
/-- Whether an event repeats one of this cycle, and so counts as one event with it for every purpose (R461). -/
def Dev.sameCycle (d : Dev) (base source unit detail : Nat) : Bool := (d.cycleEvent? base source unit detail).isSome

/-- Exchange two entries of a record. -/
def Dev.swapEntries (d : Dev) (base i j : Nat) : Dev :=
  (upto 8).foldl (fun e w => (e.wr (erEntry base i w) (d.rd (erEntry base j w))).wr (erEntry base j w) (d.rd (erEntry base i w))) d

/-- Move the entry `i` of an event below those of the given events, which are all greater, greatest first: the order of R461. Answers the device,
the events with their entries, and the event's entry. -/
def Dev.settleEntry (base : Nat) : List CycleEvent → Nat → Dev → Dev × List CycleEvent × Nat
  | [], i, d => (d, [], i)
  | g :: l, i, d =>
    match g.fresh, g.entry with
    | true, some j =>
      let r := settleEntry base l j (d.swapEntries base i j)
      (r.1, { g with entry := some i } :: r.2.1, r.2.2)
    | _, _ =>
      let r := settleEntry base l i d
      (r.1, g :: r.2.1, r.2.2)

/-- Write a new entry of a record (R459). -/
def Dev.writeEntry (d : Dev) (base i status source unit detail task flags : Nat) : Dev :=
  ((((d.wr (erEntry base i 0) (BitVec.ofNat 32 (status + source * 2 ^ 16 + (1 + 2 * flags) * 2 ^ 24))).wr
    (erEntry base i 1) (BitVec.ofNat 32 unit)).wr64 (erEntry base i 2) detail).wr64 (erEntry base i 4) d.dt.toNat).wr
    (erEntry base i 6) (BitVec.ofNat 32 task) |>.wr (erEntry base i 7) 1

/-- The sources that R463 calls corrected. -/
def correctedSource (s : Nat) : Bool := s == 0x01 || s == 0x10 || s == 0x20 || s == 0x30 || s == 0x40

/-- The indivisible update of an error record for one event (R460 to R463): `flags` are the entry's escalated and during_handling bits; an event
inside a handling window of the unit sets the second (R459). An event that repeats one of its cycle only adds to that one's repeats; alerts of other
chapters, source 0x4F, are told by their status (log 69). -/
def Dev.enterError (d : Dev) (base n status source unit detail task flags : Nat) : Dev :=
  let key := if source = 0x4F then status else detail
  match d.cycleEvent? base source unit key with
  | some e => match e.entry with
    | some i => d.inc32 (erEntry base i 7) 1
    | none => d
  | none =>
    let flags := flags % 2 + 2 * (if d.flag (base + rErState) 0 then 1 else flags / 2 % 2)
    let d := (if correctedSource source then d.inc64 (base + rErCorrected) 1 else d.inc64 (base + rErFaults) 1).wr64 (base + rErLastAt) d.dt.toNat
    let d := if status = 0x800A then d else d.setBit (base + rErState) 1
    let mine := d.cycleEvents.filter fun e => e.dt == d.dt && e.base == base
    let others := d.cycleEvents.filter fun e => e.dt == d.dt && e.base != base
    let above := mine.takeWhile fun e => decide (unit < e.unit) || (e.unit == unit && decide (source < e.source))
    let below := mine.drop above.length
    let same (i : Nat) : Bool := d.erValid base i &&
      d.fld (erEntry base i 0) 23 0 == status + source * 2 ^ 16 &&
      (d.rd (erEntry base i 1)).toNat == unit % 2 ^ 32 && d.rd64 (erEntry base i 2) == detail % 2 ^ 64
    let e : CycleEvent := { dt := d.dt, base := base, source := source, unit := unit, detail := key, entry := none, fresh := false }
    let add (d : Dev) (above : List CycleEvent) (e : CycleEvent) : Dev := { d with cycleEvents := above ++ e :: below ++ others }
    match (upto n).find? same with
    | some i => add (d.inc32 (erEntry base i 7) 1) above { e with entry := some i }
    | none => match (upto n).find? fun i => !d.erValid base i with
      | some i =>
        let r := Dev.settleEntry base above i (d.writeEntry base i status source unit detail task flags)
        add r.1 r.2.1 { e with entry := some r.2.2, fresh := true }
      | none =>
        let d := d.inc32 (base + rErOverflow) 1
        match above with
        | g :: l => match g.fresh, g.entry with
          | true, some i =>
            let r := Dev.settleEntry base l i (d.writeEntry base i status source unit detail task flags)
            add r.1 ({ g with entry := none, fresh := false } :: r.2.1) { e with entry := some r.2.2, fresh := true }
          | _, _ => add d above e
        | [] => add d above e

/-- An alert raised by another chapter: source 0x4F in the device record (R462). -/
def Dev.raiseAlert (d : Dev) (status unit task : Nat) : Dev := d.enterError aErDv 256 status 0x4F unit 0 task 0

/-- The status of an alert to which the spec gives none: a free one of the hardware-fault codes that raise an alert (R462, R483; log 1). -/
def alertStatus (v : W64) : Nat :=
  [0x8001, 0x8002, 0x8003, 0x8004, 0x8005, 0x8006, 0x8007, 0x8008, 0x8009, 0x800B, 0x800C].getD (v.toNat % 11) 0x8001

/-- An alert of an event to which the spec gives no status code: the entry's status is a free one (log 1). -/
def Dev.raiseFreeAlert (d : Dev) : Dev :=
  let (v, d) := d.draw
  d.enterError aErDv 256 (alertStatus v) 0x4F 0 0 0 0

/-! ### Hitch windows -/

/-- Base of the registers of window `k` of region `r` (R262). -/
def winBase (r k : Nat) : Nat := aRs r + rRnHitchDesc + k * 64
/-- Offsets within a window's registers. -/
def winState (r k : Nat) : Nat := winBase r k + 0x20
/-- Whether a window is open. -/
def Dev.winOpen (d : Dev) (r k : Nat) : Bool := d.flag (winState r k) 0
/-- The base address, length, and further fields of a window's descriptor (R256). -/
def Dev.winAddr (d : Dev) (r k : Nat) : Nat := d.rd64 (winBase r k)
/-- The length of a window. -/
def Dev.winLen (d : Dev) (r k : Nat) : Nat := (d.rd (winBase r k + 8)).toNat
/-- The writers byte of a window. -/
def Dev.winWriters (d : Dev) (r k : Nat) : Nat := d.fld (winBase r k + 12) 23 16
/-- The session that a window admits. -/
def Dev.winSession (d : Dev) (r k : Nat) : Nat := d.fld (winBase r k + 16) 15 0
/-- The task that a window admits under writer bit 4. -/
def Dev.winTask (d : Dev) (r k : Nat) : W32 := d.rd (winBase r k + 20)
/-- The owner task of a window; 0 for the host. -/
def Dev.winOwnerTask (d : Dev) (r k : Nat) : W32 := d.rd (winBase r k + 0x30)
/-- The generation of a window. -/
def Dev.winGen (d : Dev) (r k : Nat) : Nat := d.fld (winState r k) 31 16

/-- Whether the base-8 descriptor words describe a legal window (R256). -/
def winDescOk (base len writers r15 r18 : Nat) : Bool :=
  base % 64 == 0 && len % 64 == 0 && decide (64 ≤ len) && decide (len ≤ 2 ^ 26) && decide (writers < 32) && r15 == 0 && r18 == 0

/-- The open windows of region `r` that share a byte with `n` bytes from `a`. -/
def Dev.winsTouched (d : Dev) (r a n : Nat) : List Nat :=
  (upto 256).filter fun k => d.winOpen r k && overlap a n (d.winAddr r k) (d.winLen r k)

/-- Whether an open of a window described by the words may succeed, but for the choice of the window (R257). -/
def Dev.winMayOpen (d : Dev) (base len writers r15 r18 expiry : Nat) : Bool :=
  winDescOk base len writers r15 r18 && inOneStore base len &&
    (d.winsTouched (regionOf base) base len).isEmpty && !d.anyOff base len &&
    (expiry == 0 || decide (d.dt.toNat < expiry))

/-- Mark window `k` of region `r` open with an owner (R257): bytes and denied counts start at 0. -/
def Dev.openWindow (d : Dev) (r k : Nat) (owner : W32) (host : Bool) (ctx : Option Ctx) : Dev :=
  let d := d.setFld (winState r k) 1 0 (if host then 3 else 1)
  let d := (d.wr64 (winBase r k + 0x28) 0).wr (winBase r k + 0x30) owner |>.wr (winBase r k + 0x34) 0
  d.modRegion r fun g => { g with winOwner := sset (fun _ => none) g.winOwner k ctx }

/-- Close window `k` of region `r` (R259): its generation advances by 1. -/
def Dev.closeWindow (d : Dev) (r k : Nat) : Dev :=
  if d.winOpen r k then
    let d := d.wr (winState r k) (BitVec.ofNat 32 ((d.winGen r k + 1) % 2 ^ 16 * 2 ^ 16))
    d.modRegion r fun g => { g with winOwner := sset (fun _ => none) g.winOwner k none }
  else d

/-- Who writes into a region store (R258). -/
inductive Writer where
  /-- a context's core -/
  | core (k : Ctx) (task : W32)
  /-- a stream channel working for a task -/
  | chan (task : W32)
  | host (session : Nat)
  | twin
  deriving DecidableEq, Repr

/-- Whether open window `k` of region `r` admits a writer (R258). -/
def Dev.winAdmits (d : Dev) (r k : Nat) : Writer → Bool
  | .core c t =>
    sget (fun _ => none) (d.region r).winOwner k == some c ||
    (if d.winOwnerTask r k = t then bit (d.winWriters r k) 0
     else bit (d.winWriters r k) 4 && (d.winTask r k == 0xFFFFFFFF || d.winTask r k == t))
  | .chan t =>
    if d.winOwnerTask r k = t then bit (d.winWriters r k) 1
    else bit (d.winWriters r k) 4 && (d.winTask r k == 0xFFFFFFFF || d.winTask r k == t)
  | .host s => bit (d.winWriters r k) 2 && (d.winSession r k == 0xFFFF || d.winSession r k == s)
  | .twin => bit (d.winWriters r k) 3

/-- Whether a writer must write inside a window (R258). -/
def Writer.remote : Writer → Bool
  | .host _ => true
  | .twin => true
  | _ => false

/-- The check of a write of `n` bytes at `a` against the open windows (R258): the admitting window, if any, or whether it is refused. -/
def Dev.hitchCheck (d : Dev) (wr : Writer) (a n : Nat) : Bool × Option Nat :=
  let r := regionOf a
  let ks := d.winsTouched r a n
  if ks.isEmpty then (!wr.remote, none)
  else match ks.find? fun k => decide (d.winAddr r k ≤ a) && decide (a + n ≤ d.winAddr r k + d.winLen r k) && d.winAdmits r k wr with
    | some k => (true, some k)
    | none => (false, none)

/-- Count a refused write (R258): the region's counter, the denied count of every window it touches, and the sticky bit. -/
def Dev.countDenied (d : Dev) (a n : Nat) : Dev :=
  let r := regionOf a
  let d := (d.inc64 (aRs r + rRnStHitchDenied) 1).setBit (aRs r + rRnStSticky) 2
  (d.winsTouched r a n).foldl (fun d k => d.inc32 (winBase r k + 0x34) 1) d

/-- Count the bytes of an accepted write into its window. -/
def Dev.countWindow (d : Dev) (r : Nat) (k : Option Nat) (n : Nat) : Dev :=
  match k with
  | none => d
  | some k => d.inc64 (winBase r k + 0x28) n

/-- Count the bytes of an accepted write into the window with the given region and number. -/
def Dev.countCells (d : Dev) (w : Option (Nat × Nat)) (n : Nat) : Dev :=
  match w with
  | none => d
  | some w => d.countWindow w.1 (some w.2) n

/-! ### Writes of scattered bytes (R247, R249, R258) -/

/-- What a failed access leaves in counters and records, given the task it was made for (R459; 0 for none). -/
abbrev Post := W32 → Dev → Dev
/-- A failed access that leaves nothing. -/
def noPost : Post := fun _ d => d
/-- What a failed access raises: a status, and what it leaves. -/
abbrev Refuse := Option (Status × Post)

/-- The first refusal of a list of checks. -/
def firstRefusal : List Refuse → Refuse
  | [] => none
  | some r :: _ => some r
  | none :: l => firstRefusal l

/-- A refusal that counts nothing. -/
def refuseIf (b : Bool) (st : Status) : Refuse := if b then some (st, noPost) else none

/-- Record an uncorrectable word of a region store (R247): source 0x21. `task` is the task whose access met it, or 0 (R459). -/
def Dev.noteStore (d : Dev) (a : Nat) (task : W32) : Dev :=
  let n := regionOf a
  ((d.inc64 (aRs n + rRnStUncorrectable) 1).setBit (aRs n + rRnStSticky) 1).enterError (aErRn n) 128 0x8003 0x21 (bankOf a) a task.toNat 0

/-- The open windows, by region and number, that hold some of the cells of a write. -/
def Dev.winsOf (d : Dev) (cells : List (Nat × Byte)) : List (Nat × Nat) :=
  ((cells.map fun p => regionOf p.1).eraseDups).flatMap fun r =>
    ((upto 256).filter fun k => d.winOpen r k && cells.any fun p => overlap p.1 1 (d.winAddr r k) (d.winLen r k)).map fun k => (r, k)

/-- The check of a write of scattered bytes against the open windows (R258): the admitting window, if any, or whether it is refused. -/
def Dev.hitchCells (d : Dev) (w : Writer) (cells : List (Nat × Byte)) : Bool × Option (Nat × Nat) :=
  let ks := d.winsOf cells
  if ks.isEmpty then (!w.remote, none)
  else match ks.find? fun k => (cells.all fun p => overlap p.1 1 (d.winAddr k.1 k.2) (d.winLen k.1 k.2)) && d.winAdmits k.1 k.2 w with
    | some k => (true, some k)
    | none => (false, none)

/-- Count a refused write of scattered bytes (R258): the denied count of every window that holds some of them, and the counter and the sticky bit
of their regions. -/
def Dev.denyCells (d : Dev) (cells : List (Nat × Byte)) : Dev :=
  let ks := d.winsOf cells
  let d := ((ks.map fun k => k.1).eraseDups).foldl (fun d r => (d.inc64 (aRs r + rRnStHitchDenied) 1).setBit (aRs r + rRnStSticky) 2) d
  ks.foldl (fun d k => d.inc32 (winBase k.1 k.2 + 0x34) 1) d

/-- The uncorrectable words that a write replaces in part: their read-modify-write does not complete (R247). -/
def Dev.partWords (d : Dev) (cells : List (Nat × Byte)) : List Nat :=
  (d.marks.filter fun p => p.2 == 2 && inStore (4 * p.1) && (cells.any fun c => c.1 / 4 == p.1) &&
    !((upto 4).all fun i => cells.any fun c => c.1 == 4 * p.1 + i)).map fun p => 4 * p.1
/-- The refusal of a write that replaces an uncorrectable word in part. -/
def Dev.partRefusal (d : Dev) (cells : List (Nat × Byte)) : Refuse :=
  match d.partWords cells with
  | [] => none
  | a :: _ => some (0x8003, fun t d => d.noteStore a t)

/-- The checks of a write of scattered bytes as it reaches its banks: groups, slices for a narrow access, windows, and words replaced in part. -/
def Dev.cellsCheck (d : Dev) (w : Writer) (cells : List (Nat × Byte)) (narrow : Bool := true) : Refuse :=
  firstRefusal [refuseIf (cells.any fun p => d.groupOff p.1) 0x5003, refuseIf (narrow && cells.any fun p => d.sliceFenced p.1) 0x5004,
    if (d.hitchCells w cells).1 then none else some (0x500A, fun _ d => d.denyCells cells), d.partRefusal cells]

/-! ### Coils -/

/-- Base of the registers of coil `k` of region `r` (R262). -/
def coilBase (r k : Nat) : Nat := aRs r + rRnCoilBase + k * 32
/-- Whether a coil is enabled. -/
def Dev.coilEnabled (d : Dev) (r k : Nat) : Bool := d.flag (coilBase r k + 8) 0
/-- The buffer size of a coil in bytes. -/
def Dev.coilSize (d : Dev) (r k : Nat) : Nat := 2 ^ d.fld (coilBase r k + 8) 7 2
/-- The rank of a coil. -/
def Dev.coilRank (d : Dev) (r k : Nat) : Nat := d.fld (coilBase r k + 8) 31 16
/-- The generation of a coil. -/
def Dev.coilGen (d : Dev) (r k : Nat) : Nat := d.fld (coilBase r k + 12) 15 0
/-- The head of a coil. -/
def Dev.coilHead (d : Dev) (r k : Nat) : Nat := d.rd64 (coilBase r k + 0x10)
/-- The tail of a coil. -/
def Dev.coilTail (d : Dev) (r k : Nat) : Nat := d.rd64 (coilBase r k + 0x18)
/-- The readable count of a coil (R253). -/
def Dev.coilReadable (d : Dev) (r k : Nat) : Nat := (d.coilTail r k + 2 ^ 64 - d.coilHead r k) % 2 ^ 64
/-- The address of the byte at count `c` of a coil (R253). -/
def Dev.coilAddr (d : Dev) (r k c : Nat) : Nat := d.rd64 (coilBase r k) % 2 ^ 48 + c % d.coilSize r k
/-- Advance the generation of a coil by 1. -/
def Dev.coilBump (d : Dev) (r k : Nat) : Dev := d.setFld (coilBase r k + 12) 15 0 (d.coilGen r k + 1)
/-- Set the holders of a coil. -/
def Dev.coilHolders (d : Dev) (r k : Nat) : Nat := d.fld (coilBase r k + 12) 27 16
/-- Add to the holders of a coil. -/
def Dev.coilHold (d : Dev) (r k : Nat) : Dev := d.setFld (coilBase r k + 12) 27 16 (d.coilHolders r k + 1)
/-- Take one holder from a coil (R253). -/
def Dev.coilUnhold (d : Dev) (r k : Nat) : Dev := d.setFld (coilBase r k + 12) 27 16 (d.coilHolders r k - 1)
/-- Advance the tail (push) or the head (pop) of a coil. -/
def Dev.coilAdvance (d : Dev) (push : Bool) (r k n : Nat) : Dev :=
  if push then d.wr64 (coilBase r k + 0x18) ((d.coilTail r k + n) % 2 ^ 64)
  else d.wr64 (coilBase r k + 0x10) ((d.coilHead r k + n) % 2 ^ 64)

/-- A resource handle (R103). -/
def handleOf (index region kind gen : Nat) : W32 :=
  BitVec.ofNat 32 (index % 512 + region % 8 * 2 ^ 9 + kind * 2 ^ 12 + gen % 2 ^ 16 * 2 ^ 16)
/-- The index field of a handle. -/
def hIndex (h : W32) : Nat := field h.toNat 8 0
/-- The region field of a handle. -/
def hRegion (h : W32) : Nat := field h.toNat 11 9
/-- The kind field of a handle. -/
def hKind (h : W32) : Nat := field h.toNat 15 12
/-- The generation field of a handle. -/
def hGen (h : W32) : Nat := field h.toNat 31 16

end Sys2Proof.Machine
end

