-- ==== Sys2Proof/Machine/Contexts.lean ====
section
/-! DEFINITION. Contexts: reading registers, results becoming visible (R96, R97), program flow (R99, R140), the end and the abort of a
context (R109, R118, R261, R265), and the issue of the operations of a bundle (R95, R106, R118). -/

namespace Sys2Proof.Machine

/-! ### Registers (R100, R102) -/

/-- A scalar register: s0 reads 0. -/
def Context.getS (c : Context) (r : Fin 64) : W64 := if r = 0 then 0 else nth c.s r 0
/-- A vector register. -/
def Context.getV (c : Context) (r : Fin 64) : List W32 := nth c.v r []
/-- One lane of a vector register. -/
def Context.lane (c : Context) (r : Fin 64) (l : Nat) : W32 := nth (c.getV r) l 0
/-- A mask register: m0 reads all ones. -/
def Context.getM (c : Context) (r : Fin 16) : W64 := if r = 0 then 0xFFFFFFFFFFFFFFFF else nth c.m r 0
/-- A Long Total. -/
def Context.getT (c : Context) (r : Fin 32) : LongTotal := nth c.t r LongTotal.zero
/-- A coil handle. -/
def Context.getC (c : Context) (r : Fin 16) : W32 := nth c.c r 0
/-- A hitch handle. -/
def Context.getH (c : Context) (r : Fin 16) : W32 := nth c.h r 0
/-- A channel handle. -/
def Context.getQ (c : Context) (r : Fin 8) : W32 := nth c.q r 0

/-- Merge lanes under a mask: a lane whose mask bit is 0 keeps its old value (R102). -/
def mergeLanes (mask : W64) (old new : List W32) : List W32 :=
  (upto 64).map fun l => if mask.getLsbD l then nth new l 0 else nth old l 0
/-- Merge mask bits under a mask. -/
def mergeBits (mask old new : W64) : W64 := (new &&& mask) ||| (old &&& ~~~ mask)

/-- Write a result to its register; writes to s0 and m0 are discarded (R100). -/
def Context.write (c : Context) : Dest → Context
  | .s r x => if r = 0 then c else { c with s := put c.s r x }
  | .v r mask x => { c with v := put c.v r (mergeLanes mask (c.getV r) x) }
  | .m r mask x => if r = 0 then c else { c with m := put c.m r (mergeBits mask (nth c.m r 0) x) }
  | .t r x => { c with t := put c.t r x }
  | .promote r ws => { c with t := put c.t r (ws.foldl LongTotal.promote (c.getT r)) }
  | .c r x => { c with c := put c.c r x }
  | .h r x => { c with h := put c.h r x }
  | .q r x => { c with q := put c.q r x }

/-- Insert a result into a list ordered by due cycle, behind those of the same cycle (R97). -/
def pendInsert (p : Pend) : List Pend → List Pend
  | [] => [p]
  | q :: l => if p.due < q.due then p :: q :: l else q :: pendInsert p l

/-- Add a pending result: due `lat` issue cycles after the current bundle's, which has issued as cycle `cyc - 1`. -/
def Context.later (c : Context) (slot lat : Nat) (x : Dest) (wait : Nat := 0) (tag : Nat := 0) : Context :=
  { c with pend := pendInsert { due := c.cyc - 1 + lat, iat := c.cyc - 1, slot := slot, dest := x, wait := wait, tag := tag } c.pend }

/-- The results due by issue cycle `i` that have not arrived. -/
def Context.unarrived (c : Context) (i : Nat) : List Pend := c.pend.filter fun p => decide (p.due ≤ i) && p.wait != 0

/-- Make the arrived results due by issue cycle `i` visible, in order of due cycle, issue and slot (R96, R97). -/
def Context.settle (c : Context) (i : Nat) : Context :=
  let now := c.pend.filter fun p => decide (p.due ≤ i) && p.wait == 0
  now.foldl (fun c p => c.write p.dest) { c with pend := c.pend.filter fun p => !(decide (p.due ≤ i) && p.wait == 0) }

/-- The staging rows that the lanes of an SST touch. -/
def sstRows (a : Nat) (mask : W64) : List Nat :=
  (stageRows a 256).filter fun r => (upto 64).any fun l => mask.getLsbD l && (a + 4 * l) / 512 % 512 == r

/-- Perform the SST writes of a list at the staging buffer (R168): the tag of every row touched becomes 0x7FFF with format 0xF. A write into a
pinned row is not performed (R73). -/
def Core.performSst (co : Core) (ps : List StagePend) : Core :=
  ps.foldl (fun co p =>
    if co.anyPinned (sstRows p.addr p.mask) then co else
    let co := (upto 64).foldl (fun co l => if p.mask.getLsbD l then co.setStage (p.addr + 4 * l) (leBytes (nth p.x l 0).toNat 4) else co) co
    (sstRows p.addr p.mask).foldl (fun co r => co.setTag r 0x7FFF 15) co) co

/-- Perform the SST writes of a context that are due by issue cycle `i`. -/
def Dev.flushSst (d : Dev) (k : Ctx) (i : Nat) : Dev :=
  let due := (d.ctx k).ssts.filter fun p => decide (p.due ≤ i)
  if due.isEmpty then d
  else (d.modCore k.region k.core fun co => co.performSst due).modCtx k fun c =>
    { c with ssts := c.ssts.filter fun p => !decide (p.due ≤ i) }

/-- Perform every SST write of a context: at a switch away from it and when it ends (R168). -/
def Dev.flushAllSst (d : Dev) (k : Ctx) : Dev :=
  let ps := (d.ctx k).ssts
  if ps.isEmpty then d
  else (d.modCore k.region k.core fun co => co.performSst ps).modCtx k fun c => { c with ssts := [] }

/-! ### The end of a context -/

/-- Drop one coil of a context: the pointers stay (R253, R261). -/
def Dev.dropCoil (d : Dev) (k : Ctx) (r i : Nat) : Dev :=
  (d.coilUnhold r i).modCtx k fun c => { c with coils := c.coils.eraseP fun x => x.1 == r && x.2.1 == i }

/-- A context drops its hold of a channel (R265). Handles go stale once no context holds it (log 8). -/
def Dev.dropChan (d : Dev) (i : Nat) (k : Ctx) : Dev :=
  d.modChan i fun ch =>
    let hs := ch.holders.filter fun h => h != k
    { ch with holders := hs, generation := if hs.isEmpty && !ch.holders.isEmpty then ch.generation + 1 else ch.generation }

/-- Release every coil, window and channel that a context holds (R261, R265). -/
def Dev.releaseAll (d : Dev) (k : Ctx) : Dev :=
  let c := d.ctx k
  let d := c.coils.foldl (fun d x => d.coilUnhold x.1 x.2.1) d
  let d := c.wins.foldl (fun d x => d.closeWindow x.1 x.2.1) d
  let d := c.chans.foldl (fun d i => d.dropChan (k.region * 8 + i) k) d
  d.modCtx k fun c => { c with coils := [], wins := [], chans := [] }

/-- The handling window of a lane ends with the chunk whose error replay opened it (R464): at its promotion, or with its context. -/
def Dev.settleLanes (d : Dev) (r k : Nat) (lanes : W64) : Dev :=
  let open_ := (d.core r k).slots.foldl (fun (m : W64) s => match s with | none => m | some c => c.chunks.foldl (fun m h => m ||| h.errReplayed) m) 0
  (upto 64).foldl (fun d l => if lanes.getLsbD l && !open_.getLsbD l then d.clrBit (aErLane r k l + rErState) 0 else d) d

/-- The lanes of a context's chunks that an error replay holds in a handling window. -/
def Context.lanesHandled (c : Context) : W64 := c.chunks.foldl (fun m h => m ||| h.errReplayed) 0

/-- A context stops issuing, as at END (R99, R109, R141): its core has no running context until it switches (R114). What it holds is released
once every slot of its bundle has executed: see `Dev.bundleDone`. -/
def Dev.endCtx (d : Dev) (k : Ctx) : Dev :=
  let d := d.modCtx k fun c => { c with active := false, ended := true, holds := [], redirect := none }
  d.modCore k.region k.core fun co => if co.running = some k.slot.val then { co with running := none } else co

/-- Count cyc in which the running context was held and no switch ran (R492). -/
def Dev.countHold (d : Dev) (k : Ctx) (n : Nat) : Dev :=
  let co := d.core k.region k.core
  if co.running = some k.slot.val && co.switching.isNone then d.inc64 (aCo k.region k.core + rCoPfHold) n else d

/-- Count the `n` cyc of a hold that ends (R345, R492). -/
def Dev.countHeld (d : Dev) (k : Ctx) (h : Hold) (n : Nat) : Dev :=
  let d := d.countHold k n
  if h.why.plait h.kind then d.inc64 (aCo k.region k.core + rCoPlHoldCyc) n else d

/-- Count the holds of a context that an abort ends: no command says how many cyc each has lasted, so a free value does (log 71). -/
def Dev.cutHolds (d : Dev) (k : Ctx) : Dev :=
  (d.ctx k).holds.foldl (fun d h => let (v, d) := d.draw; d.countHeld k h v.toNat) d

/-- Cancel a context of an aborted task (R118): its held operations, transfers and Plait steps; stores in the store queue complete. -/
def Dev.cancelCtx (d : Dev) (k : Ctx) : Dev :=
  let d := d.cutHolds k
  let lanes := (d.ctx k).lanesHandled
  let d := ((d.flushAllSst k).releaseAll k).endCtx k
  let d := d.modCtx k fun c =>
    { c with aborted := true, pend := [], chunks := [], closing := [], xfers := [], coilOps := [], plaits := [] }
  let d := (d.modCore k.region k.core fun co =>
    { co with replaying := if co.replaying = some k.slot.val then none else co.replaying }).settleLanes k.region k.core lanes
  d.modRegion k.region fun g => { g with shorts := g.shorts.filter fun s => s.owner != k }

/-! ### Program flow (R99, R140) -/

/-- The loop stack and the next bundle after the bundle `pc` with no branch pending: an ended inner loop lets its outer loop count too. -/
def loopStep (pc : Nat) : List LoopEntry → Nat × List LoopEntry
  | [] => (pc + 1, [])
  | e :: es =>
    if e.stop = pc then
      if 1 < e.left then (e.start, { e with left := e.left - 1 } :: es) else loopStep pc es
    else (pc + 1, e :: es)

/-- Advance the program counter past the bundle that issues: a branch's target after its delay bundles, or the loops. -/
def Context.advance (c : Context) : Context :=
  match c.redirect with
  | some (n, t) =>
    if n ≤ 1 then { c with pc := t, redirect := none } else { c with pc := c.pc + 1, redirect := some (n - 1, t) }
  | none =>
    let (p, ls) := loopStep c.pc c.loops
    { c with pc := p, loops := ls }

/-- Take a branch: the two sequential bundles issue first (R99). The bundle itself has been passed. -/
def Context.branch (c : Context) (target : Nat) : Context := { c with redirect := some (2, target) }

end Sys2Proof.Machine
end

