-- ==== Sys2Proof/Machine/Send.lean ====
section
/-! DEFINITION. Sending: frames that leave a port (R398, R400, R401), and unsequenced and sequenced messages of a session (R410 to R415). -/

namespace Sys2Proof.Machine

/-! ### The Ember store's bytes (R524) -/

/-- The ASCII bytes of a magic of eight bytes, given as numbers. -/
def magicBytes (l : List Nat) : List Byte := l.map fun x => BitVec.ofNat 8 x
/-- The bytes of the store at manufacture (R524, log 4): magic, version, serial and spares; the network settings at the registers' reset
values; every other field 0. -/
def emberDefault (a : Nat) : Byte :=
  if a < 8 then nth (magicBytes [0x42, 0x58, 0x4F, 0x41, 0x45, 0x4D, 0x42, 0]) a 0
  else if a = 8 then 1
  else if 0x18 ≤ a && a < 0x20 then BitVec.ofNat 8 (Config.serial.toNat / 2 ^ (8 * (a - 0x18)))
  else if 0x100 ≤ a && a < 0x104 then BitVec.ofNat 8 ((regReset (aEt 0 + rEtMode)).toNat / 2 ^ (8 * (a - 0x100)))
  else if 0x140 ≤ a && a < 0x144 then BitVec.ofNat 8 ((regReset (aEt 1 + rEtMode)).toNat / 2 ^ (8 * (a - 0x140)))
  else if 0x180 ≤ a && a < 0x184 then BitVec.ofNat 8 ((regReset (aMt + rMtCfg)).toNat / 2 ^ (8 * (a - 0x180)))
  else if 0x200 ≤ a && a < 0x280 && 6 ≤ a % 16 && a % 16 < 10 then
    BitVec.ofNat 8 (10 * (a % 16 - 6) + (Config.spare ((a - 0x200) / 16) (a % 16 - 6)).val)
  else 0

/-- The byte of a store image, its CRC apart. -/
def emberGet (m : Sparse Byte) (a : Nat) : Byte := sget emberDefault m a
/-- The number of `n` bytes at an offset of the store. -/
def Dev.em (d : Dev) (a n : Nat) : Nat := leNat (emberGet d.ember.store) a n
/-- The bytes at an offset of the store. -/
def Dev.emBytes (d : Dev) (a n : Nat) : List Byte := readBytes (emberGet d.ember.store) a n
/-- pair_mac. -/
def Dev.pairMac (d : Dev) : BitVec 48 := BitVec.ofNat 48 (d.em 0x94 6)
/-- pair_ip. -/
def Dev.pairIp (d : Dev) : Ip := BitVec.ofNat 128 (d.em 0xC0 16)

/-! ### Ports and addresses -/

/-- A port. -/
def Dev.port (d : Dev) (p : Nat) : Port := if p = 0 then d.net.portA else d.net.portB
/-- Change a port. -/
def Dev.modPort (d : Dev) (p : Nat) (f : Port → Port) : Dev :=
  if p = 0 then { d with net := { d.net with portA := f d.net.portA } }
  else { d with net := { d.net with portB := f d.net.portB } }
/-- Whether some link or sublink of a port is up. -/
def Dev.portUp (d : Dev) (p : Nat) : Bool := d.flag (aEt p + rEtState) 0 || d.flag (aEt p + rEtState) 1
/-- A session; a session never opened is CLOSED. -/
def Dev.session (d : Dev) (s : Nat) : Session := sget (fun _ => {}) d.net.sessions s
/-- Change a session. -/
def Dev.modSession (d : Dev) (s : Nat) (f : Session → Session) : Dev :=
  { d with net := { d.net with sessions := smod (fun _ => {}) d.net.sessions s f } }

/-- Whether an address is an IPv4-mapped address (R428). -/
def ipIsV4 (a : Ip) : Bool := a.toNat / 2 ^ 32 == 0xFFFF
/-- A 128-bit value from four control-space words, the first the most significant. -/
def Dev.rd128 (d : Dev) (a : Nat) : Ip :=
  (upto 4).foldl (fun x w => x * 2 ^ 32 + (d.rd (a + 4 * w)).toNat) 0 |> BitVec.ofNat 128
/-- Whether an address is a multicast address, which is its own next hop (log 72). -/
def ipMulticast (a : Ip) : Bool := if ipIsV4 a then a.toNat % 2 ^ 32 / 2 ^ 28 == 14 else a.toNat / 2 ^ 120 == 0xFF
/-- The next hop of a destination (R400): itself inside the prefix, and otherwise the gateway. -/
def Dev.hop (d : Dev) (p : Nat) (dst : Ip) : Ip :=
  let same (w n : Nat) (x y : Nat) : Bool := decide (x % 2 ^ w / 2 ^ (w - n) = y % 2 ^ w / 2 ^ (w - n))
  if ipMulticast dst then dst
  else if ipIsV4 dst then
    if same 32 (min 32 (d.fld (aEt p + rEtIpCfg) 13 8)) dst.toNat (d.rd (aEt p + rEtIpv4)).toNat then dst
    else BitVec.ofNat 128 (0xFFFF * 2 ^ 32 + (d.rd (aEt p + rEtIpv4Gw)).toNat)
  else if same 128 (min 128 (d.fld (aEt p + rEtIpCfg) 23 16)) dst.toNat (d.rd128 (aEt p + rEtIpv6)).toNat then dst
  else d.rd128 (aEt p + rEtIpv6Gw)

/-- The IPv4-mapped address of an IPv4 address (R428). -/
def mapV4 (a : BitVec 32) : Ip := BitVec.ofNat 128 (0xFFFF * 2 ^ 32 + a.toNat)
/-- Whether an address is that of a port. -/
def Dev.ownIp (d : Dev) (p : Nat) (a : Ip) : Bool :=
  (d.flag (aEt p + rEtIpCfg) 0 && a == mapV4 (d.rd (aEt p + rEtIpv4))) || (d.flag (aEt p + rEtIpCfg) 1 && a == d.rd128 (aEt p + rEtIpv6))
/-- The MAC address of a sublink of a port. -/
def Dev.portMac (d : Dev) (p sub : Nat) : BitVec 48 := BitVec.ofNat 48 (d.rd64 (aEt p + (if sub = 0 then rEtMac0 else rEtMac1)))
/-- The address from which a port sends to a destination. -/
def Dev.srcIp (d : Dev) (p : Nat) (dst : Ip) : Ip := if ipIsV4 dst then mapV4 (d.rd (aEt p + rEtIpv4)) else d.rd128 (aEt p + rEtIpv6)
/-- The hardware address from which a frame leaves: pair_mac for the pair address, else that of its sublink (R434). -/
def Dev.macOut (d : Dev) (f : OutFrame) : BitVec 48 :=
  if f.src == d.pairIp && !d.ownIp f.port f.src && f.src != 0 then d.pairMac else d.portMac f.port f.sub

/-- The lowest transmit SA of a port that is marked valid (R401). -/
def Dev.txSa (d : Dev) (p : Nat) : Option Nat :=
  (upto 8).find? fun k => d.fld (aEt p + rEtSaCtl + 64 * k) 1 0 == 3

/-- MACsec protects a frame as it leaves (R401): its transmit SA and the next packet number; `none` when no transmit SA is valid. -/
def Dev.protect (d : Dev) (f : OutFrame) : Option (OutFrame × Dev) :=
  if d.flag (aEt f.port + rEtMode) 2 then
    (d.txSa f.port).map fun k =>
      let a := aEt f.port + rEtSaPn + 64 * k
      ({ f with sa := some (k, d.rd64 a) }, d.wr64 a ((d.rd64 a + 1) % 2 ^ 64))
  else some (f, d)

/-- Put a frame on the wire, protected when MACsec is on. -/
def Dev.emit (d : Dev) (f : OutFrame) : Dev :=
  match d.protect f with
  | none => d
  | some (f, d) => { d with net := { d.net with wire := f :: d.net.wire } }

/-- Ask for the hardware address of the next hop of a frame that the port does not know (R397): an ARP request, or a neighbour solicitation.
No command brings the answer; the port knows the address from then on (log 72). -/
def Dev.resolve (d : Dev) (f : OutFrame) : Dev :=
  if f.payload.unicast && !(d.port f.port).known.contains f.hop then
    let ask := if ipIsV4 f.hop then Payload.arpRequest f.hop f.src f.srcMac else .neighbourSolicit f.hop f.src f.srcMac
    (d.modPort f.port fun q => { q with known := f.hop :: q.known }).emit { f with srcUdp := 0, dst := 0, hop := 0, payload := ask }
  else d

/-! PTP event messages are timestamped as they leave (R403). -/

/-- A number of `n` bytes in the byte order of IEEE 1588, the most significant first. -/
def beNat (bs : List Byte) (a n : Nat) : Nat := ((bs.drop a).take n).foldl (fun x b => 256 * x + b.toNat) 0
/-- A number as `n` bytes, the most significant first. -/
def beBytes (x n : Nat) : List Byte := (leBytes x n).reverse
/-- A time of 48 bits of seconds and 32 bits of nanoseconds, in ns. -/
def ptpTime (bs : List Byte) : Int := ((beNat bs 34 6 * 1000000000 + beNat bs 40 4 : Nat) : Int)
/-- The bytes of a time. -/
def ptpTimeBytes (t : Int) : List Byte := beBytes (t.toNat / 1000000000) 6 ++ beBytes (t.toNat % 1000000000) 4
/-- The message type of a PTP message. -/
def ptpType (bs : List Byte) : Nat := beNat bs 0 1 % 16

/-- A timestamp at the PCS (R403): DT with a resolution of 1 ns and an error of at most 8 ns, a free value. -/
def Dev.stamp (d : Dev) : Int × Dev :=
  let (v, d) := d.draw
  ((d.dt.toNat : Int) + (v.toNat : Int) % 17 - 8, d)

/-- A PTP event message leaves: a delay request keeps its timestamp; a peer delay response carries its turnaround time in its correction, from
the receive timestamp that stands in it until then (log 72). -/
def Dev.ptpDeparts (d : Dev) (f : OutFrame) : OutFrame × Dev :=
  match f.payload with
  | .ptp tr bs =>
    let (t, e) := d.stamp
    match ptpType bs with
    | 1 | 2 => (f, e.modPort f.port fun q => { q with ptp := { q.ptp with req := some t } })
    | 3 =>
      let corr := (beNat bs 8 8 + ((t - ptpTime bs) * 65536) % 2 ^ 64).toNat % 2 ^ 64
      ({ f with payload := .ptp tr (bs.take 8 ++ beBytes corr 8 ++ (bs.drop 16).take 18 ++ List.replicate 10 0 ++ bs.drop 44) }, e)
    | _ => (f, d)
  | _ => (f, d)

/-- A frame leaves its port: on the sublink that is up, sublink 0 first (R398). A frame of a port without a link is lost. -/
def Dev.launch (d : Dev) (f : OutFrame) : Dev :=
  if d.portUp f.port then
    let f := { f with sub := if d.flag (aEt f.port + rEtState) 0 then 0 else 1, at_ := d.dt }
    let (f, d) := d.ptpDeparts { f with srcMac := d.macOut f }
    (d.resolve f).emit f
  else d

/-- The UDP source port of a payload (log 72): PTP sends event messages from port 319 and general ones from 320. -/
def Dev.srcPort (d : Dev) : Payload → Nat
  | .mbt _ _ => d.fld (aMt + rMtCfg) 15 0
  | .ptp 0 _ => 0
  | .ptp _ bs => if ptpType bs < 8 then 319 else 320
  | _ => 0

/-- The UDP port of MBT (R428). -/
def Dev.mbtUdp (d : Dev) : BitVec 16 := BitVec.ofNat 16 (d.fld (aMt + rMtCfg) 15 0)

/-- Build and send a frame (R400, R401, R404), from the pair address when `src` gives it. While a received pause holds its priority, the frame
waits (R414). -/
def Dev.transmit (d : Dev) (p : Nat) (dst : Ip) (pl : Payload) (src : Option Ip := none) : Dev :=
  let vlan := (d.rd (aEt p + rEtVlan)).toNat
  let f : OutFrame :=
    { port := p, at_ := d.dt, vid := field vlan 11 0, pcp := field vlan 14 12, src := src.getD (d.srcIp p dst), dst := dst, hop := d.hop p dst,
      srcUdp := d.srcPort pl, payload := pl }
  let isPause := match pl with | .pause _ _ => true | _ => false
  if (d.port p).paused.getLsbD f.pcp && !isPause then d.modPort p fun q => { q with held := q.held ++ [f] } else d.launch f

/-- Send a message to the peer of a session on its home port; it carries the current ack (R412). -/
def Dev.sendOn (d : Dev) (s : Nat) (m : Mbt) : Dev :=
  let x := d.session s
  let d := d.modSession s fun x => { x with ackOwed := none }
  d.transmit x.home x.addr (.mbt x.udp.toNat { m with session := x.peerSession.toNat, ack := x.ackNo }) (if x.pair then some d.pairIp else none)

/-- Whether a message of a session that satisfies a test has not left its port: it waits for its session, or its frame for a pause to end. -/
def Dev.notLeft (d : Dev) (s : Nat) (p : Mbt → Bool) : Bool :=
  let x := d.session s
  x.waiting.any p || (d.net.portA.held ++ d.net.portB.held).any fun f => match f.payload with
    | .mbt _ m => m.session == x.peerSession.toNat && p m
    | _ => false

/-- Send an unsequenced message of a session. -/
def Dev.sendUnseq (d : Dev) (s type : Nat) (body : List Byte := []) (flags : Nat := 0) (ref : W32 := 0) : Dev :=
  d.sendOn s { type := type, session := 0, flags := flags, ref := ref, body := body }

/-- The next sequence number that a session will send: behind it wait messages that have their numbers but have not left (R411, R428). -/
def Session.nextSeq (x : Session) : W32 := x.txSeq - BitVec.ofNat 32 x.waiting.length

/-- Count an outgoing message that is discarded (R410). -/
def Dev.countDiscarded (d : Dev) (n : Nat) : Dev :=
  if n = 0 then d else (d.inc64 (aMt + rMtDiscarded) n).setBit (aMt + rMtSticky) 3

/-- Transmit the messages that wait while fewer than 64 are unacknowledged (R413). -/
def Dev.pump (d : Dev) (s : Nat) : Dev :=
  let x := d.session s
  if x.state ≠ 2 then d
  else
    let n := 64 - x.unacked.length
    let now := x.waiting.take n
    let d := d.modSession s fun x =>
      { x with waiting := x.waiting.drop n, unacked := x.unacked ++ now.map fun m => ⟨m, d.dt⟩ }
    now.foldl (fun d m => d.sendOn s m) d

/-- Send a sequenced message on a session (R409, R413): it waits while the session is OPENING or SUSPENDED, and on a closed one it is
discarded (R410). -/
def Dev.sendRaw (d : Dev) (s : Nat) (m : Mbt) : Dev :=
  let x := d.session s
  if x.state ≠ 0 then
    (d.modSession s fun x => { x with txSeq := x.txSeq + 1, waiting := x.waiting ++ [{ m with seq := x.txSeq }] }).pump s
  else d.countDiscarded 1

/-- The Tether session (R433). -/
def tether : Nat := 4095
/-- The Tether state, mode and role that TT_STATE shows. -/
def Dev.ttState (d : Dev) : Nat := d.fld (aTt + rTtState) 2 0
/-- Whether this module is primary. -/
def Dev.ttPrimary (d : Dev) : Bool := d.flag (aTt + rTtState) 3
/-- Mode of the stored record. -/
def Dev.ttMode (d : Dev) : Nat := d.fld (aTt + rTtState) 5 4
/-- Whether the module replicates to its twin: the primary of a READY Mirror or Standby pair (R446, R448). -/
def Dev.replicates (d : Dev) : Bool := d.ttState == 3 && d.ttPrimary && (d.ttMode == 1 || d.ttMode == 2)

/-- The check field of a message (R406): over the header with a check of 0, and the body. -/
def Mbt.check (m : Mbt) : Nat := crc32c (m.head ++ leBytes 0 4 ++ m.body)
/-- The bytes of a message: its header with the check, and its body (R405, R406). -/
def Mbt.bytes (m : Mbt) : List Byte := m.head ++ leBytes m.check 4 ++ m.body

/-- The body of a FWD (R436). -/
def fwdBody (s kind : Nat) (seq : W32) (m : Mbt) : List Byte :=
  leBytes s 2 ++ leBytes kind 2 ++ leBytes seq.toNat 4 ++ m.bytes

/-- Send a sequenced message, and replicate it to the twin when its session is a pair session (R446). -/
def Dev.sendSeq (d : Dev) (s type : Nat) (body : List Byte) (ref : W32 := 0) (flags : Nat := 0) : Dev :=
  let m : Mbt := { type := type, session := (d.session s).peerSession.toNat, ref := ref, flags := flags, body := body }
  let q := (d.session s).txSeq
  let d := d.sendRaw s m
  if (d.session s).pair && d.replicates then
    d.sendRaw tether { type := 0x41, session := 0, body := fwdBody s 2 q { m with seq := q } }
  else d

/-- Answer a request: its type with the response flag and its seq in ref (R415). -/
def Dev.respond (d : Dev) (s type : Nat) (ref : W32) (body : List Byte) : Dev := d.sendSeq s type body ref 1

/-- Send a REJECT on a session (R405, R416): it answers the message of that seq. -/
def Dev.reject (d : Dev) (s : Nat) (seq : W32) (status : Nat) : Dev :=
  ((d.inc64 (aMt + rMtRejects) 1).setBit (aMt + rMtSticky) 2).sendUnseq s 7 (leBytes seq.toNat 4 ++ leBytes status 2 ++ leBytes 0 2) 0 seq

/-- Send a REJECT to a peer that has no OPEN session (R410); `ack` is that of the session, when it is the peer's (R412). -/
def Dev.rejectTo (d : Dev) (p : Nat) (dst : Ip) (udp peer : Nat) (seq ack : W32) (status : Nat) : Dev :=
  ((d.inc64 (aMt + rMtRejects) 1).setBit (aMt + rMtSticky) 2).transmit p dst
    (.mbt udp { type := 7, session := peer, ref := seq, ack := ack, body := leBytes seq.toNat 4 ++ leBytes status 2 ++ leBytes 0 2 })

end Sys2Proof.Machine
end

