-- ==== Sys2Proof/Machine/Abort.lean ====
section
/-! DEFINITION. The abort of a task (R8, R118, R298), the completion of a descriptor (R272) and the DONE and ABORT messages (R418). -/

namespace Sys2Proof.Machine

/-- The device fields of a descriptor that completes with armed = 0 (R272): status, done_bytes and the armed bit together. -/
def Dev.descCells (d : Dev) (a : Nat) (status : Status) (bytes : Nat) : List (Nat × Byte) :=
  (a + 2, d.byte (a + 2) &&& 0xFE) :: cellsAt (a + 56) (leBytes status.toNat 2) ++ cellsAt (a + 60) (leBytes (satTo 32 bytes) 4)

/-- Write them for task `id`, with the checks of a write that the device makes for a task (R245, R249, R258): one that fails writes nothing. -/
def Dev.descWrite (d : Dev) (id : W32) (a : Nat) (status : Status) (bytes : Nat) : Dev :=
  let cells := d.descCells a status bytes
  match d.cellsCheck (.chan id) cells false with
  | some _ => d
  | none => (d.writeCells cells).countCells (d.hitchCells (.chan id) cells).2 cells.length

/-- Whether this module sends the DONE or ABORT of a task: the secondary of a pair sends none of a replicated task (R447). -/
def Dev.answers (d : Dev) (t : Task) : Bool := !(t.twin && !d.ttPrimary && (d.ttState == 2 || d.ttState == 3))

/-- Where a fault was raised, for CO_LAST_ABORT and the ABORT message. -/
structure FaultAt where
  ctx : Ctx
  rank : Nat
  bundle : Nat
  deriving DecidableEq, Repr

/-- The global logical core that a physical core holds, if any (R104, R35). -/
def Dev.logicalOf (d : Dev) (n k : Nat) : Option Nat :=
  (upto 36).find? (fun l => d.fld (aRn n + rRnLmap + 4 * l) 5 0 == k && !d.flag (aRn n + rRnLmap + 4 * l) 6) |>.map fun l => 36 * n + l

/-- The 24-byte body of an ABORT (R418). -/
def abortBody (id : W32) (status : Status) (rank : Nat) (at_ : W64) (core bundle : Nat) : List Byte :=
  leBytes id.toNat 4 ++ leBytes status.toNat 2 ++ leBytes rank 2 ++ leBytes at_.toNat 8 ++ leBytes core 2 ++ leBytes 0 2 ++ leBytes bundle 4

/-- The 24-byte body of a DONE (R418). -/
def doneBody (id : W32) (digest written : W64) : List Byte :=
  leBytes id.toNat 4 ++ leBytes 0 4 ++ leBytes digest.toNat 8 ++ leBytes written.toNat 8

/-- Cancel the descriptors of a task on one channel (R298). -/
def Dev.cancelChan (d : Dev) (i : Nat) (id : W32) (status : Status) : Dev :=
  let mine := (d.chan i).queue.filter fun x => x.task == id
  if mine.isEmpty then d
  else
    let d := mine.foldl (fun d x => d.descWrite id x.addr status x.bytes) d
    let d := d.inc64 (aSt (i / 8) (i % 8) + rStDescs) mine.length
    d.modChan i fun ch =>
      { ch with queue := ch.queue.filter fun x => x.task != id
                remotes := if ch.task = id then [] else ch.remotes
                nextBlock := if ch.task = id then 0 else ch.nextBlock
                gate := if ch.task = id then none else ch.gate }

/-- Count an abort (R395). -/
def Dev.countAbort (d : Dev) (status : Status) : Dev :=
  let d := d.inc64 (aLl + rLlAborts) 1
  if status = 0x100F then (d.inc64 (aLl + rLlOverruns) 1).setBit (aLl + rLlSticky) 0
  else if status = 0x1010 then d.setBit (aLl + rLlSticky) 2
  else d

/-- Record an abort at the core that raised it (R116, R118). -/
def Dev.recordAbort (d : Dev) (id : W32) (status : Status) (f : FaultAt) : Dev :=
  (d.wr64 (aCo f.ctx.region f.ctx.core + rCoLastAbort) (status.toNat + f.ctx.slot * 2 ^ 16 + id.toNat * 2 ^ 32)).wr64
    (aCo f.ctx.region f.ctx.core + rCoLastAbortAt) (f.bundle % 2 ^ 14 + f.rank % 2 ^ 9 * 2 ^ 16)

/-- Send the ABORT of a task (R8, R418). A secondary keeps that of a replicated task, unless the primary has ended the task. -/
def Dev.sendAbort (d : Dev) (t : Task) (status : Status) (f : Option FaultAt) : Dev :=
  let body := match f with
    | none => abortBody t.id status 0xFFFF d.dt 0xFFFF 0xFFFFFFFF
    | some f => abortBody t.id status f.rank d.dt (t.cores.getD f.rank 0xFFFF) f.bundle
  if t.closed then d
  else if d.answers t then d.sendSeq t.session 0x13 body t.seq
  else { d with twin := { d.twin with unsent := d.twin.unsent ++ [⟨t.id, t.session, t.seq, body⟩] } }

/-- Stop a task everywhere and cancel its work (R118, R298, R261, R265): of its additions, those that have not entered a conflict queue (R202). -/
def Dev.stopTask (d : Dev) (t : Task) (status : Status) : Dev :=
  let d := t.places.foldl (fun d k => if (d.ctx? k).any fun c => c.task == t.id then d.cancelCtx k else d) d
  let d := d.chans.foldl (fun e p => e.cancelChan p.1 t.id status) d
  let d := d.regions.foldl (fun e p => e.modRegion p.1 fun g => { g with crossbar := g.crossbar.filter fun x => x.task != t.id }) d
  { d with tasks := d.tasks.filter fun x => x.id != t.id }

/-- End a task without a result: stop it and report it (R8, R118). -/
def Dev.endTask (d : Dev) (t : Task) (status : Status) (f : Option FaultAt) : Dev :=
  let d := d.stopTask t status
  let d := match f with | none => d | some f => d.recordAbort t.id status f
  (d.countAbort status).sendAbort t status f

/-- Abort an accepted task. A task whose results and digest have been written ends with DONE, so no fault aborts it (R53). -/
def Dev.abortTask (d : Dev) (id : W32) (status : Status) (f : Option FaultAt := none) : Dev :=
  match d.task? id with
  | none => d
  | some t => if t.written.isSome then d else d.endTask t status f

/-- Abort every task of a list. -/
def Dev.abortAll (d : Dev) (ids : List W32) (status : Status) : Dev := ids.foldl (fun d i => d.abortTask i status) d

/-- A fault of channel `i` in a transfer of a task (R298): recorded at the channel, and the task is aborted. Of a task that has ended, or that has
its results written (R53), the channel's own descriptors are cancelled. -/
def Dev.chanFault (d : Dev) (i : Nat) (id : W32) (st : Status) : Dev :=
  let a := aSt (i / 8) (i % 8)
  (((d.wr64 (a + rStLastFault) (st.toNat + id.toNat * 2 ^ 32)).setBit (a + rStSticky) 2).abortTask id st).cancelChan i id st

end Sys2Proof.Machine
end

