-- ==== Sys2Proof/Machine/Bundle.lean ====
section
/-! DEFINITION. The issue of bundles (R95 to R99, R106, R118): the operations of one bundle arrive as commands in slot order; the first one
opens the bundle, and a fault or a hold before issue takes back the whole bundle. -/

namespace Sys2Proof.Machine

/-- The outcome of one operation of a bundle. -/
inductive OpRes where
  | ok (d : Dev)
  /-- a status that aborts the task; `post` is what the fault leaves in counters -/
  | fault (status : Status) (post : Post)
  /-- the bundle is held before issue -/
  | hold (h : Hold)

/-- A fault that counts nothing beyond the abort. -/
def OpRes.faulty (status : Status) : OpRes := .fault status noPost

/-- Continue with an operation's device. -/
def OpRes.bind (r : OpRes) (f : Dev → OpRes) : OpRes :=
  match r with
  | .ok d => f d
  | .fault st p => .fault st p
  | .hold h => .hold h

/-- Whether a context may issue its next bundle: it runs on its core, no switch is in progress and no hold remains. -/
def Dev.mayIssue (d : Dev) (k : Ctx) : Bool :=
  let co := d.core k.region k.core
  match d.ctx? k with
  | none => false
  | some c => co.running == some k.slot.val && co.switching.isNone && c.active && c.holds.isEmpty

/-- Add a hold to a context. -/
def Dev.addHold (d : Dev) (k : Ctx) (h : Hold) : Dev := d.modCtx k fun c => { c with holds := c.holds ++ [h] }

/-- Count a hold of the Plait (R345). -/
def Dev.countPlaitHold (d : Dev) (k : Ctx) : Dev :=
  (d.inc64 (aCo k.region k.core + rCoPlHolds) 1).setBit (aCo k.region k.core + rCoPlSticky) 2

/-- Release the pinned rows of closures that have retired by issue cycle `i` (R73). -/
def Context.retire (c : Context) (i : Nat) : Context :=
  { c with closing := c.closing.filter fun g => g.replay || decide (i < g.release) }

/-- Release the rows that closures of a context have pinned until issue cycle `i`. -/
def Dev.retire (d : Dev) (k : Ctx) (i : Nat) : Dev := d.modCtx k fun c => c.retire i

/-- Whether an SST write of a context that is due by issue cycle `i` meets a pinned row (R73, R168). -/
def Dev.sstPinned (d : Dev) (k : Ctx) (i : Nat) : Bool :=
  (d.ctx k).ssts.any fun p => decide (p.due ≤ i) && ((d.retire k i).core k.region k.core).anyPinned (sstRows p.addr p.mask)

/-- Issue that passes beyond the last bundle of the code section stops, as at END (R99). -/
def Dev.passEnd (d : Dev) (k : Ctx) : Dev :=
  let c := d.ctx k
  if c.redirect.isNone && (match d.task? c.task with | some t => decide (t.bundles ≤ c.pc) | none => false) then d.endCtx k else d

/-- Issue the next bundle of a context (R95, R96): the SST writes and results that are due become visible, and the counter advances. -/
def Dev.issue (d : Dev) (k : Ctx) : Dev :=
  let i := (d.ctx k).cyc
  let d := (d.retire k i).flushSst k i
  let d := d.modCtx k fun c => ({ c.settle i with cyc := i + 1 }).advance
  (d.inc64 (aCo k.region k.core + rCoPfIssue) 1).passEnd k

/-- The hold of a bundle at which a result is due that has not arrived (R106). -/
def Dev.dueHold (d : Dev) (k : Ctx) (p : Pend) : Dev :=
  let d := if p.wait = 3 then d.countPlaitHold k else d
  d.addHold k { why := .result, kind := p.wait, slot := p.slot, before := true }

/-- The bundle in progress that an operation of slot `slot` belongs to, if any: the device before it, and the device that the operation acts on. -/
def State.joins (s : State) (slot : Nat) (k : Ctx) : Option (Dev × Dev) :=
  match s.base with
  | none => none
  | some b => if b.key = k && decide (b.last < slot) then some (b.dev, b.work) else none

/-- The position of the bundle that context `k` issues next, for the records of an abort. -/
def Dev.faultAt (d : Dev) (k : Ctx) : FaultAt := { ctx := k, rank := (d.ctx k).rank, bundle := (d.ctx k).pc }

/-- The SST writes of a context that are due by issue cycle `i` are performed; one into a row pinned since its issue aborts the task (R73). -/
def Dev.settleSst (d : Dev) (k : Ctx) (i : Nat) : Dev :=
  let e := (d.retire k i).flushSst k i
  if d.sstPinned k i then e.abortTask (d.ctx k).task 0x3004 (some (d.faultAt k)) else e

/-- Every SST write of a context is performed, with the check of R73. -/
def Dev.settleAllSst (d : Dev) (k : Ctx) : Dev :=
  let e := d.flushAllSst k
  if (d.ctx k).ssts.any fun p => (d.core k.region k.core).anyPinned (sstRows p.addr p.mask) then
    e.abortTask (d.ctx k).task 0x3004 (some (d.faultAt k))
  else e

/-- The device once the bundle of context `k` has executed: a context that has ended leaves its SST writes performed (R168) and its coils, windows
and channels released (R261, R265). -/
def Dev.bundleDone (d : Dev) (k : Ctx) : Dev := if (d.ctx k).ended then (d.settleAllSst k).releaseAll k else d


/-- End an operation: its effect, a hold before issue, or the abort of the task with the whole bundle taken back (R118). -/
def State.finish (s : State) (slot : Nat) (k : Ctx) (d0 : Dev) : OpRes → State
  | .ok d => { s with dev := d.bundleDone k, base := some ⟨k, slot, d0, d⟩ }
  | .hold h => { s with dev := (if h.why.plait h.kind then d0.countPlaitHold k else d0).addHold k { h with before := true }, base := none }
  | .fault st post => { s with dev := (post (d0.ctx k).task (d0.issue k)).abortTask (d0.ctx k).task st (some (d0.faultAt k)), base := none }

/-- Issue one operation of slot `slot` (0 C, 1 V, 2 T, 3 M) of context `k`: `op` takes the device before the bundle and the device so far.
An operation of a context that cannot issue changes nothing, and one whose context has a due SST write to a pinned row is aborted with its task. -/
def issueOp (slot : Nat) (k : Ctx) (op : Dev → Dev → OpRes) (s : State) : Out :=
  match s.joins slot k with
  | some (d0, d) => .next (s.finish slot k d0 (op d0 d))
  | none =>
    if s.dev.mayIssue k then
      match (s.dev.ctx k).unarrived (s.dev.ctx k).cyc with
      | p :: _ => .next { s with dev := s.dev.dueHold k p, base := none }
      | [] =>
        if s.dev.sstPinned k (s.dev.ctx k).cyc then .next { s with dev := s.dev.settleSst k (s.dev.ctx k).cyc, base := none }
        else .next (s.finish slot k s.dev (op s.dev (s.dev.issue k)))
    else .next { s with base := none }

/-- An operation that only changes its context. -/
def ctxOp (k : Ctx) (f : Context → Context) : Dev → Dev → OpRes := fun _ d => .ok (d.modCtx k f)

/-- An event that is no operation of a bundle: it changes the device, and the bundle in progress is complete. -/
def event (f : Dev → Dev) (s : State) : Out := .next { s with dev := f s.dev, base := none }

/-- An operation whose encoding R133 leaves undefined is refused. -/
def encoded (ok : Bool) (r : Out) : Out := if ok then r else .refused .undefinedEncoding

end Sys2Proof.Machine
end

