-- ==== Sys2Proof/Machine/LaneMath.lean ====
section
/-! DEFINITION. The arithmetic of one vector lane (R144, R145), MX quantisation (R146), the Flicker mixers (R360, R361, R365),
top-k ranking (R342, R343) and pruning (R161). -/

namespace Sys2Proof.Machine

/-! ### Exact operations on decoded numbers -/

/-- The exact signed integer of a finite number in units of 2^u, for u at most its exponent. -/
def finUnits (neg : Bool) (m : Nat) (q u : Int) : Int :=
  let v := m * 2 ^ (q - u).toNat
  if neg then -(v : Int) else v

/-- Exact sum (R144). A zero sum is +0 unless both operands are -0. -/
def numAdd : Num → Num → Num
  | .nan, _ => .nan
  | _, .nan => .nan
  | .inf a, .inf b => if a = b then .inf a else .nan
  | .inf a, .fin _ _ _ => .inf a
  | .fin _ _ _, .inf b => .inf b
  | .fin sa ma qa, .fin sb mb qb =>
    let u := min qa qb
    let v := finUnits sa ma qa u + finUnits sb mb qb u
    if v = 0 then .fin (sa && sb) 0 u else .fin (decide (v < 0)) v.natAbs u

/-- Exact product. -/
def numMul : Num → Num → Num
  | .nan, _ => .nan
  | _, .nan => .nan
  | .inf a, .inf b => .inf (a != b)
  | .inf a, .fin b m _ => if m = 0 then .nan else .inf (a != b)
  | .fin a m _, .inf b => if m = 0 then .nan else .inf (a != b)
  | .fin a ma qa, .fin b mb qb => .fin (a != b) (ma * mb) (qa + qb)

/-- The negation of a number. -/
def numNeg : Num → Num
  | .nan => .nan
  | .inf a => .inf (!a)
  | .fin a m q => .fin (!a) m q

/-- Quotient, exact up to a sticky bit far below every format's precision. -/
def numDiv : Num → Num → Num
  | .nan, _ => .nan
  | _, .nan => .nan
  | .inf _, .inf _ => .nan
  | .inf a, .fin b _ _ => .inf (a != b)
  | .fin a _ _, .inf b => .fin (a != b) 0 0
  | .fin a ma qa, .fin b mb qb =>
    if mb = 0 then (if ma = 0 then .nan else .inf (a != b))
    else
      let n := ma * 2 ^ 64
      .fin (a != b) (2 * (n / mb) + (if n % mb = 0 then 0 else 1)) (qa - qb - 65)

/-- Newton steps of the integer square root from an upper estimate. -/
def isqrtSteps (n : Nat) : Nat → Nat → Nat
  | 0, x => x
  | fuel + 1, x =>
    let y := (x + n / x) / 2
    if y < x then isqrtSteps n fuel y else x

/-- The integer square root. -/
def isqrt (n : Nat) : Nat := if n = 0 then 0 else isqrtSteps n 1024 (2 ^ ((bitLen n + 1) / 2))

/-- Square root, exact up to a sticky bit (R144). -/
def numSqrt : Num → Num
  | .nan => .nan
  | .inf a => if a then .nan else .inf false
  | .fin a m q =>
    if m = 0 then .fin a 0 q
    else if a then .nan
    else
      let odd := q % 2 ≠ 0
      let n := m * 2 ^ (if odd then 129 else 128)
      let h : Int := (q - (if odd then 1 else 0)) / 2
      let r := isqrt n
      .fin false (2 * r + (if r * r = n then 0 else 1)) (h - 65)

/-- The working precision of VEXP2 and VLOG2 in fraction bits. -/
def transBits : Nat := 320

/-- The product of 2^(2^-i) over the set bits of a fraction of `k` bits, most significant first, in fixed point; `c` holds 2^(2^-(i-1)). -/
def exp2Bits (f : Nat) : Nat → Nat → Nat → Nat
  | 0, _, acc => acc
  | k + 1, c, acc =>
    let c := isqrt (c * 2 ^ transBits)
    exp2Bits f k c (if bit f k then acc * c / 2 ^ transBits else acc)

/-- 2^x, rounded correctly by a later rounding: exact for integers, otherwise a value with a sticky bit (R144). -/
def numExp2 : Num → Num
  | .nan => .nan
  | .inf a => if a then .fin false 0 0 else .inf false
  | .fin a m q =>
    if m = 0 then .fin false 1 0
    else if numExp m q > 12 then .fin false 1 (if a then -4096 else 4096)
    else if numExp m q < -64 then .fin false (if a then 2 ^ 100 - 1 else 2 ^ 100 + 1) (-100)
    else if 0 ≤ q then .fin false 1 (if a then -(m * 2 ^ q.toNat : Int) else m * 2 ^ q.toNat)
    else
      let k := (-q).toNat
      let v : Int := if a then -(m : Int) else m
      let n := v / 2 ^ k
      let f := (v % 2 ^ k).toNat
      if f = 0 then .fin false 1 n
      else .fin false (2 * exp2Bits f k (2 * 2 ^ transBits) (2 ^ transBits) + 1) (n - transBits - 1)

/-- The binary digits of log2 of a fixed-point y in [1, 2), by repeated squaring. -/
def log2Bits : Nat → Nat → Nat → Nat
  | 0, _, acc => acc
  | k + 1, y, acc =>
    let y := y * y / 2 ^ transBits
    if y < 2 * 2 ^ transBits then log2Bits k y (2 * acc) else log2Bits k (y / 2) (2 * acc + 1)

/-- log2 x, rounded correctly by a later rounding: exact for powers of two, otherwise a value with a sticky bit (R144). -/
def numLog2 : Num → Num
  | .nan => .nan
  | .inf a => if a then .nan else .inf false
  | .fin a m q =>
    if m = 0 then .inf true
    else if a then .nan
    else
      let n := bitLen m - 1
      let e : Int := q + n
      if m = 2 ^ n then .fin (decide (e < 0)) e.natAbs 0
      else
        let f := log2Bits 150 (m * 2 ^ transBits / 2 ^ n) 0
        let v : Int := e * 2 ^ 151 + (2 * f + 1 : Nat)
        .fin (decide (v < 0)) v.natAbs (-151)

/-! ### Lane operations by element type (R142): 0 I32, 1 FP32, 2 BF16, 3 FP16 -/

/-- The floating shape of a type field; FP32 for a field that names none. -/
def tyShape (ty : Nat) : FpShape := match ty with | 2 => bf16 | 3 => fp16 | _ => fp32

/-- Decode a lane under a floating type: narrow types occupy bits [15:0]. -/
def laneNum (ty : Nat) (x : W32) : Num := fpDecode (tyShape ty) (x.toNat % 2 ^ (tyShape ty).width)

/-- Encode a number into a lane under a floating type, rounded to nearest with ties to even (R55, R144). -/
def laneOf (ty : Nat) (x : Num) : W32 := BitVec.ofNat 32 (numToFp (tyShape ty) .ne 0 x)

/-- VADD of one lane. -/
def laneAdd (ty : Nat) (a b : W32) : W32 :=
  if ty = 0 then a + b else laneOf ty (numAdd (laneNum ty a) (laneNum ty b))
/-- VSUB of one lane. -/
def laneSub (ty : Nat) (a b : W32) : W32 :=
  if ty = 0 then a - b else laneOf ty (numAdd (laneNum ty a) (numNeg (laneNum ty b)))
/-- VMUL of one lane. -/
def laneMul (ty : Nat) (a b : W32) : W32 :=
  if ty = 0 then a * b else laneOf ty (numMul (laneNum ty a) (laneNum ty b))
/-- VFMA of one lane: d + a * b, rounded once. -/
def laneFma (ty : Nat) (d a b : W32) : W32 :=
  laneOf ty (numAdd (laneNum ty d) (numMul (laneNum ty a) (laneNum ty b)))
/-- VDIV of one lane. -/
def laneDiv (ty : Nat) (a b : W32) : W32 := laneOf ty (numDiv (laneNum ty a) (laneNum ty b))
/-- VSQRT of one lane. -/
def laneSqrt (ty : Nat) (a : W32) : W32 := laneOf ty (numSqrt (laneNum ty a))
/-- VEXP2 of one lane. -/
def laneExp2 (ty : Nat) (a : W32) : W32 := laneOf ty (numExp2 (laneNum ty a))
/-- VLOG2 of one lane. -/
def laneLog2 (ty : Nat) (a : W32) : W32 := laneOf ty (numLog2 (laneNum ty a))

/-- Whether a lane holds NaN under a floating type. -/
def laneIsNan (ty : Nat) (a : W32) : Bool := laneNum ty a == .nan

/-- The rank of a non-NaN lane, -0 below +0 (R144); signed order for I32. -/
def laneKey (ty : Nat) (a : W32) : Int :=
  if ty = 0 then a.toInt
  else
    let f := tyShape ty
    let m := a.toNat % 2 ^ (f.width - 1)
    if bit a.toNat (f.width - 1) then -(m : Int) - 1 else m

/-- The canonical NaN of a type, in a lane (R144). -/
def laneNan (ty : Nat) : W32 := BitVec.ofNat 32 (tyShape ty).nanCode

/-- The low bits that a lane of a type holds. -/
def laneTrim (ty : Nat) (a : W32) : W32 :=
  if ty ≤ 1 then a else BitVec.ofNat 32 (a.toNat % 2 ^ 16)

/-- VMIN (`mx` false) and VMAX (`mx` true) of one lane (R144). -/
def laneMinMax (mx : Bool) (ty : Nat) (a b : W32) : W32 :=
  if ty ≠ 0 && laneIsNan ty a then (if laneIsNan ty b then laneNan ty else laneTrim ty b)
  else if ty ≠ 0 && laneIsNan ty b then laneTrim ty a
  else if decide (laneKey ty a ≤ laneKey ty b) = mx then laneTrim ty b else laneTrim ty a

/-- VABS of one lane (R144). -/
def laneAbs (ty : Nat) (a : W32) : W32 :=
  if ty = 0 then (if a.toInt < 0 then -a else a)
  else BitVec.ofNat 32 (a.toNat % 2 ^ ((tyShape ty).width - 1))
/-- VNEG of one lane (R144). -/
def laneNeg (ty : Nat) (a : W32) : W32 :=
  if ty = 0 then -a
  else laneTrim ty (a ^^^ BitVec.ofNat 32 (2 ^ ((tyShape ty).width - 1)))

/-- The comparisons of VCMP. -/
inductive VCmp where
  | eq | lt | le
  deriving DecidableEq, Repr

/-- VCMP of one lane (R144): false with a NaN operand, and -0 equals +0. -/
def laneCmp (c : VCmp) (ty : Nat) (a b : W32) : Bool :=
  let key (x : W32) : Int :=
    if ty = 0 then x.toInt
    else
      let k := laneKey ty x
      if k < 0 then k + 1 else k
  if ty ≠ 0 && (laneIsNan ty a || laneIsNan ty b) then false
  else match c with
    | .eq => decide (key a = key b)
    | .lt => decide (key a < key b)
    | .le => decide (key a ≤ key b)

/-- VCVT of one lane (R145): source and destination type codes, mode, Flicker word from vb. -/
def laneCvt (src dst : Nat) (mode : Rnd) (a r : W32) : W32 :=
  let x : Num := match src with
    | 0 => intDecode 32 0 a.toNat
    | 1 => fpDecode fp32 a.toNat
    | 2 => fpDecode bf16 (a.toNat % 2 ^ 16)
    | 3 => fpDecode fp16 (a.toNat % 2 ^ 16)
    | 4 => fpDecode e4m3 (a.toNat % 2 ^ 8)
    | 5 => fpDecode e5m2 (a.toNat % 2 ^ 8)
    | _ => intDecode 8 0 (a.toNat % 2 ^ 8)
  BitVec.ofNat 32 (match dst with
    | 0 => numToInt 32 mode r.toNat x
    | 1 => numToFp fp32 mode r.toNat x
    | 2 => numToFp bf16 mode r.toNat x
    | 3 => numToFp fp16 mode r.toNat x
    | 4 => numToFp e4m3 mode r.toNat x
    | 5 => numToFp e5m2 mode r.toNat x
    | _ => numToInt 8 mode r.toNat x)

/-! ### MX quantisation (R146) -/

/-- The value emax of a VMXQ format: 0 E4M3, 1 E5M2, 2 E3M2, 3 E2M3, 4 E2M1, 5 MXINT8. -/
def mxEmax (f : Nat) : Int := match f with | 0 => 8 | 1 => 15 | 2 => 4 | 3 => 2 | 4 => 2 | _ => 0

/-- The floating shape of a VMXQ format; none for MXINT8. -/
def mxShape (f : Nat) : Option FpShape :=
  match f with | 0 => some e4m3 | 1 => some e5m2 | 2 => some e3m2 | 3 => some e2m3 | 4 => some e2m1 | _ => none

/-- Round x / 2^X onto the element grid, saturating at the largest element magnitude (R146). -/
def mxCode (f : Nat) (mode : Rnd) (r : Nat) (X : Int) : Num → Nat
  | .fin s m q =>
    match mxShape f with
    | some sh => withSign sh s (min (fpRound sh mode r m (q - X)).code sh.maxCode)
    | none => (intRound 8 mode r s m (q - X + 6)).code
  | _ => 0

/-- VMXQ over 64 lanes (R146): the new value of each active lane. -/
def vmxq (f ty : Nat) (mode : Rnd) (mask : W64) (x r : List W32) : List W32 :=
  let num (l : Nat) : Num := laneNum ty (nth x l 0)
  let active (l : Nat) : Bool := mask.getLsbD l
  (upto 64).map fun l =>
    let lanes := (upto 32).map (fun i => i + 32 * (l / 32)) |>.filter active
    let special := lanes.any fun i => match num i with | .fin _ _ _ => false | _ => true
    if special then BitVec.ofNat 32 (0xFF * 2 ^ 8)
    else
      let e := lanes.foldl (fun (e : Option Int) i => match num i with
        | .fin _ m q => if m = 0 then e else some (match e with | none => numExp m q - 1 | some e => max e (numExp m q - 1))
        | _ => e) none
      let X : Int := match e with | none => -127 | some e => max (-127) (min 127 (e - mxEmax f))
      BitVec.ofNat 32 (mxCode f mode (nth r l 0).toNat X (num l) + (X + 127).toNat * 2 ^ 8)

/-! ### Packing (R144) -/

/-- VPACK.w: the bit string of 64 elements of `w` bits, in lanes of 32 bits. -/
def vpack (w : Nat) (a : List W32) : List W32 :=
  let s := (upto 64).foldl (fun n l => n + (nth a l 0).toNat % 2 ^ w * 2 ^ (w * l)) 0
  (upto 64).map fun i => BitVec.ofNat 32 (s / 2 ^ (32 * i))

/-- VUNPK.w: the inverse, zero-extended. -/
def vunpack (w : Nat) (a : List W32) : List W32 :=
  let s := (upto 16).foldl (fun n i => n + (nth a i 0).toNat * 2 ^ (32 * i)) 0
  (upto 64).map fun l => BitVec.ofNat 32 (s / 2 ^ (w * l) % 2 ^ w)

/-! ### Flicker (R360, R361, R365) -/

/-- Rotation counts of R361. -/
def rotA : List Nat := [16, 12, 8, 7, 13, 21]
/-- Rotation counts of R361. -/
def rotB : List Nat := [11, 19, 5, 24, 17, 9]

/-- One round of the mixer. -/
def flickerRound (k : Nat → W32) (x : W32 × W32 × W32 × W32) (r : Nat) : W32 × W32 × W32 × W32 :=
  let (x0, x1, x2, x3) := x
  let x0 := x0 + x1
  let x3 := (x3 ^^^ x0).rotateLeft (nth rotA r 0)
  let x2 := x2 + x3
  let x1 := (x1 ^^^ x2).rotateLeft (nth rotB r 0)
  (x0 + k ((r + 1) % 4), x1 + k ((r + 2) % 4), x2 + k ((r + 3) % 4),
   x3 + k (r % 4) + BitVec.ofNat 32 ((r + 1) * 0x9E3779B9))

/-- The native Flicker word (R360). -/
def flicker (seed : W128) (stream : W32) (index : W64) (draw : W32) : W32 :=
  let k (i : Nat) : W32 := BitVec.ofNat 32 (seed.toNat / 2 ^ (32 * i))
  let (x0, _, x2, _) := (upto 6).foldl (flickerRound k)
    (BitVec.ofNat 32 index.toNat + k 0, BitVec.ofNat 32 (index.toNat / 2 ^ 32) + k 1, stream + k 2, draw + k 3)
  x0 + x2

/-- The default table of R366. -/
def flickerDefault (j : Nat) : W32 := flicker 0 0xFFFFFFFF (BitVec.ofNat 64 j) 0

/-- The table-mode word (R365) over a table of 1,024 words. -/
def flickerTable (tab : Nat → W32) (seed : W128) (stream : W32) (index : W64) (draw : W32) : W32 :=
  let w (v : Nat) (i : Nat) : W32 := BitVec.ofNat 32 (v / 2 ^ (32 * i))
  let h := w index.toNat 0 ^^^ (w index.toNat 1).rotateLeft 16 ^^^ stream ^^^
    w seed.toNat 0 ^^^ w seed.toNat 1 ^^^ w seed.toNat 2 ^^^ w seed.toNat 3
  let i1 := (h + draw).toNat % 1024
  let i2 := (BitVec.ofNat 32 (h.toNat / 1024) ^^^ draw).toNat % 1024
  (tab i1).rotateLeft (h.toNat / 2 ^ 20 % 32) ^^^ tab i2

/-! ### Top-k (R342, R343) -/

/-- An entry of a top-k list: value bits and position. -/
abbrev TopEntry := W32 × W32

/-- Whether entry `a` ranks strictly ahead of `b` (R342); neither is empty. -/
def topAhead (fp small : Bool) (a b : TopEntry) : Bool :=
  let ty := if fp then 1 else 0
  let na := fp && laneIsNan 1 a.1
  let nb := fp && laneIsNan 1 b.1
  let ka := laneKey ty a.1
  let kb := laneKey ty b.1
  if na != nb then na
  else if na || ka == kb then decide (a.2.toNat < b.2.toNat)
  else if small then decide (ka < kb) else decide (ka > kb)

/-- Insert an entry behind every entry that does not rank behind it. -/
def topInsert (fp small : Bool) (e : TopEntry) : List TopEntry → List TopEntry
  | [] => [e]
  | x :: l => if topAhead fp small e x then e :: x :: l else x :: topInsert fp small e l

/-- TOPK (R161, R342, R343): the new value of vd. -/
def topk (fp small : Bool) (k : Nat) (base : W32) (mask : W64) (vd va : List W32) : List W32 :=
  let old := (upto k).map fun i => (nth vd i 0, nth vd (32 + i) 0)
  let cand := (upto 64).filter (fun l => mask.getLsbD l) |>.map fun l => (nth va l 0, base + BitVec.ofNat 32 l)
  let all := (old ++ cand).filter fun e => e.2 != 0xFFFFFFFF
  let best := (all.foldl (fun l e => topInsert fp small e l) []).take k
  (upto 64).map fun l =>
    if l < k then (nth best l (0, 0xFFFFFFFF)).1
    else if 32 ≤ l && l < 32 + k then (nth best (l - 32) (0, 0xFFFFFFFF)).2
    else nth vd l 0

/-! ### Pruning (R161) -/

/-- The magnitude key of a lane for TPRUNE: NaN above every number. -/
def pruneKey (ty : Nat) (a : W32) : Nat :=
  if ty = 0 then a.toInt.natAbs
  else if laneIsNan ty a then 2 ^ 32
  else a.toNat % 2 ^ ((tyShape ty).width - 1)

/-- TPRUNE over 64 lanes: the mask bits of the candidates that are kept. -/
def tprune (ty m k : Nat) (mask : W64) (va : List W32) : W64 :=
  (upto 64).foldl (fun (acc : W64) l =>
    if !mask.getLsbD l then acc
    else
      let ahead := (upto m).filter fun i =>
        let j := l / m * m + i
        mask.getLsbD j &&
          (decide (pruneKey ty (nth va j 0) > pruneKey ty (nth va l 0)) ||
           (decide (pruneKey ty (nth va j 0) = pruneKey ty (nth va l 0)) && decide (j < l)))
      if ahead.length < k then acc ||| (1 <<< l) else acc) 0

/-- The row segment of TCOW (R161, R177): bitmap, packed values of width `w`, zero bits up to a multiple of 64. -/
def cowSegment (w : Nat) (mask : W64) (va : List W32) : List Byte :=
  let val (l : Nat) : Nat := (nth va l 0).toNat % 2 ^ w
  let kept := (upto 64).filter fun l => mask.getLsbD l && val l != 0
  let bm := kept.foldl (fun n l => n + 2 ^ l) 0
  let s := (kept.foldl (fun (p : Nat × Nat) l => (p.1 + val l * 2 ^ (w * p.2), p.2 + 1)) (0, 0)).1
  leBytes bm 8 ++ leBytes s (8 * ceilDiv (kept.length * w) 64)

end Sys2Proof.Machine
end

