-- ==== Sys2Proof/Machine/SlotV.lean ====
section
/-! DEFINITION. Slot V: vector, conversion and Flicker operations (R142 to R148, R360 to R366). -/

namespace Sys2Proof.Machine

/-- A lane-wise vector operation: the active lanes of vd take `f` of the context and the lane (R102). -/
def vecOp (k : Ctx) (vd : Fin 64) (mk : Fin 16) (lat : Nat) (f : Context → Nat → W32) (s : State) : Out :=
  issueOp 1 k (ctxOp k fun c => c.later 1 lat (.v vd (c.getM mk) ((upto 64).map (f c)))) s

/-- A lane-wise operation on two vector registers. -/
def vecRR (k : Ctx) (vd va vb : Fin 64) (mk : Fin 16) (lat : Nat) (f : W32 → W32 → W32) (s : State) : Out :=
  vecOp k vd mk lat (fun c l => f (c.lane va l) (c.lane vb l)) s

/-- A lane-wise operation on one vector register. -/
def vecR (k : Ctx) (vd va : Fin 64) (mk : Fin 16) (lat : Nat) (f : W32 → W32) (s : State) : Out :=
  vecOp k vd mk lat (fun c l => f (c.lane va l)) s

/-- A lane-wise operation into a mask register: bit `l` of md where bit `l` of mk is 1. -/
def maskOp (k : Ctx) (md mk : Fin 16) (lat : Nat) (f : Context → Nat → Bool) (s : State) : Out :=
  issueOp 1 k (ctxOp k fun c => c.later 1 lat (.m md (c.getM mk)
    ((upto 64).foldl (fun (x : W64) l => if f c l then x ||| (1 <<< l) else x) 0))) s

/-- A mask-register operation under a mask (VK): latency 1. -/
def maskRR (k : Ctx) (md ma mb mk : Fin 16) (f : W64 → W64 → W64) (s : State) : Out :=
  issueOp 1 k (ctxOp k fun c => c.later 1 1 (.m md (c.getM mk) (f (c.getM ma) (c.getM mb)))) s

/-- A slot V operation into a scalar register. -/
def vecToScalar (k : Ctx) (sd : Fin 64) (lat : Nat) (f : Context → W64) (s : State) : Out :=
  issueOp 1 k (ctxOp k fun c => c.later 1 lat (.s sd (f c))) s

/-- The types that floating-only operations allow (R143). -/
def tyFloat (ty : Fin 4) : Bool := ty != 0
/-- Latency by type: I32 or other. -/
def latTy (ty : Fin 4) (i f : Nat) : Nat := if ty = 0 then i else f

/-- VNOP (R143). -/
def execVnop (k : Ctx) (s : State) : Out :=
  issueOp 1 k (ctxOp k id) s

/-- VADD (R143, R144). -/
def execVadd (k : Ctx) (vd va vb : Fin 64) (mk : Fin 16) (ty : Fin 4) (s : State) : Out :=
  vecRR k vd va vb mk (latTy ty 2 4) (laneAdd ty) s

/-- VSUB (R143, R144). -/
def execVsub (k : Ctx) (vd va vb : Fin 64) (mk : Fin 16) (ty : Fin 4) (s : State) : Out :=
  vecRR k vd va vb mk (latTy ty 2 4) (laneSub ty) s

/-- VMUL (R143, R144). -/
def execVmul (k : Ctx) (vd va vb : Fin 64) (mk : Fin 16) (ty : Fin 4) (s : State) : Out :=
  vecRR k vd va vb mk 4 (laneMul ty) s

/-- VFMA (R143, R144): vd + va * vb rounded once. -/
def execVfma (k : Ctx) (vd va vb : Fin 64) (mk : Fin 16) (ty : Fin 4) (s : State) : Out :=
  encoded (tyFloat ty) (vecOp k vd mk 6 (fun c l => laneFma ty (c.lane vd l) (c.lane va l) (c.lane vb l)) s)

/-- VMIN (R143, R144). -/
def execVmin (k : Ctx) (vd va vb : Fin 64) (mk : Fin 16) (ty : Fin 4) (s : State) : Out :=
  vecRR k vd va vb mk (latTy ty 2 4) (laneMinMax false ty) s

/-- VMAX (R143, R144). -/
def execVmax (k : Ctx) (vd va vb : Fin 64) (mk : Fin 16) (ty : Fin 4) (s : State) : Out :=
  vecRR k vd va vb mk (latTy ty 2 4) (laneMinMax true ty) s

/-- VABS (R143, R144). -/
def execVabs (k : Ctx) (vd va : Fin 64) (mk : Fin 16) (ty : Fin 4) (s : State) : Out :=
  vecR k vd va mk 2 (laneAbs ty) s

/-- VNEG (R143, R144). -/
def execVneg (k : Ctx) (vd va : Fin 64) (mk : Fin 16) (ty : Fin 4) (s : State) : Out :=
  vecR k vd va mk 2 (laneNeg ty) s

/-- VAND (R143, R144). -/
def execVand (k : Ctx) (vd va vb : Fin 64) (mk : Fin 16) (s : State) : Out :=
  vecRR k vd va vb mk 2 (fun a b => a &&& b) s

/-- VOR (R143, R144). -/
def execVor (k : Ctx) (vd va vb : Fin 64) (mk : Fin 16) (s : State) : Out :=
  vecRR k vd va vb mk 2 (fun a b => a ||| b) s

/-- VXOR (R143, R144). -/
def execVxor (k : Ctx) (vd va vb : Fin 64) (mk : Fin 16) (s : State) : Out :=
  vecRR k vd va vb mk 2 (fun a b => a ^^^ b) s

/-- VSHL (R143, R144). -/
def execVshl (k : Ctx) (vd va vb : Fin 64) (mk : Fin 16) (s : State) : Out :=
  vecRR k vd va vb mk 2 (fun a b => a <<< (b.toNat % 32)) s

/-- VSHR (R143, R144). -/
def execVshr (k : Ctx) (vd va vb : Fin 64) (mk : Fin 16) (s : State) : Out :=
  vecRR k vd va vb mk 2 (fun a b => a >>> (b.toNat % 32)) s

/-- VSRA (R143, R144). -/
def execVsra (k : Ctx) (vd va vb : Fin 64) (mk : Fin 16) (s : State) : Out :=
  vecRR k vd va vb mk 2 (fun a b => a.sshiftRight (b.toNat % 32)) s

/-- VDIV (R143, R144). -/
def execVdiv (k : Ctx) (vd va vb : Fin 64) (mk : Fin 16) (ty : Fin 4) (s : State) : Out :=
  encoded (tyFloat ty) (vecRR k vd va vb mk 16 (laneDiv ty) s)

/-- VSQRT (R143, R144). -/
def execVsqrt (k : Ctx) (vd va : Fin 64) (mk : Fin 16) (ty : Fin 4) (s : State) : Out :=
  encoded (tyFloat ty) (vecR k vd va mk 16 (laneSqrt ty) s)

/-- VEXP2 (R143, R144). -/
def execVexp2 (k : Ctx) (vd va : Fin 64) (mk : Fin 16) (ty : Fin 4) (s : State) : Out :=
  encoded (tyFloat ty) (vecR k vd va mk 12 (laneExp2 ty) s)

/-- VLOG2 (R143, R144). -/
def execVlog2 (k : Ctx) (vd va : Fin 64) (mk : Fin 16) (ty : Fin 4) (s : State) : Out :=
  encoded (tyFloat ty) (vecR k vd va mk 12 (laneLog2 ty) s)

/-- VMOV (R143). -/
def execVmov (k : Ctx) (vd va : Fin 64) (mk : Fin 16) (s : State) : Out :=
  vecR k vd va mk 2 id s

/-- VPERM (R144): every source is read at issue. -/
def execVperm (k : Ctx) (vd va vb : Fin 64) (mk : Fin 16) (s : State) : Out :=
  vecOp k vd mk 4 (fun c l => c.lane va ((c.lane vb l).toNat % 64)) s

/-- VIDX (R144): the logical index of the lane. -/
def execVidx (k : Ctx) (vd : Fin 64) (mk : Fin 16) (s : State) : Out :=
  vecOp k vd mk 2 (fun c l => BitVec.ofNat 32 (c.rank * 64 + l)) s

/-- VCMP.EQ (R144). -/
def execVcmpEq (k : Ctx) (md : Fin 16) (va vb : Fin 64) (mk : Fin 16) (ty : Fin 4) (s : State) : Out :=
  maskOp k md mk 2 (fun c l => laneCmp .eq ty (c.lane va l) (c.lane vb l)) s

/-- VCMP.LT (R144). -/
def execVcmpLt (k : Ctx) (md : Fin 16) (va vb : Fin 64) (mk : Fin 16) (ty : Fin 4) (s : State) : Out :=
  maskOp k md mk 2 (fun c l => laneCmp .lt ty (c.lane va l) (c.lane vb l)) s

/-- VCMP.LE (R144). -/
def execVcmpLe (k : Ctx) (md : Fin 16) (va vb : Fin 64) (mk : Fin 16) (ty : Fin 4) (s : State) : Out :=
  maskOp k md mk 2 (fun c l => laneCmp .le ty (c.lane va l) (c.lane vb l)) s

/-- VBCAST (R144). -/
def execVbcast (k : Ctx) (vd sb : Fin 64) (mk : Fin 16) (s : State) : Out :=
  vecOp k vd mk 2 (fun c _ => (c.getS sb).setWidth 32) s

/-- VEXT (R144). -/
def execVext (k : Ctx) (sd va sb : Fin 64) (s : State) : Out :=
  vecToScalar k sd 4 (fun c => (c.lane va ((c.getS sb).toNat % 64)).setWidth 64) s

/-- The active lanes of a vector register, in lane order. -/
def Context.activeLanes (c : Context) (va : Fin 64) (mk : Fin 16) : List W32 :=
  (upto 64).filterMap fun l => if (c.getM mk).getLsbD l then some (c.lane va l) else none

/-- The wrapped sum of lanes, sign-extended (VRSUM, R144). -/
def rsum (xs : List W32) : W64 := (xs.foldl (· + ·) 0).signExtend 64

/-- The largest of lanes (VRMAX, R144): I32 for type 0, FP32 for type 1. -/
def rmax (ty : Nat) (xs : List W32) : W64 :=
  let best (x : W32) (l : List W32) : W32 := l.foldl (fun m a => if laneKey ty m < laneKey ty a then a else m) x
  if ty = 0 then (best 0x80000000 xs).signExtend 64
  else if xs.any (laneIsNan 1) then 0x7FC00000
  else match xs with
    | [] => 0xFF800000
    | x :: l => (best x l).setWidth 64

/-- VRSUM (R143, R144). -/
def execVrsum (k : Ctx) (sd va : Fin 64) (mk : Fin 16) (s : State) : Out :=
  vecToScalar k sd 6 (fun c => rsum (c.activeLanes va mk)) s

/-- VRMAX (R143, R144). -/
def execVrmax (k : Ctx) (sd va : Fin 64) (mk : Fin 16) (ty : Fin 4) (s : State) : Out :=
  encoded (decide (ty.val ≤ 1)) (vecToScalar k sd 6 (fun c => rmax ty (c.activeLanes va mk)) s)

/-- MAND (R143, R144). -/
def execMand (k : Ctx) (md ma mb mk : Fin 16) (s : State) : Out :=
  maskRR k md ma mb mk (fun a b => a &&& b) s

/-- MOR (R143, R144). -/
def execMor (k : Ctx) (md ma mb mk : Fin 16) (s : State) : Out :=
  maskRR k md ma mb mk (fun a b => a ||| b) s

/-- MXOR (R143, R144). -/
def execMxor (k : Ctx) (md ma mb mk : Fin 16) (s : State) : Out :=
  maskRR k md ma mb mk (fun a b => a ^^^ b) s

/-- MANDN (R143, R144). -/
def execMandn (k : Ctx) (md ma mb mk : Fin 16) (s : State) : Out :=
  maskRR k md ma mb mk (fun a b => a &&& ~~~ b) s

/-- MSET (R144). -/
def execMset (k : Ctx) (md : Fin 16) (sb : Fin 64) (s : State) : Out :=
  issueOp 1 k (ctxOp k fun c => c.later 1 2 (.m md 0xFFFFFFFFFFFFFFFF (c.getS sb))) s

/-- MGET (R144). -/
def execMget (k : Ctx) (sd : Fin 64) (ma : Fin 16) (s : State) : Out :=
  vecToScalar k sd 2 (fun c => c.getM ma) s

/-- MPOP (R144). -/
def execMpop (k : Ctx) (sd : Fin 64) (ma : Fin 16) (s : State) : Out :=
  vecToScalar k sd 2 (fun c => BitVec.ofNat 64 (popcount 64 (c.getM ma).toNat)) s

/-- The conversions that VCVT encodes (R143, R145): source and destination differ, neither is 7, and mode 3 is not allowed. -/
def cvtOk (src dst : Fin 8) (mode : Fin 4) : Bool := src != dst && src != 7 && dst != 7 && mode != 3

/-- VCVT (R145): mode SR takes r from vb. -/
def execVcvt (k : Ctx) (src dst : Fin 8) (vd va vb : Fin 64) (mk : Fin 16) (mode : Fin 4) (s : State) : Out :=
  encoded (cvtOk src dst mode) (vecRR k vd va vb mk 4 (laneCvt src dst (rndOf mode)) s)

/-- VMXQ (R146). -/
def execVmxq (k : Ctx) (fmt : Fin 6) (fromBf16 : Bool) (vd va vb : Fin 64) (mk : Fin 16) (mode : Fin 4) (s : State) : Out :=
  encoded (mode != 3) (issueOp 1 k (ctxOp k fun c => c.later 1 8 (.v vd (c.getM mk)
    (vmxq fmt (if fromBf16 then 2 else 1) (rndOf mode) (c.getM mk) (c.getV va) (c.getV vb)))) s)

/-- VPACK.4 (R144). -/
def execVpack4 (k : Ctx) (vd va : Fin 64) (s : State) : Out :=
  issueOp 1 k (ctxOp k fun c => c.later 1 4 (.v vd 0xFFFFFFFFFFFFFFFF (vpack 4 (c.getV va)))) s

/-- VPACK.6 (R144). -/
def execVpack6 (k : Ctx) (vd va : Fin 64) (s : State) : Out :=
  issueOp 1 k (ctxOp k fun c => c.later 1 4 (.v vd 0xFFFFFFFFFFFFFFFF (vpack 6 (c.getV va)))) s

/-- VPACK.8 (R144). -/
def execVpack8 (k : Ctx) (vd va : Fin 64) (s : State) : Out :=
  issueOp 1 k (ctxOp k fun c => c.later 1 4 (.v vd 0xFFFFFFFFFFFFFFFF (vpack 8 (c.getV va)))) s

/-- VUNPK.4 (R144). -/
def execVunpk4 (k : Ctx) (vd va : Fin 64) (s : State) : Out :=
  issueOp 1 k (ctxOp k fun c => c.later 1 4 (.v vd 0xFFFFFFFFFFFFFFFF (vunpack 4 (c.getV va)))) s

/-- VUNPK.6 (R144). -/
def execVunpk6 (k : Ctx) (vd va : Fin 64) (s : State) : Out :=
  issueOp 1 k (ctxOp k fun c => c.later 1 4 (.v vd 0xFFFFFFFFFFFFFFFF (vunpack 6 (c.getV va)))) s

/-- VUNPK.8 (R144). -/
def execVunpk8 (k : Ctx) (vd va : Fin 64) (s : State) : Out :=
  issueOp 1 k (ctxOp k fun c => c.later 1 4 (.v vd 0xFFFFFFFFFFFFFFFF (vunpack 8 (c.getV va)))) s

/-- The logical index of a Flicker draw of lane `l` (R147): va + 1 holds its high word. -/
def Context.drawIndex (c : Context) (va : Fin 64) (l : Nat) : W64 :=
  (c.lane va l).setWidth 64 ||| ((c.lane (va + 1) l).setWidth 64 <<< 32)

/-- The native Flicker word of lane `l` of a context (R147, R360). -/
def Dev.flickerWord (d : Dev) (k : Ctx) (index : W64) (draw : W32) : W32 :=
  match d.task? (d.ctx k).task with
  | none => flicker 0 0 index draw
  | some t => flicker t.seed t.stream index draw

/-- The table-mode word (R365), from the active table of the context's region. -/
def Dev.flickerTableWord (d : Dev) (k : Ctx) (index : W64) (draw : W32) : W32 :=
  let t := (d.task? (d.ctx k).task).getD { id := 0 }
  flickerTable (sget flickerDefault (d.region k.region).flk) t.seed t.stream index draw

/-- A Flicker draw into a vector register (R147). -/
def flkRawOp (word : Dev → Ctx → W64 → W32 → W32) (k : Ctx) (vd va sb : Fin 64) (mk : Fin 16) (s : State) : Out :=
  encoded (va.val % 2 == 0) (issueOp 1 k (fun _ d => .ok (d.modCtx k fun c => c.later 1 6 (.v vd (c.getM mk)
    ((upto 64).map fun l => if (c.getM mk).getLsbD l then word d k (c.drawIndex va l) ((c.getS sb).setWidth 32) else 0)))) s)

/-- A Flicker draw into a mask register: probability p * 2^-16, with p at most 65,536 (R147). -/
def flkMaskOp (word : Dev → Ctx → W64 → W32 → W32) (k : Ctx) (md : Fin 16) (va sb : Fin 64) (mk : Fin 16) (s : State) : Out :=
  encoded (va.val % 2 == 0) (issueOp 1 k (fun _ d => .ok (d.modCtx k fun c =>
    let p := min (field (c.getS sb).toNat 48 32) 65536
    c.later 1 6 (.m md (c.getM mk) ((upto 64).foldl (fun (x : W64) l =>
      if (c.getM mk).getLsbD l && decide ((word d k (c.drawIndex va l) ((c.getS sb).setWidth 32)).toNat / 2 ^ 16 < p) then x ||| (1 <<< l) else x) 0)))) s)

/-- FLK.RAW (R147). -/
def execFlkRaw (k : Ctx) (vd va sb : Fin 64) (mk : Fin 16) (s : State) : Out :=
  flkRawOp Dev.flickerWord k vd va sb mk s

/-- FLK.TRAW (R147). -/
def execFlkTraw (k : Ctx) (vd va sb : Fin 64) (mk : Fin 16) (s : State) : Out :=
  flkRawOp Dev.flickerTableWord k vd va sb mk s

/-- FLK.MASK (R147). -/
def execFlkMask (k : Ctx) (md : Fin 16) (va sb : Fin 64) (mk : Fin 16) (s : State) : Out :=
  flkMaskOp Dev.flickerWord k md va sb mk s

/-- FLK.TMASK (R147). -/
def execFlkTmask (k : Ctx) (md : Fin 16) (va sb : Fin 64) (mk : Fin 16) (s : State) : Out :=
  flkMaskOp Dev.flickerTableWord k md va sb mk s

end Sys2Proof.Machine
end

