-- ==== Sys2Proof/Machine/Access.lean ====
section
/-! DEFINITION. Accesses to the region stores and piles: the checks of a read or a write (R165, R241 to R251, R258, R313, R425), what
they count, and the store queues of the cores (R98, R166, R238). -/

namespace Sys2Proof.Machine

/-! ### Places in a pile (R305) -/

/-- Where a pile byte lies. -/
structure PilePlace where
  channel : Nat
  layer : Nat
  bank : Nat
  row : Nat
  cu : Nat
  deriving DecidableEq, Repr

/-- The place of the byte at pile offset `o`: pile_locate of R305. -/
def pileLocate (o : Nat) : PilePlace :=
  let unit := o / 512
  let u := unit / 16
  let w := u / 4
  let x := w / 16
  { channel := unit % 16, layer := x % 12, bank := w % 16, row := x / 12, cu := u % 4 }

/-- The number of a bank of a pile. -/
def PilePlace.bankKey (p : PilePlace) : Nat := (p.channel * 12 + p.layer) * 16 + p.bank
/-- The number of a row of a pile. -/
def PilePlace.rowKey (p : PilePlace) : Nat := p.bankKey * 8192 + p.row

/-- The layout of PL_LAST_ERR (R324) for an error of `kind` at pile offset `o`. -/
def pileErrWord (o kind : Nat) (scrub : Bool) : Nat :=
  let p := pileLocate o
  o % 512 / 8 + p.cu * 2 ^ 6 + p.channel * 2 ^ 8 + p.bank * 2 ^ 12 + p.layer * 2 ^ 16 + p.row * 2 ^ 20 + kind * 2 ^ 33 + scrub.toNat * 2 ^ 35

/-- The pile offset of a pile address. -/
def pileOffset (a : Nat) : Nat := (a - pilesBase) % pileSize

/-- Mark a row for repair (R314). -/
def Dev.markRow (d : Dev) (n key : Nat) : Dev :=
  (d.modPile n fun p => if p.marked.contains key then p else { p with marked := key :: p.marked }).setBit (aPl n + rPlSticky) 5

/-- Record an error of a pile (R313, R314): kind 1 corrected, 2 uncorrectable, 3 interface retry failure; `task` is the task whose access met it,
or 0 (R459). -/
def Dev.notePile (d : Dev) (a kind : Nat) (scrub : Bool) (task : W32) : Dev :=
  let n := regionOf a
  let o := pileOffset a
  let key := (pileLocate o).rowKey
  let w := pileErrWord o kind scrub
  let d := (d.wr64 (aPl n + rPlLastErr) w).wr64 (aPl n + rPlLastErrAt) d.dt.toNat
  if kind = 1 then
    let d := ((d.inc64 (aPl n + rPlCorrected) 1).setBit (aPl n + rPlSticky) 0).enterError (aErPl n) 128 0x800A 0x30 (pileLocate o).channel w task.toNat 0
    let c := sget (fun _ => 0) (d.pile n).rowErrs key + 1
    let d := d.modPile n fun p => { p with rowErrs := sset (fun _ => 0) p.rowErrs key c }
    if c = 8 then d.markRow n key else d
  else
    (((d.inc64 (aPl n + rPlUncorrectable) 1).setBit (aPl n + rPlSticky) 1).enterError (aErPl n) 128 0x8004
      (if kind = 2 then 0x31 else 0x32) (pileLocate o).channel w task.toNat 0).markRow n key

/-- The address of the first word with mark `m` among those that hold `n` bytes from `a`. -/
def Dev.firstMark (d : Dev) (a n m : Nat) : Nat :=
  ((d.marks.find? fun p => decide (a / 4 ≤ p.1) && decide (p.1 ≤ (a + n - 1) / 4) && p.2 == m).map fun p => 4 * p.1).getD a

/-! ### The checks of an access -/

/-- Words that a read meets: an uncorrectable word first, then a poisoned one (R247, R313, R425). -/
def Dev.markRefusal (d : Dev) (a n : Nat) : Refuse :=
  if d.markIn a n = 2 then
    let w := d.firstMark a n 2
    if inPile a then some (0x8004, fun t d => d.notePile w 2 false t) else some (0x8003, fun t d => d.noteStore w t)
  else refuseIf (d.markIn a n == 1) 0x6001

/-- A read of `n` bytes at `a` in one store: a powered-down or busy group, a narrow access to a fenced slice, then bad words. -/
def Dev.storeRead (d : Dev) (a n : Nat) (narrow : Bool) : Refuse :=
  firstRefusal [refuseIf (d.anyOff a n) 0x5003, refuseIf (narrow && d.anyFenced a n) 0x5004, d.markRefusal a n]

/-- The refusal of a write of a run of bytes that replaces an uncorrectable word of a store in part (R247). -/
def Dev.runRefusal (d : Dev) (a n : Nat) : Refuse :=
  match (d.marks.filter fun p => p.2 == 2 && decide (a / 4 ≤ p.1) && decide (4 * p.1 < a + n) &&
    (decide (4 * p.1 < a) || decide (a + n < 4 * p.1 + 4))) with
  | [] => none
  | p :: _ => some (0x8003, fun t d => d.noteStore (4 * p.1) t)

/-- A write of `n` bytes at `a` in one store by a core or a channel: groups, slices, the hitch windows (R258), and words replaced in part. -/
def Dev.storeWrite (d : Dev) (w : Writer) (a n : Nat) (narrow : Bool) : Refuse :=
  firstRefusal [refuseIf (d.anyOff a n) 0x5003, refuseIf (narrow && d.anyFenced a n) 0x5004,
    if (d.hitchCheck w a n).1 then none else some (0x500A, fun _ d => d.countDenied a n), d.runRefusal a n]

/-- The address checks of a core's access (R165, R241): alignment, then the region store, or the own region for a fixed-pipeline port. -/
def Dev.coreAddr (d : Dev) (k : Ctx) (a n al : Nat) : Refuse :=
  let pipe := (d.core k.region k.core).fixedPipe
  firstRefusal [refuseIf (a % al != 0) 0x5001,
    refuseIf (!inStore a || !inOneStore a n || (pipe && regionOf a != k.region.val)) 0x5002]

/-- Turn a refusal into a fault. -/
def guardOp (r : Refuse) (f : OpRes) : OpRes :=
  match r with
  | some (st, post) => .fault st post
  | none => f

/-- Perform a checked write and count it in its window. -/
def Dev.windowWrite (d : Dev) (w : Writer) (a : Nat) (bs : List Byte) : Dev :=
  let win := (d.hitchCheck w a bs.length).2
  (d.writeBytes a bs).countWindow (regionOf a) win bs.length

/-! ### Distances -/

/-- The distance code of an address from a region (R33). -/
def distOf (r a : Nat) : Nat := if regionOf a = r then 0 else if regionOf a / 4 = r / 4 then 1 else 2
/-- The contract latency of a word-port load (R33). -/
def loadLat (r a : Nat) : Nat := match distOf r a with | 0 => 10 | 1 => 26 | _ => 52

/-! ### Store queues (R98, R166, R238) -/

/-- Whether a core's store queue is full. -/
def Core.queueFull (c : Core) : Bool := decide (16 ≤ c.storeQ.length)

/-- The byte that a load of a context reads: its own stores of earlier bundles prevail over memory (R98). -/
def Dev.loadByte (d : Dev) (k : Ctx) (a : Nat) : Byte :=
  let i := (d.ctx k).cyc - 1
  let q := (d.core k.region k.core).storeQ.filter fun e => e.slot == k.slot.val && decide (e.iat < i)
  match (q.flatMap fun e => e.cells).reverse.find? fun p => p.1 == a with
  | some p => p.2
  | none => d.byte a

/-- Queue a store of a context at its core (R166). -/
def Dev.queueStore (d : Dev) (k : Ctx) (cells : List (Nat × Byte)) : Dev :=
  let c := d.ctx k
  d.modCore k.region k.core fun co =>
    { co with storeQ := co.storeQ ++ [{ slot := k.slot, task := c.task, iat := c.cyc - 1, cells := cells }] }

/-- A store operation of slot `slot`: its address checks, room in the queue, and its cells. -/
def storeOp (slot : Nat) (k : Ctx) (bad : Refuse) (d : Dev) (cells : List (Nat × Byte)) : OpRes :=
  if (d.core k.region k.core).queueFull then .hold { why := .storeQueue, kind := 2, slot := slot }
  else guardOp bad (.ok (d.queueStore k cells))

/-- The writer that a context is (R258). -/
def Dev.asWriter (d : Dev) (k : Ctx) : Writer := .core k (d.ctx k).task

/-- The position that a store of a context still in the store queue faults at: its rank, and the bundle to issue next. -/
def Dev.lateFaultAt (d : Dev) (k : Ctx) : FaultAt := d.faultAt k

/-- Abort the task of an access that failed after issue. -/
def Dev.abortLate (d : Dev) (k : Ctx) (id : W32) (st : Status) : Dev :=
  d.abortTask id st (if (d.ctx? k).any fun c => c.task == id then some (d.lateFaultAt k) else none)

end Sys2Proof.Machine
end

