-- ==== Sys2Proof/Machine/Tensor.lean ====
section
/-! DEFINITION. The tensor array: chunks, tensor dots, preloads, closures and replays (R58 to R78, R152 to R158, R188). -/

namespace Sys2Proof.Machine

/-! ### Operands -/

/-- The low 18 bits of a staging address field. -/
def stAddr (v lo : Nat) : Nat := field v (lo + 17) lo
/-- A staging address that must be a multiple of 64: the low 6 bits are ignored (R135). -/
def stAddr64 (v lo : Nat) : Nat := stAddr v lo / 64 * 64

/-- The staging rows of a span: a first row and a count, wrapping at 512 (R149). -/
def spanRows (first n : Nat) : List Nat := (upto n).map fun i => (first + i) % 512

/-- The bytes that `n` elements of `w` bits take. -/
def elemBytes (w n : Nat) : Nat := ceilDiv (n * w) 8

/-- The chunk open on a window set. -/
def Context.chunk? (c : Context) (w : Fin 8) : Option Chunk := c.chunks.find? fun h => h.w == w.val
/-- The windows of a set. -/
def Context.getW (c : Context) (w : Nat) : List Window := nth c.w w []
/-- Set the windows of a set. -/
def Context.setW (c : Context) (w : Nat) (ws : List Window) : Context := { c with w := put c.w w ws }
/-- The windows of a set as the context shows them to CSAVE (R154): those of before the oldest tensor operation whose results are not visible yet. -/
def Context.shownW (c : Context) (w : Nat) : List Window :=
  match c.wpast.find? fun p => p.w == w && decide (c.cyc - 1 < p.due) with
  | none => c.getW w
  | some p => ((p.ws.zip (c.getW w))).map fun x => { x.1 with isOpen := x.2.isOpen, target := x.2.target }
/-- Keep showing the windows of a set until issue cycle i + `lat`, i being the one of the bundle that has issued (R154). -/
def Context.hideWindows (c : Context) (w lat : Nat) : Context :=
  { c with wpast := (c.wpast.filter fun p => decide (c.cyc - 1 < p.due)) ++ [{ due := c.cyc - 1 + lat, w := w, ws := c.getW w }] }
/-- Replace the chunk open on its window set. -/
def Context.putChunk (c : Context) (h : Chunk) : Context := { c with chunks := h :: c.chunks.filter fun g => g.w != h.w }

/-- The staging rows that ROW.LD transfers of a context have still to write (R169). -/
def Context.rowsAwaited (c : Context) : List Nat := (c.xfers.filter fun x => x.kind == 0).flatMap fun x => spanRows x.row x.n

/-- Hold before issue a bundle that reads a staging row which a ROW.LD of the context has still to write (R106, R169). -/
def stageHold (slot : Nat) (c : Context) (rows : List Nat) (r : OpRes) : OpRes :=
  let due := c.rowsAwaited
  if rows.any fun x => due.contains x then .hold { why := .stageRow rows, kind := 2, slot := slot } else r

/-- Hold before issue a tensor dot or TPRE while a replay occupies the tensor array (R155). -/
def arrayHold (d : Dev) (k : Ctx) (r : OpRes) : OpRes :=
  if (d.core k.region k.core).replaying.isSome then .hold { why := .arrayBusy, kind := 5, slot := 2 } else r

/-! ### Terms of a logged operation -/

/-- The product of position `e` of operand a and `f` of operand b (R59, R61, R158). -/
def elemProduct (rd : Nat → Byte) (h : Chunk) (op : LogOp) (e f : Nat) : Term :=
  let a := elemDecode h.fa (packedBits rd op.elemA (elemBits h.fa) e)
  let b := elemDecode h.fb (packedBits rd op.elemB (elemBits h.fb) f)
  if isMx h.fa && isMx h.fb then
    match scaleExp (rd (op.scaleA + e / 32)), scaleExp (rd (op.scaleB + f / 32)) with
    | some s, some t => product a b (s + t)
    | _, _ => .nan
  else product a b 0

/-- Elements that an operation reduces: N of a tensor dot, c of a sparse one, 64 preload elements. -/
def LogOp.total (op : LogOp) : Nat := match op.kind with | 0 => 512 * op.n | 1 => op.pos.length | _ => 64
/-- Terms of lane `l`: the element numbers, in order, that go to it. -/
def LogOp.perLane (op : LogOp) (l : Nat) : Nat := (op.total + 63 - l) / 64
/-- Term `i` of lane `l`. -/
def LogOp.term (op : LogOp) (rd : Nat → Byte) (h : Chunk) (l i : Nat) : Term :=
  let j := 64 * i + l
  match op.kind with
  | 0 => elemProduct rd h op j j
  | 1 => elemProduct rd h op j (nth op.pos j 0)
  | _ =>
    let f := h.pre.getD 0
    elemDecode f (packedBits rd op.elemA (elemBits f) j)
/-- The group size of an operation (R65); preload terms count singly (R69). -/
def LogOp.group (op : LogOp) (h : Chunk) : Nat := if op.kind = 2 then 1 else pairGroup h.fa h.fb
/-- Groups of an operation: of the lane with the most terms. -/
def LogOp.groups (op : LogOp) (h : Chunk) : Nat := ceilDiv (op.perLane 0) (op.group h)
/-- Terms of lane `l` before group `g`. -/
def LogOp.before (op : LogOp) (h : Chunk) (l g : Nat) : Nat := min (g * op.group h) (op.perLane l)

/-- Run groups `first` to `last - 1` of an operation into the window of lane `l` (R63, R64). -/
def LogOp.runLane (op : LogOp) (rd : Nat → Byte) (h : Chunk) (l : Nat) (w : Window) : Window :=
  if op.mask.getLsbD l then
    let a := op.before h l op.first
    (upto (op.before h l op.last - a)).foldl (fun w i => w.addTerm (op.term rd h l (a + i))) w
  else w

/-- Run an operation's groups into every lane of a window set. -/
def LogOp.run (op : LogOp) (rd : Nat → Byte) (h : Chunk) (ws : List Window) : List Window :=
  (upto 64).map fun l => op.runLane rd h l (nth ws l Window.zero)

/-- Products that an operation forms (R492): none for a preload. -/
def LogOp.products (op : LogOp) (h : Chunk) : Nat :=
  if op.kind = 2 then 0
  else (upto 64).foldl (fun n l => if op.mask.getLsbD l then n + (op.before h l op.last - op.before h l op.first) else n) 0

/-- The staging rows that an operation reads (R73). -/
def LogOp.rows (op : LogOp) (h : Chunk) (list : Option (Nat × Nat)) : List Nat :=
  let mx := isMx h.fa && isMx h.fb
  let wa := if op.kind = 2 then elemBits (h.pre.getD 0) else elemBits h.fa
  let a := stageRows op.elemA (elemBytes wa op.total)
  if op.kind = 2 then a
  else
    let sa := if mx then stageRows op.scaleA (ceilDiv op.total 32) else []
    let wb := elemBits h.fb
    let b := if op.kind = 0 then stageRows op.elemB (elemBytes wb op.total)
      else op.pos.flatMap fun p => stageRows (op.elemB + wb * p / 8) (ceilDiv (wb * p % 8 + wb) 8)
    let sb := if !mx then [] else if op.kind = 0 then stageRows op.scaleB (ceilDiv op.total 32)
      else op.pos.flatMap fun p => stageRows (op.scaleB + p / 32) 1
    let li := match list with | none => [] | some (x, n) => stageRows x n
    (li ++ a ++ b ++ sa ++ sb).eraseDups

/-- Whether some block pair that an operation multiplies has s_a + s_b above 224 (R60). -/
def LogOp.scaleOver (op : LogOp) (rd : Nat → Byte) (h : Chunk) : Bool :=
  isMx h.fa && isMx h.fb && (upto op.total).any fun j =>
    op.mask.getLsbD (j % 64) &&
    (match scaleExp (rd (op.scaleA + j / 32)), scaleExp (rd (op.scaleB + (if op.kind = 1 then nth op.pos j 0 else j) / 32)) with
     | some s, some t => decide (s + t > 224)
     | _, _ => false)

/-! ### Opening (R68, R70, R71) -/

/-- Whether a span row's tag does not suit the code that its span requires (R70). -/
def Core.tagBad (co : Core) (code : Nat) (r : Nat) : Bool :=
  co.tag r == 0x7FFF || co.tagFmt r == 15 || co.tagFmt r != code
/-- The largest tag over a span; none when the span is empty (R71). -/
def Core.spanMax (co : Core) (rows : List Nat) : Option Int :=
  rows.foldl (fun m r =>
    if co.tag r = 0x8000 then m
    else
      let e := signed 16 (co.tag r)
      some (match m with | none => e | some x => max x e)) none
/-- The code that an operand's span requires: 0xD for the scales of an MX operand. -/
def spanCode (f : Nat) : Nat := if isMx f then 13 else f

/-- The anchor of R71. -/
def anchorOf (co : Core) (fa fb : Nat) (ra rb : List Nat) (rp : List Nat) : Int :=
  let b (f : Nat) : Int := if isMx f then elemBound f else 0
  let p := co.spanMax rp
  match co.spanMax ra, co.spanMax rb with
  | some x, some y =>
    let s := x + b fa + y + b fb
    match p with | none => s | some e => max s e
  | _, _ => p.getD 0

/-- TOPEN (R68, R70, R71, R152). -/
def Dev.topen (d : Dev) (k : Ctx) (fa fb : Nat) (w : Fin 8) (t : Fin 32) (x : Nat) : OpRes :=
  let c := d.ctx k
  let co := d.core k.region k.core
  let ra := spanRows (field x 8 0) (field x 17 9 + 1)
  let rb := spanRows (field x 26 18) (field x 35 27 + 1)
  let pre := bit x 54
  let rp := if pre then spanRows (field x 44 36) (field x 53 45 + 1) else []
  let pf := field x 57 55
  stageHold 2 c (ra ++ rb ++ rp)
    (if (c.chunk? w).isSome then .faulty 0x3005
     else if (pre && pf == 7) || ra.any (co.tagBad (spanCode fa)) || rb.any (co.tagBad (spanCode fb)) || rp.any (co.tagBad pf) then .faulty 0x3003
     else
       let a := anchorOf co fa fb ra rb rp
       .ok (d.modCtx k fun c =>
         (c.setW w (List.replicate 64 (Window.zero.opened t a))).putChunk
           { w := w, fa := fa, fb := fb, pre := if pre then some pf else none, target := t, anchor := a }))

/-! ### Closing (R69, R74 to R78, R156) -/

/-- The windows of a chunk run again from its log: `due` are the lanes that replay, with the anchor that each takes. -/
def replayWindows (rd : Nat → Byte) (h : Chunk) (ws : List Window) (again : Nat → Option (Int × Bool)) : List Window :=
  (upto 64).map fun l =>
    let w := nth ws l Window.zero
    match again l with
    | none => w
    | some (a, anchor) => h.log.reverse.foldl (fun w op => op.runLane rd h l w) (w.forReplay a anchor)

/-- Tensor-array cycles of a chunk's logged operations: d_chunk (R76). -/
def Chunk.cycles (h : Chunk) : Nat := h.log.foldl (fun n op => n + op.d) 0
/-- Products of a chunk's logged operations in one lane. -/
def Chunk.laneProducts (h : Chunk) (l : Nat) : Nat :=
  h.log.foldl (fun n op => if op.kind ≠ 2 && op.mask.getLsbD l then n + (op.before h l op.last - op.before h l op.first) else n) 0

/-- Count the closure of a chunk (R91, R492): what stands after the replay. -/
def Dev.countClosure (d : Dev) (k : Ctx) (h : Chunk) (ws : List Window) (replayed : List Nat) : Dev :=
  let a := aCo k.region k.core
  let drops := ws.foldl (fun n w => n + w.drops) 0
  let dropping := (ws.filter fun w => w.drops != 0).length
  let d := ((d.inc64 (a + rCoChunksClosed) 1).inc64 (a + rCoDropEvents) drops).inc64 (a + rCoChunksDropping) dropping
  let d := if drops = 0 then d else d.setBit (a + rCoArithSticky) 3
  if replayed.isEmpty then d
  else
    (((d.inc64 (a + rCoReplaysAnchor) replayed.length).setBit (a + rCoArithSticky) 4).inc64 (a + rCoPfTarray) h.cycles).inc64
      (a + rCoPfProducts) (replayed.foldl (fun n l => n + h.laneProducts l) 0)

/-- Close the chunk of a window set: replay the lanes that are due, count, and promote the windows at issue cycle i + 12 (R69, R74, R78,
R156). Answers the device and whether a lane replays. -/
def Dev.closeChunk (d : Dev) (k : Ctx) (h : Chunk) : Dev × Bool :=
  let c := d.ctx k
  let co := d.core k.region k.core
  let ws := c.getW h.w
  let due := (upto 64).filter fun l => (nth ws l Window.zero).mustReplay h.anchor
  let ws := if due.isEmpty then ws
    else replayWindows co.stageByte h ws fun l => if due.contains l then some ((nth ws l Window.zero).replayAnchor h.anchor, true) else none
  let replay := !due.isEmpty
  let d := d.countClosure k h ws due
  let d := d.modCtx k fun c =>
    let c := c.later 2 12 (.promote h.target ws) (if replay then 5 else 0) h.w
    { (c.setW h.w (ws.map fun w => { w with isOpen := false })) with
      chunks := c.chunks.filter fun g => g.w != h.w
      closing := { rows := h.pinned, release := c.cyc - 1 + 12, w := h.w, replay := replay } :: c.closing }
  let d := if h.errReplayed = 0 then d else d.settleLanes k.region k.core h.errReplayed
  (if replay then d.modCore k.region k.core fun co => { co with replaying := some k.slot } else d, replay)

/-- TCLOSE (R69, R156). -/
def Dev.tclose (d : Dev) (k : Ctx) (w : Fin 8) : OpRes :=
  match (d.ctx k).chunk? w with
  | none => .faulty 0x3005
  | some h => .ok (d.closeChunk k h).1

/-! ### Running an operation, with the closure at 2^24 terms (R69) -/

/-- The term limit of a chunk. -/
def termLimit : Nat := 2 ^ 24

/-- Whether groups `a` to `b - 1` of an operation fit in every lane. -/
def LogOp.fits (op : LogOp) (h : Chunk) (ws : List Window) (a b : Nat) : Bool :=
  (upto 64).all fun l => !op.mask.getLsbD l ||
    decide ((nth ws l Window.zero).terms + (op.before h l b - op.before h l a) ≤ termLimit)

/-- Run the groups of an operation from `op.first` on, closing the chunk where the limit falls; the groups are fuel. -/
def Dev.runLogged (k : Ctx) (w : Fin 8) (rows : List Nat) : Nat → LogOp → Dev → Dev
  | 0, _, d => d
  | fuel + 1, op, d =>
    match (d.ctx k).chunk? w with
    | none => d
    | some h =>
      let c := d.ctx k
      let rd := (d.core k.region k.core).stageByte
      let ws := c.getW w
      let n := op.groups h
      let b := ((upto (n + 1 - op.first)).filter fun i => op.fits h ws op.first (op.first + i)).foldl (fun m i => max m (op.first + i)) op.first
      let part := { op with last := b }
      let ws := part.run rd h ws
      let h := if op.first < b || n = 0 then { h with log := part :: h.log, pinned := (rows ++ h.pinned).eraseDups } else h
      let d := (d.modCtx k fun c => (c.setW w ws).putChunk h).inc64 (aCo k.region k.core + rCoPfProducts) (part.products h)
      if b < n || ws.any fun w => decide (w.terms = termLimit) then
        let (d, replay) := (d.inc64 (aCo k.region k.core + rCoAutoCloses) 1).closeChunk k h
        let d := if replay then d.addHold k { why := .replay w, kind := 5, slot := 2 } else d
        let d := d.modCtx k fun c =>
          (c.setW w (List.replicate 64 (Window.zero.opened h.target h.anchor))).putChunk
            { h with log := [], pinned := [], errReplayed := 0 }
        if b < n then d.runLogged k w rows fuel { op with first := b } else d
      else d

/-- Issue a tensor dot or preload into the open chunk of a window set: holds before issue, then the faults of R92, then the terms. -/
def Dev.tensorOp (d : Dev) (k : Ctx) (w : Fin 8) (op : Chunk → LogOp) (list : Option (Nat × Nat)) : OpRes :=
  match (d.ctx k).chunk? w with
  | none => .faulty 0x3005
  | some h =>
    let rd := (d.core k.region k.core).stageByte
    let op := op h
    let rows := op.rows h list
    arrayHold d k (stageHold 2 (d.ctx k) rows
      (if op.kind = 2 && h.pre.isNone then .faulty 0x3005
       else if op.kind ≠ 2 && !pairAllowed h.fa h.fb then .faulty 0x3001
       else if op.kind ≠ 2 && op.scaleOver rd h then .faulty 0x3002
       else if 4096 ≤ h.log.length then .faulty 0x3006
       else
        let d := if op.kind = 1 then d else d.modCtx k fun c => c.hideWindows w (if op.kind = 2 then 4 else op.d + 6)
        .ok ((d.inc64 (aCo k.region k.core + rCoPfTarray) op.d).runLogged k w rows (op.groups h + 1) op)))

/-- TDOT (R153, R154). -/
def Dev.tdot (d : Dev) (k : Ctx) (w : Fin 8) (x y : Nat) (mask : W64) (n : Nat) : OpRes :=
  d.tensorOp k w (fun h =>
    { kind := 0, elemA := stAddr64 x 0, scaleA := stAddr x 18, elemB := stAddr64 y 0, scaleB := stAddr y 18, mask := mask, n := n,
      d := dotCycles h.fa h.fb n }) none

/-- The position list of TDOT.SP at a staging address (R158, R188). -/
def Core.positions (co : Core) (a : Nat) : List Nat :=
  (upto (min (leNat co.stageByte a 4) 65536)).map fun i => leNat co.stageByte (a + 4 + 2 * i) 2

/-- The span of a position list: 1 plus its largest position (R188). -/
def listSpan (ps : List Nat) : Nat := ps.foldl (fun m p => max m (p + 1)) 0

/-- TDOT.SP (R158, R188): metered, so the context holds after it. -/
def Dev.tdotSp (d : Dev) (k : Ctx) (w : Fin 8) (x y : Nat) (mask : W64) : OpRes :=
  let li := stAddr64 x 36
  let ps := (d.core k.region k.core).positions li
  (d.tensorOp k w (fun h =>
    let p := pairRate h.fa h.fb
    { kind := 1, elemA := stAddr64 x 0, scaleA := stAddr x 18, elemB := stAddr64 y 0, scaleB := stAddr y 18, pos := ps, mask := mask,
      d := max (ceilDiv ps.length (64 * p)) (ceilDiv (listSpan ps) (512 * p)) }) (some (li, 4 + 2 * ps.length))).bind
    fun d => .ok (d.addHold k { why := .metered, kind := 1, slot := 2 })

/-- TPRE (R157): d = 1. -/
def Dev.tpre (d : Dev) (k : Ctx) (w : Fin 8) (x : Nat) (mask : W64) : OpRes :=
  d.tensorOp k w (fun _ => { kind := 2, elemA := stAddr x 0, mask := mask }) none

/-! ### The end of a replay (R76, R156) -/

/-- Whether a replay of a window set of the context is in progress. -/
def Context.replays (c : Context) (w : Nat) : Bool := c.pend.any fun p => p.wait == 5 && p.tag == w

/-- A replay and its promotion complete: the promotion may become visible, its rows are released, and the tensor array is free. -/
def Dev.replayEnds (d : Dev) (k : Ctx) (w : Nat) : Dev :=
  let d := d.modCtx k fun c =>
    { c with pend := c.pend.map fun p => if p.wait = 5 && p.tag = w then { p with wait := 0 } else p
             closing := c.closing.map fun g => if g.w = w then { g with replay := false } else g }
  if (d.ctx k).pend.any fun p => p.wait == 5 then d
  else d.modCore k.region k.core fun co => { co with replaying := if co.replaying = some k.slot.val then none else co.replaying }

end Sys2Proof.Machine
end

