-- ==== Sys2Proof/Machine/SlotT.lean ====
section
/-! DEFINITION. Slot T: tensor, rounding, Plait, output-stage and sparse operations (R150 to R162, R187 to R195, R328 to R345). -/

namespace Sys2Proof.Machine

/-- A slot T operation on the device. -/
def tensorSlot (k : Ctx) (f : Dev → OpRes) (s : State) : Out := issueOp 2 k (fun _ d => f d) s

/-- TNOP. -/
def execTnop (k : Ctx) (s : State) : Out := issueOp 2 k (ctxOp k id) s

/-- TOPEN (R152): fa and fb are 0x0 to 0xC. -/
def execTopen (k : Ctx) (fa fb : Fin 16) (w : Fin 8) (t : Fin 32) (r : Fin 64) (s : State) : Out :=
  encoded (decide (fa.val ≤ 12) && decide (fb.val ≤ 12))
    (tensorSlot k (fun d => d.topen k fa fb w t ((d.ctx k).getS r).toNat) s)

/-- TDOT (R153, R154). -/
def execTdot (k : Ctx) (w : Fin 8) (sa sb : Fin 64) (mk n1 : Fin 16) (s : State) : Out :=
  tensorSlot k (fun d => d.tdot k w ((d.ctx k).getS sa).toNat ((d.ctx k).getS sb).toNat ((d.ctx k).getM mk) (n1 + 1)) s

/-- TDOT.SP (R158, R188). -/
def execTdotSp (k : Ctx) (w : Fin 8) (sa sb : Fin 64) (mk : Fin 16) (s : State) : Out :=
  tensorSlot k (fun d => d.tdotSp k w ((d.ctx k).getS sa).toNat ((d.ctx k).getS sb).toNat ((d.ctx k).getM mk)) s

/-- TPRE (R157). -/
def execTpre (k : Ctx) (w : Fin 8) (sa : Fin 64) (mk : Fin 16) (s : State) : Out :=
  tensorSlot k (fun d => d.tpre k w ((d.ctx k).getS sa).toNat ((d.ctx k).getM mk)) s

/-- TCLOSE (R156). -/
def execTclose (k : Ctx) (w : Fin 8) (s : State) : Out := tensorSlot k (fun d => d.tclose k w) s

/-- Whether a hold ends with the replay of a window set of its context (R156). -/
def Context.replayHold (c : Context) (w : Nat) (h : Hold) : Bool :=
  h.why == .replay w || (h.why == .result && h.kind == 5 && !c.pend.any fun p => p.wait == 5 && decide (p.due ≤ c.cyc))

/-- The end of a replay (R76, R156): the promotion and the holds that waited for it end; `n` cyc of hold are counted (R492). -/
def Dev.replayDone (d : Dev) (k : Ctx) (w n : Nat) : Dev :=
  if (d.ctx k).replays w then
    let d := d.replayEnds k w
    let hs := (d.ctx k).holds.filter ((d.ctx k).replayHold w)
    if hs.isEmpty then d
    else (d.modCtx k fun c => { c with holds := c.holds.filter fun h => !c.replayHold w h }).countHold k n
  else d

/-- REPLAY_DONE (R156): nothing happens where no replay of the window set is in progress. -/
def execReplayDone (k : Ctx) (w : Fin 8) (n : Nat) (s : State) : Out := event (fun d => d.replayDone k w n) s

/-! ### Rounding (R159) -/

/-- Count what a TROUND did (R84, R91). -/
def Dev.countRound (d : Dev) (k : Ctx) (t : LongTotal) (r : RoundResult) : Dev :=
  let a := aCo k.region k.core
  let d := if r.saturated then (d.inc64 (a + rCoSaturations) 1).setBit (a + rCoArithSticky) 0 else d
  let d := if r.invalid then (d.inc64 (a + rCoInvalids) 1).setBit (a + rCoArithSticky) 1 else d
  if t.special then d.setBit (a + rCoArithSticky) 2 else d

/-- TROUND under a mode (R159): lane sk.lane of vd takes the result; the Flicker word is drawn for SR only. -/
def Dev.tround (d : Dev) (k : Ctx) (mode : Rnd) (vd : Fin 64) (t : Fin 32) (fo : Nat) (sk : Nat) (draw : Nat) : OpRes :=
  let x := (d.ctx k).getT t
  let word := if mode = .sr then (d.flickerWord k (BitVec.ofNat 64 (field sk 63 16)) (BitVec.ofNat 32 draw)).toNat else 0
  let r := x.round mode fo (signed 10 sk) word
  .ok ((d.modCtx k fun c => c.later 2 8 (.v vd (1 <<< field sk 15 10) (List.replicate 64 r.bits))).countRound k x r)

/-- TROUND.NE: the draw field must be 0 and the output code below 7. -/
def execTroundNe (k : Ctx) (vd : Fin 64) (t : Fin 32) (fo : Fin 8) (sk : Fin 64) (draw : Fin 16) (s : State) : Out :=
  encoded (decide (fo.val ≤ 6) && draw == 0) (tensorSlot k (fun d => d.tround k .ne vd t fo ((d.ctx k).getS sk).toNat 0) s)

/-- TROUND.RZ: the draw field must be 0 and the output code below 7. -/
def execTroundRz (k : Ctx) (vd : Fin 64) (t : Fin 32) (fo : Fin 8) (sk : Fin 64) (draw : Fin 16) (s : State) : Out :=
  encoded (decide (fo.val ≤ 6) && draw == 0) (tensorSlot k (fun d => d.tround k .rz vd t fo ((d.ctx k).getS sk).toNat 0) s)

/-- TROUND.SR. -/
def execTroundSr (k : Ctx) (vd : Fin 64) (t : Fin 32) (fo : Fin 8) (sk : Fin 64) (draw : Fin 16) (s : State) : Out :=
  encoded (decide (fo.val ≤ 6)) (tensorSlot k (fun d => d.tround k .sr vd t fo ((d.ctx k).getS sk).toNat draw) s)

/-- TADD (R160). -/
def execTadd (k : Ctx) (td ta : Fin 32) (s : State) : Out :=
  issueOp 2 k (ctxOp k fun c => c.later 2 4 (.t td ((c.getT td).combine (c.getT ta)))) s

/-- TCLR (R160). -/
def execTclr (k : Ctx) (td : Fin 32) (s : State) : Out :=
  issueOp 2 k (ctxOp k fun c => c.later 2 2 (.t td LongTotal.zero)) s

/-! ### The Plait tree (R327 to R338) -/

/-- The lowest set bit of a rank above 0: the rank sends its partial to `r - lowBit r`. -/
def lowBit (r : Nat) : Nat := 2 ^ ((upto 9).find? fun j => bit r j).getD 9

/-- Records that rank `r` of `n` combines in the reduction rounds (R328). -/
def plaitReceipts (n r : Nat) : Nat :=
  ((upto (plaitRounds n)).filter fun j => (r == 0 || decide (2 ^ j < lowBit r)) && decide (r + 2 ^ j < n)).length

/-- The rank whose record an operation at rank `r` of `n` expects next, and the kind it expects; none when no record is still to come. -/
def PlaitOp.expects (o : PlaitOp) (n r : Nat) : Option (Nat × Nat) :=
  if o.round < plaitReceipts n r then some (r + 2 ^ o.round, if o.all then 1 else 0)
  else if o.all && r != 0 then some (r - lowBit r, 2)
  else none

/-- The kind that an operation at rank `r` of `n` expects of a record from a sender, while one is still to come from it (R328, R336). -/
def PlaitOp.kindFrom (o : PlaitOp) (n r sender : Nat) : Option Nat :=
  if (upto (plaitReceipts n r)).any fun j => decide (o.round ≤ j) && r + 2 ^ j == sender then some (if o.all then 1 else 0)
  else if o.all && r != 0 && r - lowBit r == sender then some 2
  else none

/-- The header of a Plait record (R335). -/
def PlaitRec.header (x : PlaitRec) : List Byte :=
  leBytes x.step.toNat 8 ++ leBytes x.seq 4 ++ leBytes x.kind 1 ++ leBytes 0 1 ++ leBytes x.sender 2
/-- A Plait record (R335): its header and the record of its Long Total. -/
def PlaitRec.bytes (x : PlaitRec) : List Byte := x.header ++ x.total.record

/-- Put a Plait record of a task on the Plait path. -/
def Dev.sendPlait (d : Dev) (id : W32) (x : PlaitRec) : Dev := d.modTask id fun t => { t with plaits := t.plaits ++ [x] }

/-- Replace an operation of a context by its seq. -/
def Context.putPlait (c : Context) (o : PlaitOp) : Context :=
  { c with plaits := c.plaits.map fun p => if p.seq = o.seq then o else p }
/-- End an operation of a context. -/
def Context.endPlait (c : Context) (seq : Nat) : Context := { c with plaits := c.plaits.filter fun p => p.seq != seq }
/-- Deliver the total of an operation to its result. -/
def Context.deliver (c : Context) (o : PlaitOp) (x : LongTotal) : Context :=
  { c with pend := c.pend.map fun p => if p.wait = 3 && p.tag = o.seq then { p with wait := 0, dest := .t o.td x } else p }

/-- Send the broadcast records of an operation from rank `r` (R328). -/
def Dev.plaitBroadcast (d : Dev) (k : Ctx) (n r : Nat) (o : PlaitOp) (x : LongTotal) : Dev :=
  ((upto (plaitRounds n)).reverse.filter fun j => (r == 0 || decide (2 ^ j < lowBit r)) && decide (r + 2 ^ j < n)).foldl
    (fun d j => d.sendPlait (d.ctx k).task
      { sender := r, dest := r + 2 ^ j, kind := 2, round := j, seq := o.seq, step := o.step, total := x }) d

/-- Go on with an operation whose reduction records have all been combined: rank 0 delivers the total, and another rank sends its partial. -/
def Dev.plaitReduced (d : Dev) (k : Ctx) (n r : Nat) (o : PlaitOp) : Dev :=
  if r = 0 then
    let d := d.modCtx k fun c => (c.deliver o o.acc).endPlait o.seq
    if o.all then d.plaitBroadcast k n 0 o o.acc else d
  else
    let d := d.modCtx k fun c => c.putPlait { o with sent := true }
    d.sendPlait (d.ctx k).task
      { sender := r, dest := r - lowBit r, kind := if o.all then 1 else 0, round := (lowBit r).log2, seq := o.seq, step := o.step, total := o.acc }

/-- Issue of PLAIT and PLAIT.ALL (R328 to R335): the step is the counter before the bundle (R173, R335). -/
def Dev.plait (d0 d : Dev) (k : Ctx) (all : Bool) (td : Fin 32) : OpRes :=
  let c := d.ctx k
  let cores := ((d.task? c.task).getD { id := 0 }).cores
  let n := cores.length
  if 8 ≤ c.plaits.length then .hold { why := .plaitRoom ((c.plaits.head?.map fun o => o.seq).getD 0), kind := 3, slot := 2 }
  else
    let o : PlaitOp := { seq := (c.plaitSeq + 1) % 2 ^ 32, all := all, step := (d0.ctx k).step, td := td, acc := c.getT td }
    let lat := if all then plaitTA cores else plaitT cores
    let d := (d.inc64 (aCo k.region k.core + rCoPlOps) 1).modCtx k fun c =>
      let c := { c with plaitSeq := o.seq, plaits := c.plaits ++ [o] }
      if all || c.rank = 0 then c.later 2 lat (.t td o.acc) 3 o.seq else c
    .ok (if plaitReceipts n c.rank = 0 then d.plaitReduced k n c.rank o else d)

/-- PLAIT (R328). -/
def execPlait (k : Ctx) (td : Fin 32) (s : State) : Out := issueOp 2 k (fun d0 d => Dev.plait d0 d k false td) s

/-- PLAIT.ALL (R328). -/
def execPlaitAll (k : Ctx) (td : Fin 32) (s : State) : Out := issueOp 2 k (fun d0 d => Dev.plait d0 d k true td) s

/-- The first operation of a context that still expects a record: the steps of a context go in issue order (R334). -/
def Context.plaitHead (c : Context) (n : Nat) : Option (PlaitOp × Nat × Nat) :=
  c.plaits.findSome? fun o => (o.expects n c.rank).map fun e => (o, e.1, e.2)

/-- The sender's operation ends once its record of a PLAIT has been consumed (R333). -/
def Dev.plaitConsumed (d : Dev) (t : Task) (x : PlaitRec) : Dev :=
  if x.kind = 0 then
    match t.places[x.sender]? with
    | some k => d.modCtx k fun c => c.endPlait x.seq
    | none => d
  else d

/-- Combine, forward or deliver a record that has passed its checks (R328, R329). -/
def Dev.plaitAccept (d : Dev) (k : Ctx) (n : Nat) (o : PlaitOp) (x : PlaitRec) : Dev :=
  let r := (d.ctx k).rank
  if x.kind = 2 then
    (d.modCtx k fun c => (c.deliver o x.total).endPlait o.seq).plaitBroadcast k n r o x.total
  else
    let o := { o with acc := o.acc.combine x.total, round := o.round + 1 }
    let d := d.modCtx k fun c => c.putPlait o
    if o.round = plaitReceipts n r then d.plaitReduced k n r o else d

/-- Process the checked records of a context's receive buffer whose turn it is (R334): those of its first operation that expects one. -/
def Dev.plaitSteps (k : Ctx) : Nat → Dev → Dev
  | 0, d => d
  | fuel + 1, d =>
    let c := d.ctx k
    match d.task? c.task with
    | none => d
    | some t =>
      match c.plaitHead t.cores.length with
      | none => d
      | some (o, sender, _) =>
        match t.plaits.find? fun x => x.received && x.sender == sender && x.dest == c.rank && x.seq == o.seq with
        | none => d
        | some x =>
          plaitSteps k fuel (((d.modTask t.id fun t => { t with plaits := t.plaits.erase x }).plaitConsumed t x).plaitAccept k t.cores.length o x)

/-- The operation of a context that a record from `sender` meets: the first that still awaits one from it. -/
def Context.plaitMeets (c : Context) (t : Task) (sender : Nat) : Option (PlaitOp × Nat) :=
  (c.plaits.filter fun o => !(t.plaits.any fun x => x.received && x.sender == sender && x.dest == c.rank && x.seq == o.seq)).findSome? fun o =>
    (o.kindFrom t.cores.length c.rank sender).map fun kind => (o, kind)

/-- A record from `sender` reaches the receive buffer of a context and is checked against the operation it meets (R334 to R337); one that passes
waits there for its turn. A record whose operation has not issued is no event yet: it is received once the operation has (log 71). -/
def Dev.plaitReceive (d : Dev) (k : Ctx) (sender seq : Nat) : Dev :=
  let c := d.ctx k
  match d.task? c.task with
  | none => d
  | some t =>
    match c.plaitMeets t sender, t.plaits.find? fun x => !x.received && x.sender == sender && x.dest == c.rank with
    | some (o, kind), some x =>
      if x.seq ≠ seq then d
      else
        let a := aCo k.region k.core + rCoPlSticky
        if x.seq ≠ o.seq || x.kind ≠ kind then (d.setBit a 1).abortTask t.id 0x1012 (some (d.faultAt k))
        else if x.step ≠ o.step then (d.setBit a 0).abortTask t.id 0x1011 (some (d.faultAt k))
        else
          (d.modTask t.id fun t => { t with plaits := t.plaits.map fun y => if y = x then { y with received := true } else y }).plaitSteps k
            t.plaits.length
    | _, _ => d

/-- PLAIT_RECORD_RECEIVE (R336). -/
def execPlaitRecordReceive (k : Ctx) (sender : Nat) (seq : BitVec 32) (s : State) : Out :=
  event (fun d => d.plaitReceive k sender seq.toNat) s

/-! ### The output stage (R161, R341 to R343) -/

/-- TOPK (R342, R343): the list is k = sb[36:32] + 1 long, and every other lane of vd is unchanged. -/
def execTopk (k : Ctx) (vd va sb : Fin 64) (mk : Fin 16) (s : State) : Out :=
  issueOp 2 k (ctxOp k fun c =>
    let x := (c.getS sb).toNat
    let n := field x 36 32 + 1
    let mask := (upto 64).foldl (fun (m : W64) l => if l < n || (decide (32 ≤ l) && decide (l < 32 + n)) then m ||| (1 <<< l) else m) 0
    c.later 2 8 (.v vd mask (topk (bit x 37) (bit x 38) n (BitVec.ofNat 32 x) (c.getM mk) (c.getV vd) (c.getV va)))) s

/-- A fused element-wise operation (R341). -/
def tepiOp (k : Ctx) (vd va : Fin 64) (mk : Fin 16) (f : W32 → W32 → W32) (s : State) : Out :=
  issueOp 2 k (ctxOp k fun c =>
    c.later 2 4 (.v vd (c.getM mk) ((upto 64).map fun l => f (c.lane vd l) (c.lane va l)))) s

/-- TEPI.ADD (R341). -/
def execTepiAdd (k : Ctx) (vd va : Fin 64) (mk : Fin 16) (ty : Fin 4) (s : State) : Out := tepiOp k vd va mk (laneAdd ty) s

/-- TEPI.MUL (R341). -/
def execTepiMul (k : Ctx) (vd va : Fin 64) (mk : Fin 16) (ty : Fin 4) (s : State) : Out := tepiOp k vd va mk (laneMul ty) s

/-- TCOW with elements of `w` bits (R161): the segment goes through the store queue, and sd takes its length. -/
def Dev.tcow (d : Dev) (k : Ctx) (w : Nat) (sd va sa : Fin 64) (mk : Fin 16) : OpRes :=
  let c := d.ctx k
  let seg := cowSegment w (c.getM mk) (c.getV va)
  let a := (c.getS sa).toNat
  let bad := firstRefusal [refuseIf (a % 8 != 0 || !inStore a || !inOneStore a seg.length) 0x4008,
    refuseIf ((d.core k.region k.core).fixedPipe && regionOf a != k.region.val) 0x5002]
  (storeOp 2 k bad d (cellsAt a seg)).bind fun d => .ok (d.modCtx k fun c => c.later 2 4 (.s sd (BitVec.ofNat 64 seg.length)))

/-- TCOW (R161): 8, 16 or 32 bits by esz. -/
def execTcow (k : Ctx) (sd va sa : Fin 64) (mk : Fin 16) (esz : Fin 4) (s : State) : Out :=
  encoded (decide (esz.val ≤ 2)) (tensorSlot k (fun d => d.tcow k (8 * 2 ^ esz.val) sd va sa mk) s)

/-- TCOW.4 (R161). -/
def execTcow4 (k : Ctx) (sd va sa : Fin 64) (mk : Fin 16) (s : State) : Out :=
  tensorSlot k (fun d => d.tcow k 4 sd va sa mk) s

/-- TCOW.6 (R161). -/
def execTcow6 (k : Ctx) (sd va sa : Fin 64) (mk : Fin 16) (s : State) : Out :=
  tensorSlot k (fun d => d.tcow k 6 sd va sa mk) s

/-- TPRUNE for a lane type (R161): mc at most 4 and 1 ≤ k < m. -/
def tpruneOp (ty : Nat) (k : Ctx) (md : Fin 16) (va : Fin 64) (mk : Fin 16) (mc : Fin 8) (kk : Fin 64) (s : State) : Out :=
  let m := 4 * 2 ^ mc.val
  encoded (decide (mc.val ≤ 4) && decide (1 ≤ kk.val) && decide (kk.val < m)) (issueOp 2 k (ctxOp k fun c =>
    c.later 2 6 (.m md (c.getM mk) (tprune ty m kk (c.getM mk) (c.getV va)))) s)

/-- TPRUNE.I (R161). -/
def execTpruneI (k : Ctx) (md : Fin 16) (va : Fin 64) (mk : Fin 16) (mc : Fin 8) (kk : Fin 64) (s : State) : Out :=
  tpruneOp 0 k md va mk mc kk s
/-- TPRUNE.F (R161). -/
def execTpruneF (k : Ctx) (md : Fin 16) (va : Fin 64) (mk : Fin 16) (mc : Fin 8) (kk : Fin 64) (s : State) : Out :=
  tpruneOp 1 k md va mk mc kk s
/-- TPRUNE.BF (R161). -/
def execTpruneBf (k : Ctx) (md : Fin 16) (va : Fin 64) (mk : Fin 16) (mc : Fin 8) (kk : Fin 64) (s : State) : Out :=
  tpruneOp 2 k md va mk mc kk s
/-- TPRUNE.H (R161). -/
def execTpruneH (k : Ctx) (md : Fin 16) (va : Fin 64) (mk : Fin 16) (mc : Fin 8) (kk : Fin 64) (s : State) : Out :=
  tpruneOp 3 k md va mk mc kk s

/-! ### Ply, TMODE, Splice and TALLY (R162, R187, R191 to R195) -/

/-- Hold the context after a metered operation of slot T (R106). -/
def Dev.metered (d : Dev) (k : Ctx) (slot : Nat) : Dev := d.addHold k { why := .metered, kind := 1, slot := slot }

/-- Write staging bytes outside a format: the rows touched read as tagged under none (log 12). -/
def Core.putStage (co : Core) (a : Nat) (bs : List Byte) : Core :=
  (stageRows a bs.length).foldl (fun co r => co.setTag r 0x7FFF 15) (co.setStage a bs)

/-- A Ply operation (R162, R187): `two` when it reads a second bitmap, `lim` its largest length. -/
def Dev.ply (d : Dev) (k : Ctx) (sd sa sb : Fin 64) (two : Bool) (lim : Nat) (f : (Nat → Byte) → Nat → Nat → Nat → PlyOut) : OpRes :=
  let c := d.ctx k
  let co := d.core k.region k.core
  let x := (c.getS sa).toNat
  let bits := field (c.getS sb).toNat 20 0
  let n := bits / 8
  let s1 := stAddr64 x 0
  let s2 := stAddr x 18
  let dst := stAddr64 x 36
  if bits % 64 ≠ 0 || bits < 64 || lim < bits then .faulty 0x4007
  else
    let o := f co.stageByte s1 s2 bits
    let clash (a : Nat) : Bool := ringOverlap stageSize dst o.bytes.length a n && !(two && a == dst)
    let rows := stageRows s1 n ++ if two then stageRows s2 n else []
    stageHold 2 c rows
      (if clash s1 || (two && clash s2) then .faulty 0x4007
       else if co.anyPinned (stageRows dst o.bytes.length) then .faulty 0x3004
       else
         let d := d.modCore k.region k.core fun co => co.putStage dst o.bytes
         let d := d.modCtx k fun c => c.later 2 1 (.s sd (BitVec.ofNat 64 o.sd))
         .ok ((d.inc64 (aCo k.region k.core + rCoSpPlyBits) bits).metered k 2))

/-- PLY.AND (R162). -/
def execPlyAnd (k : Ctx) (sd sa sb : Fin 64) (s : State) : Out :=
  tensorSlot k (fun d => d.ply k sd sa sb true 2097088 plyAnd) s
/-- PLY.POP (R162). -/
def execPlyPop (k : Ctx) (sd sa sb : Fin 64) (s : State) : Out :=
  tensorSlot k (fun d => d.ply k sd sa sb false 2097088 fun rd a _ n => plyPop rd a n) s
/-- PLY.CMP (R162). -/
def execPlyCmp (k : Ctx) (sd sa sb : Fin 64) (s : State) : Out :=
  tensorSlot k (fun d => d.ply k sd sa sb false 65536 fun rd a _ n => plyCmp rd a n) s

/-- TMODE (R191). -/
def Dev.tmode (d : Dev) (k : Ctx) (sd sa : Fin 64) : OpRes :=
  let c := d.ctx k
  let rd := (d.core k.region k.core).stageByte
  let a := stAddr (c.getS sa).toNat 0
  let pop := leNat rd a 2
  let sparse := decide (pop < 2048)
  stageHold 2 c (stageRows a 16)
    (if 12 < (rd (a + 2)).toNat || rd (a + 3) != 0 || 4096 < pop then .faulty 0x4005
     else .ok ((d.inc64 (aCo k.region k.core + (if sparse then rCoSpTilesSparse else rCoSpTilesDense)) 1).modCtx k fun c =>
       c.later 2 4 (.s sd (if sparse then 1 else 0))))

/-- TMODE. -/
def execTmode (k : Ctx) (sd sa : Fin 64) (s : State) : Out := tensorSlot k (fun d => d.tmode k sd sa) s

/-- Whether a task's strict flag is set (R208). -/
def Dev.strict (d : Dev) (id : W32) : Bool := (d.task? id).any fun t => t.strict

/-- Count dropped list entries (R209). -/
def Dev.countDrops (d : Dev) (k : Ctx) (range order : Nat) : Dev :=
  let a := aCo k.region k.core
  let d := if range = 0 then d else (d.inc64 (a + rCoSpRangeDrops) range).setBit (a + rCoSpSticky) 0
  if order = 0 then d else (d.inc64 (a + rCoSpOrderDrops) order).setBit (a + rCoSpSticky) 1

/-- Whether `n` bytes at a multiple of `al` lie in the store of the issuing core's region (R192). -/
def ownRange (k : Ctx) (al a n : Nat) : Bool := a % al == 0 && inStoreOf k.region a n

/-- The checks of R192 on a Splice descriptor that lies at `a`. -/
def spliceOk (k : Ctx) (rd : Nat → Byte) (a : Nat) : Bool :=
  let f := (rd (a + 60)).toNat
  let ca := leNat rd (a + 8) 4
  let cb := leNat rd (a + 24) 4
  let cap := leNat rd (a + 40) 4
  let out := leNat rd (a + 32) 8
  let n := cap * if bit f 0 then 12 else 4
  ownRange k 512 (leNat rd a 8) (4 * ca) && ownRange k 512 (leNat rd (a + 16) 8) (4 * cb) && ownRange k 512 out n &&
    decide (ca ≤ 2 ^ 24) && decide (cb ≤ 2 ^ 24) && decide (1 ≤ cap) && decide (cap ≤ 2 ^ 24) &&
    decide (leNat rd (a + 52) 4 ≤ ca) && decide (leNat rd (a + 56) 4 ≤ cb) && decide (leNat rd (a + 44) 4 ≤ leNat rd (a + 48) 4) &&
    decide (f < 8) && leNat rd (a + 62) 2 == 0 &&
    !overlap out n (leNat rd a 8) (4 * ca) && !overlap out n (leNat rd (a + 16) 8) (4 * cb) && !overlap out n a 64

/-- SPLX.MERGE and SPLX.ISECT (R192 to R194, R208). -/
def Dev.splx (d : Dev) (k : Ctx) (isect : Bool) (sd sa : Fin 64) : OpRes :=
  let c := d.ctx k
  let a := field (c.getS sa).toNat 47 0
  let rd := d.loadByte k
  guardOp (firstRefusal [refuseIf (!ownRange k 64 a 64) 0x4006, d.storeRead a 64 false, refuseIf (!spliceOk k rd a) 0x4006])
    (let src (o : Nat) (l : Nat) : SpliceSrc :=
       { addr := leNat rd (a + o) 8, count := leNat rd (a + o + 8) 4, base := leNat rd (a + o + 12) 4, isLast := bit (rd (a + 60)).toNat l }
     let A := src 0 1
     let B := src 16 2
     let out := leNat rd (a + 32) 8
     let r := spliceLoop rd isect A B (leNat rd (a + 44) 4) (leNat rd (a + 48) 4) (leNat rd (a + 40) 4) (A.count + B.count + 2)
       { i := leNat rd (a + 52) 4, j := leNat rd (a + 56) 4 }
     let bs := spliceBytes (bit (rd (a + 60)).toNat 0) r.out
     let tail := leBytes r.i 4 ++ leBytes r.j 4 ++ [rd (a + 60), BitVec.ofNat 8 (r.complete.toNat + 2 * r.outFull.toNat)]
     let w := d.asWriter k
     guardOp (firstRefusal [d.storeRead A.addr (4 * A.count) false, d.storeRead B.addr (4 * B.count) false,
         refuseIf (d.strict c.task && r.err.first == 1) 0x4001, refuseIf (d.strict c.task && r.err.first == 2) 0x4002,
         d.storeWrite w out bs.length false, d.storeWrite w (a + 52) 10 false])
       (let d := ((d.windowWrite w out bs).windowWrite w (a + 52) tail).countDrops k r.err.range r.err.order
        .ok ((d.modCtx k fun c => c.later 2 1 (.s sd (BitVec.ofNat 64 r.n))).metered k 2)))

/-- SPLX.MERGE. -/
def execSplxMerge (k : Ctx) (sd sa : Fin 64) (s : State) : Out := tensorSlot k (fun d => d.splx k false sd sa) s
/-- SPLX.ISECT. -/
def execSplxIsect (k : Ctx) (sd sa : Fin 64) (s : State) : Out := tensorSlot k (fun d => d.splx k true sd sa) s

/-- The checks of R192 and R195 on a TALLY descriptor that lies at `a`. -/
def tallyOk (k : Ctx) (rd : Nat → Byte) (a : Nat) : Bool :=
  let n := leNat rd (a + 8) 4
  let li := leNat rd a 8
  let hist := leNat rd (a + 32) 8
  let e := (rd (a + 24)).toNat
  let t := leNat rd (a + 16) 8
  ownRange k 512 li (4 * n) && ownRange k 512 hist 2312 && decide (n ≤ 2 ^ 24) && decide (2 ≤ e) && decide (e ≤ 7) &&
    inOneStore t ((leNat rd (a + 44) 4 + 1) * 2 ^ e) && decide (leNat rd (a + 40) 4 ≤ leNat rd (a + 44) 4) &&
    leNat rd (a + 12) 4 == 0 && leNat rd (a + 25) 7 == 0 && leNat rd (a + 48) 16 == 0 &&
    !overlap hist 2312 li (4 * n) && !overlap hist 2312 a 64

/-- The counts by bank of the entries of an index list inside a range, and the entries inside it (R195). -/
def tallyCounts (rd : Nat → Byte) (li n target e lo hi : Nat) : List Nat × Nat :=
  (upto n).foldl (fun (p : List Nat × Nat) i =>
    let x := listEntry rd li i
    if lo ≤ x && x ≤ hi then (at_ p.1 (bankOf (target + x * 2 ^ e)) (· + 1), p.2 + 1) else p) (List.replicate 576 0, 0)

/-- TALLY (R195, R208). -/
def Dev.tally (d : Dev) (k : Ctx) (sd sa : Fin 64) : OpRes :=
  let c := d.ctx k
  let a := field (c.getS sa).toNat 47 0
  let rd := d.loadByte k
  guardOp (firstRefusal [refuseIf (!ownRange k 64 a 64) 0x4006, d.storeRead a 64 false, refuseIf (!tallyOk k rd a) 0x4006])
    (let n := leNat rd (a + 8) 4
     let li := leNat rd a 8
     let hist := leNat rd (a + 32) 8
     let (cs, m) := tallyCounts rd li n (leNat rd (a + 16) 8) (rd (a + 24)).toNat (leNat rd (a + 40) 4) (leNat rd (a + 44) 4)
     let top := cs.foldl max 0
     let bs := cs.flatMap (fun x => leBytes x 4) ++ leBytes top 4 ++ leBytes m 4
     let w := d.asWriter k
     guardOp (firstRefusal [d.storeRead li (4 * n) false, refuseIf (d.strict c.task && m != n) 0x4001, d.storeWrite w hist 2312 false])
       (let d := (d.windowWrite w hist bs).countDrops k (n - m) 0
        .ok ((d.modCtx k fun c => c.later 2 1 (.s sd (BitVec.ofNat 64 top))).metered k 2)))

/-- TALLY. -/
def execTally (k : Ctx) (sd sa : Fin 64) (s : State) : Out := tensorSlot k (fun d => d.tally k sd sa) s

end Sys2Proof.Machine
end

