-- ==== Sys2Proof/Machine/SlotM.lean ====
section
/-! DEFINITION. Slot M: loads and stores, staging and row transfers, coils, hitch windows, channels, knots and belays (R163 to R171). -/

namespace Sys2Proof.Machine

/-- A slot M operation on the device. -/
def memorySlot (k : Ctx) (f : Dev → OpRes) (s : State) : Out := issueOp 3 k (fun _ d => f d) s

/-- MNOP. -/
def execMnop (k : Ctx) (s : State) : Out := issueOp 3 k (ctxOp k id) s

/-! ### Loads and stores (R165) -/

/-- The address sa + imm of an access, modulo 2^64, with the immediate in units of `u` bytes. -/
def Context.address (c : Context) (sa : Fin 64) (imm : W64) (u : Nat) : Nat := (c.getS sa + imm * BitVec.ofNat 64 u).toNat

/-- The checks of a word-port load of `n` bytes aligned to `al`. -/
def Dev.loadCheck (d : Dev) (k : Ctx) (a n al : Nat) : Refuse := firstRefusal [d.coreAddr k a n al, d.storeRead a n true]

/-- A word-port load whose result is due after its contract latency plus `extra`; `late` when it loses arbitration (R238). -/
def Dev.load (d : Dev) (k : Ctx) (bad : Refuse) (a extra : Nat) (late : Bool) (x : Dest) : OpRes :=
  guardOp bad (.ok (d.modCtx k fun c => c.later 3 (loadLat k.region a + extra) x (if late then 2 else 0)))

/-- LD.W and LD.D: `n` bytes, zero-extended. -/
def Dev.loadScalar (d : Dev) (k : Ctx) (n : Nat) (sd sa : Fin 64) (imm : BitVec 12) (late : Bool) : OpRes :=
  let a := (d.ctx k).address sa (imm.signExtend 64) 1
  d.load k (d.loadCheck k a n n) a 0 late (.s sd (BitVec.ofNat 64 (leNat (d.loadByte k) a n)))

/-- LD.W (R165). -/
def execLdW (k : Ctx) (sd sa : Fin 64) (imm : BitVec 12) (late : Bool) (s : State) : Out :=
  memorySlot k (fun d => d.loadScalar k 4 sd sa imm late) s
/-- LD.D (R165). -/
def execLdD (k : Ctx) (sd sa : Fin 64) (imm : BitVec 12) (late : Bool) (s : State) : Out :=
  memorySlot k (fun d => d.loadScalar k 8 sd sa imm late) s

/-- ST.W and ST.D: the low `n` bytes of ss. -/
def Dev.storeScalar (d : Dev) (k : Ctx) (n : Nat) (ss sa : Fin 64) (imm : BitVec 12) : OpRes :=
  let c := d.ctx k
  let a := c.address sa (imm.signExtend 64) 1
  storeOp 3 k (d.coreAddr k a n n) d (cellsAt a (leBytes (c.getS ss).toNat n))

/-- ST.W (R165). -/
def execStW (k : Ctx) (ss sa : Fin 64) (imm : BitVec 12) (s : State) : Out := memorySlot k (fun d => d.storeScalar k 4 ss sa imm) s
/-- ST.D (R165). -/
def execStD (k : Ctx) (ss sa : Fin 64) (imm : BitVec 12) (s : State) : Out := memorySlot k (fun d => d.storeScalar k 8 ss sa imm) s

/-- The lanes whose mask bit is 1. -/
def maskLanes (m : W64) : List Nat := (upto 64).filter fun l => m.getLsbD l

/-- Lane words read by a load at an address for each lane. -/
def Dev.laneWords (d : Dev) (k : Ctx) (f : Nat → Nat) : List W32 :=
  (upto 64).map fun l => BitVec.ofNat 32 (leNat (d.loadByte k) (f l) 4)

/-- VLD (R165): lane l at address + 4 * l, for the lanes whose mask bit is 1. -/
def Dev.loadVector (d : Dev) (k : Ctx) (vd sa : Fin 64) (mk : Fin 16) (imm : BitVec 8) (late : Bool) : OpRes :=
  let c := d.ctx k
  let a := c.address sa (imm.signExtend 64) 256
  let bad := firstRefusal (refuseIf (a % 64 != 0) 0x5001 :: (maskLanes (c.getM mk)).map fun l => d.loadCheck k (a + 4 * l) 4 4)
  d.load k bad a 0 late (.v vd (c.getM mk) (d.laneWords k fun l => a + 4 * l))

/-- VLD. -/
def execVld (k : Ctx) (vd sa : Fin 64) (mk : Fin 16) (imm : BitVec 8) (late : Bool) (s : State) : Out :=
  memorySlot k (fun d => d.loadVector k vd sa mk imm late) s

/-- VST (R165). -/
def Dev.storeVector (d : Dev) (k : Ctx) (vs sa : Fin 64) (mk : Fin 16) (imm : BitVec 8) : OpRes :=
  let c := d.ctx k
  let a := c.address sa (imm.signExtend 64) 256
  let ls := maskLanes (c.getM mk)
  let bad := firstRefusal (refuseIf (a % 64 != 0) 0x5001 :: ls.map fun l => d.coreAddr k (a + 4 * l) 4 4)
  storeOp 3 k bad d (ls.flatMap fun l => cellsAt (a + 4 * l) (leBytes (c.lane vs l).toNat 4))

/-- VST. -/
def execVst (k : Ctx) (vs sa : Fin 64) (mk : Fin 16) (imm : BitVec 8) (s : State) : Out :=
  memorySlot k (fun d => d.storeVector k vs sa mk imm) s

/-- GATH (R165, R203): the word at sb + 4 * va of each active lane; metered. -/
def Dev.gather (d : Dev) (k : Ctx) (vd va sb : Fin 64) (mk : Fin 16) : OpRes :=
  let c := d.ctx k
  let at_ (l : Nat) : Nat := (c.getS sb + (c.lane va l).setWidth 64 * 4).toNat
  guardOp (firstRefusal ((maskLanes (c.getM mk)).map fun l => d.loadCheck k (at_ l) 4 4))
    (.ok ((d.modCtx k fun c => c.later 3 1 (.v vd (c.getM mk) (d.laneWords k at_))).metered k 3))

/-- GATH. -/
def execGath (k : Ctx) (vd va sb : Fin 64) (mk : Fin 16) (s : State) : Out := memorySlot k (fun d => d.gather k vd va sb mk) s

/-- TLDL (R164, R165). -/
def Dev.loadTotal (d : Dev) (k : Ctx) (t : Fin 32) (sa : Fin 64) (imm : BitVec 12) (late : Bool) : OpRes :=
  let a := (d.ctx k).address sa (imm.signExtend 64) 128
  d.load k (d.loadCheck k a 128 128) a 1 late (.t t (LongTotal.ofRecord (d.loadByte k) a))

/-- TLDL. -/
def execTldl (k : Ctx) (t : Fin 32) (sa : Fin 64) (imm : BitVec 12) (late : Bool) (s : State) : Out :=
  memorySlot k (fun d => d.loadTotal k t sa imm late) s

/-- TSTL (R165). -/
def Dev.storeTotal (d : Dev) (k : Ctx) (t : Fin 32) (sa : Fin 64) (imm : BitVec 12) : OpRes :=
  let c := d.ctx k
  let a := c.address sa (imm.signExtend 64) 128
  storeOp 3 k (d.coreAddr k a 128 128) d (cellsAt a (c.getT t).record)

/-- TSTL. -/
def execTstl (k : Ctx) (t : Fin 32) (sa : Fin 64) (imm : BitVec 12) (s : State) : Out :=
  memorySlot k (fun d => d.storeTotal k t sa imm) s

/-! ### Accumulator buffers (R197 to R202) -/

/-- Bytes of an accumulator entry of a type. -/
def accBytes (type : Nat) : Nat := if type = 0 then 8 else 128

/-- Whether the accumulator descriptor at `a` and its buffer keep R197. -/
def accOk (rd : Nat → Byte) (a : Nat) : Bool :=
  let type := (rd (a + 12)).toNat
  let base := leNat rd a 8
  decide (type ≤ 3) && leNat rd (a + 13) 3 == 0 && leNat rd (a + 32) 32 == 0 &&
    base % accBytes type == 0 && inStore base && inOneStore base (leNat rd (a + 8) 4 * accBytes type)

/-- Add to a 64-bit field of a descriptor that the device updates (R197). -/
def Dev.bumpField (d : Dev) (a n : Nat) : Dev :=
  if n = 0 then d else d.writeBytes a (leBytes ((leNat d.byte a 8 + n) % 2 ^ 64) 8)

/-- Put an addition into the conflict queue of its bank, which has 16 places; while it is full, the crossbar holds the addition (R200). -/
def Dev.queueAddition (d : Dev) (x : Addition) : Dev :=
  d.modRegion (regionOf x.entry) fun g =>
    if (sget (fun _ => []) g.queues (bankOf x.entry)).length < 16 then
      { g with queues := smod (fun _ => []) g.queues (bankOf x.entry) (· ++ [x]) }
    else { g with crossbar := g.crossbar ++ [x] }

/-- A bank has performed the front of its conflict queue: the oldest addition that the crossbar holds for it takes the free place (R200). -/
def Region.popQueue (g : Region) (bank : Nat) : Region :=
  let q := (sget (fun _ => []) g.queues bank).tail
  match g.crossbar.find? fun x => bankOf x.entry == bank with
  | none => { g with queues := sset (fun _ => []) g.queues bank q }
  | some x => { g with queues := sset (fun _ => []) g.queues bank (q ++ [x]), crossbar := g.crossbar.erase x }

/-- Whether an addition must wait for a store of its context that an earlier bundle issued to the same entry (R98, R201). -/
def Dev.additionWaits (d : Dev) (x : Addition) : Bool :=
  match x.owner with
  | none => false
  | some k => (d.core k.region k.core).storeQ.any fun e => e.slot == k.slot.val && e.cells.any fun c => overlap c.1 1 x.entry (accBytes x.type)

/-- SCAT.ADD (R197 to R200). -/
def Dev.scatAdd (d : Dev) (k : Ctx) (vs va sb : Fin 64) (mk : Fin 16) : OpRes :=
  let c := d.ctx k
  let a := (c.getS sb).toNat
  let rd := d.loadByte k
  let pipe := (d.core k.region k.core).fixedPipe
  guardOp (firstRefusal [refuseIf (a % 64 != 0) 0x500B, d.coreAddr k a 64 64, d.storeRead a 64 false, refuseIf (!accOk rd a) 0x500B,
      refuseIf (pipe && regionOf (leNat rd a 8) != k.region.val) 0x5002])
    (let type := (rd (a + 12)).toNat
     let n := leNat rd (a + 8) 4
     let ls := maskLanes (c.getM mk)
     let inside (l : Nat) : Bool := decide ((c.lane va l).toNat < n)
     let drops := (ls.filter fun l => !inside l).length
     guardOp (firstRefusal [refuseIf (d.strict c.task && drops != 0) 0x500B, if drops = 0 then none else d.storeWrite (d.asWriter k) (a + 24) 8 false])
       (let d := d.bumpField (a + 24) drops
        let r := aCo k.region k.core
        let d := if drops = 0 then d else (d.inc64 (r + rCoSpScatDrops) drops).setBit (r + rCoSpSticky) 2
        let d := (ls.filter inside).foldl (fun d l => d.queueAddition
          { owner := some k, task := c.task, entry := leNat rd a 8 + (c.lane va l).toNat * accBytes type, type := type,
            addend := c.lane vs l, desc := a }) d
        .ok (d.addHold k { why := .scatter, kind := 1, slot := 3 })))

/-- SCAT.ADD. -/
def execScatAdd (k : Ctx) (vs va sb : Fin 64) (mk : Fin 16) (s : State) : Out := memorySlot k (fun d => d.scatAdd k vs va sb mk) s

/-- The bytes of an accumulator entry after an addition (R198). -/
def Addition.result (x : Addition) (rd : Nat → Byte) : List Byte :=
  if x.type = 0 then leBytes (BitVec.ofNat 64 (leNat rd x.entry 8) + x.addend.signExtend 64).toNat 8
  else ((LongTotal.ofRecord rd x.entry).addNum (laneNum x.type x.addend)).record

/-- The writer of an addition (R258). -/
def Addition.writer (x : Addition) : Writer := match x.owner with | some k => .core k x.task | none => .chan x.task

/-- Perform an addition at its bank, with the checks of the access. -/
def Dev.addition (d : Dev) (x : Addition) : Dev :=
  match firstRefusal [d.storeRead x.entry (accBytes x.type) true, d.storeWrite x.writer x.entry (accBytes x.type) true,
      d.storeWrite x.writer (x.desc + 16) 8 false] with
  | some (st, post) =>
    (match x.owner, x.chan with
     | some k, _ => (post x.task d).abortLate k x.task st
     | none, some i => (post x.task d).chanFault i x.task st
     | none, none => (post x.task d).abortTask x.task st)
  | none => (d.windowWrite x.writer x.entry (x.result d.byte)).bumpField (x.desc + 16) 1

/-- SCAT_ADDITION (R200, R201): a bank performs the oldest addition of its conflict queue. -/
def execScatAddition (region : Fin 8) (bank : Fin 576) (s : State) : Out :=
  event (fun d => match sget (fun _ => []) (d.region region).queues bank with
    | [] => d
    | x :: _ => if d.additionWaits x then d else (d.modRegion region fun g => g.popQueue bank).addition x) s

/-! ### Work that a coil pointer waits for (R254) -/

/-- Whether every store, row transfer, FILL and COPY issued before cycle `i` has been performed. -/
def Dev.storesDone (d : Dev) (k : Ctx) (i : Nat) : Bool :=
  !((d.core k.region k.core).storeQ.any fun e => e.slot == k.slot.val && decide (e.iat < i)) &&
  !((d.ctx k).xfers.any fun x => decide (x.iat < i))

/-- Whether every row read issued before cycle `i` has completed; word loads read their data when they issue. -/
def Dev.readsDone (d : Dev) (k : Ctx) (i : Nat) : Bool :=
  !((d.ctx k).xfers.any fun x => (x.kind == 0 || x.kind == 3) && decide (x.iat < i))

/-- Whether the earlier work of a coil operation has completed. -/
def Dev.coilReady (d : Dev) (k : Ctx) (o : CoilOp) : Bool := if o.push then d.storesDone k o.iat else d.readsDone k o.iat

/-- The range check of a push or pop as it takes effect (R253). -/
def Dev.coilFits (d : Dev) (o : CoilOp) : Bool :=
  if o.push then decide (d.coilReadable o.region o.coil + o.bytes ≤ d.coilSize o.region o.coil)
  else decide (o.bytes ≤ d.coilReadable o.region o.coil)

/-- Apply the waiting coil operations of a context whose earlier work has completed, oldest first; `n` bounds their number. -/
def Dev.runCoilOps (k : Ctx) : Nat → Dev → Dev
  | 0, d => d
  | n + 1, d =>
    match (d.ctx k).coilOps with
    | [] => d
    | o :: l =>
      if d.coilReady k o then
        if d.coilFits o then
          ((d.modCtx k fun c => { c with coilOps := l }).coilAdvance o.push o.region o.coil o.bytes).runCoilOps k n
        else d.abortLate k (d.ctx k).task 0x5008
      else d

/-- Apply every waiting coil operation of a context that may take effect. -/
def Dev.settleCoils (d : Dev) (k : Ctx) : Dev := d.runCoilOps k (d.ctx k).coilOps.length

/-! ### The store queue (R166, R238, R258) -/

/-- Perform a queued store at its banks. -/
def Dev.performStore (d : Dev) (region core : Nat) (k : Ctx) (e : StoreEntry) : Dev :=
  let d := d.modCore region core fun co => { co with storeQ := co.storeQ.tail }
  let w : Writer := .core k e.task
  match d.cellsCheck w e.cells with
  | some (st, post) => (post e.task d).abortLate k e.task st
  | none =>
    ((d.writeCells e.cells).countCells (d.hitchCells w e.cells).2 e.cells.length).settleCoils k

/-- STORE_QUEUE_WRITE (R238): the oldest store of a core is performed and frees its entry. -/
def execStoreQueueWrite (region : Fin 8) (core : Fin 40) (s : State) : Out :=
  event (fun d => match (d.core region core).storeQ with
    | [] => d
    | e :: _ => d.performStore region core { region := region, core := core, slot := Fin.ofNat 12 e.slot } e) s

/-! ### Staging and row transfers (R168, R169) -/

/-- SLD (R168): latency 4; the low 6 bits of the address are ignored. -/
def Dev.sld (d : Dev) (k : Ctx) (vd sa : Fin 64) (mk : Fin 16) (imm : BitVec 8) : OpRes :=
  let c := d.ctx k
  let a := stAddr64 (c.address sa (imm.signExtend 64) 256) 0
  let co := d.core k.region k.core
  stageHold 3 c (sstRows a (c.getM mk)) (.ok (d.modCtx k fun c => c.later 3 4 (.v vd (c.getM mk)
    ((upto 64).map fun l => BitVec.ofNat 32 (leNat co.stageByte (a + 4 * l) 4)))))

/-- SLD. -/
def execSld (k : Ctx) (vd sa : Fin 64) (mk : Fin 16) (imm : BitVec 8) (s : State) : Out := memorySlot k (fun d => d.sld k vd sa mk imm) s

/-- SST (R168): seen by the context's staging reads from issue cycle i + 2. -/
def Dev.sst (d : Dev) (k : Ctx) (vs sa : Fin 64) (mk : Fin 16) (imm : BitVec 8) : OpRes :=
  let c := d.ctx k
  let a := stAddr64 (c.address sa (imm.signExtend 64) 256) 0
  if (d.core k.region k.core).anyPinned (sstRows a (c.getM mk)) then .faulty 0x3004
  else .ok (d.modCtx k fun c => { c with ssts := c.ssts ++ [{ addr := a, mask := c.getM mk, x := c.getV vs, due := c.cyc + 1 }] })

/-- SST. -/
def execSst (k : Ctx) (vs sa : Fin 64) (mk : Fin 16) (imm : BitVec 8) (s : State) : Out := memorySlot k (fun d => d.sst k vs sa mk imm) s

/-- The staging row that sb names (R149). -/
def Context.rowOf (c : Context) (sb : Fin 64) : Nat := field (c.getS sb).toNat 8 0

/-- STAG (R70, R168): fmt 0xE is undefined. -/
def Dev.stag (d : Dev) (k : Ctx) (sb : Fin 64) (n fmt : Nat) : OpRes :=
  let c := d.ctx k
  let rows := spanRows (c.rowOf sb) n
  stageHold 3 c rows
    (if (d.core k.region k.core).anyPinned rows then .faulty 0x3004
     else .ok (d.modCore k.region k.core fun co => rows.foldl (fun co r => co.tagRow r fmt) co))

/-- STAG. -/
def execStag (k : Ctx) (sb : Fin 64) (n1 : BitVec 8) (fmt : Fin 16) (s : State) : Out :=
  encoded (fmt != 14) (memorySlot k (fun d => d.stag k sb (n1.toNat + 1) fmt) s)

/-- Start a row transfer of a context. -/
def Dev.startXfer (d : Dev) (k : Ctx) (x : Xfer) : Dev := d.modCtx k fun c => { c with xfers := c.xfers ++ [{ x with iat := c.cyc - 1 }] }

/-- ROW.LD (R169). -/
def Dev.rowLd (d : Dev) (k : Ctx) (sa sb : Fin 64) (n fmt : Nat) : OpRes :=
  let c := d.ctx k
  let a := (c.getS sa).toNat
  let row := c.rowOf sb
  guardOp (firstRefusal [d.coreAddr k a (512 * n) 512, refuseIf ((d.core k.region k.core).anyPinned (spanRows row n)) 0x3004])
    (.ok (d.startXfer k { kind := 0, addr := a, row := row, n := n, fmt := fmt, iat := 0 }))

/-- ROW.LD: fmt 0xE is undefined. -/
def execRowLd (k : Ctx) (sa sb : Fin 64) (n1 : BitVec 8) (fmt : Fin 16) (s : State) : Out :=
  encoded (fmt != 14) (memorySlot k (fun d => d.rowLd k sa sb (n1.toNat + 1) fmt) s)

/-- ROW.ST (R169): it reads the staging rows, so it is held while a ROW.LD has still to write one of them. -/
def Dev.rowSt (d : Dev) (k : Ctx) (sa sb : Fin 64) (n : Nat) : OpRes :=
  let c := d.ctx k
  let a := (c.getS sa).toNat
  stageHold 3 c (spanRows (c.rowOf sb) n)
    (guardOp (d.coreAddr k a (512 * n) 512) (.ok (d.startXfer k { kind := 1, addr := a, row := c.rowOf sb, n := n, iat := 0 })))

/-- ROW.ST. -/
def execRowSt (k : Ctx) (sa sb : Fin 64) (n1 : BitVec 8) (s : State) : Out := memorySlot k (fun d => d.rowSt k sa sb (n1.toNat + 1)) s

/-- FILL (R169). -/
def Dev.fillRows (d : Dev) (k : Ctx) (sa sb : Fin 64) (n : Nat) : OpRes :=
  let c := d.ctx k
  let a := (c.getS sa).toNat
  guardOp (d.coreAddr k a (512 * n) 512) (.ok (d.startXfer k { kind := 2, addr := a, n := n, word := BitVec.ofNat 32 (c.getS sb).toNat, iat := 0 }))

/-- FILL. -/
def execFill (k : Ctx) (sa sb : Fin 64) (n1 : BitVec 8) (s : State) : Out := memorySlot k (fun d => d.fillRows k sa sb (n1.toNat + 1)) s

/-- COPY (R169, R246). -/
def Dev.copyRows (d : Dev) (k : Ctx) (sa sb : Fin 64) (n : Nat) : OpRes :=
  let c := d.ctx k
  let a := (c.getS sa).toNat
  let src := (c.getS sb).toNat
  guardOp (firstRefusal [d.coreAddr k a (512 * n) 512, d.coreAddr k src (512 * n) 512])
    (.ok (d.startXfer k { kind := 3, addr := a, src := src, n := n, iat := 0 }))

/-- COPY. -/
def execCopy (k : Ctx) (sa sb : Fin 64) (n1 : BitVec 8) (s : State) : Out := memorySlot k (fun d => d.copyRows k sa sb (n1.toNat + 1)) s

/-- The byte that a row read of a context sees: the context's own stores of bundles before cycle `i` prevail (R98). -/
def Dev.rowByte (d : Dev) (k : Ctx) (i : Nat) (a : Nat) : Byte :=
  let q := (d.core k.region k.core).storeQ.filter fun e => e.slot == k.slot.val && decide (e.iat < i)
  match (q.flatMap fun e => e.cells).reverse.find? fun p => p.1 == a with
  | some p => p.2
  | none => d.byte a

/-- What a row transfer of context `k` reads and writes in the region store: source and destination ranges (R169), and the staging rows that it
writes, of which none may have been pinned since its issue (R73). A COPY is performed by the store engine of the destination's region (R246): in
fixed-pipeline mode it reaches its own region store only (R241). -/
def Xfer.checks (x : Xfer) (d : Dev) (k : Ctx) : Refuse :=
  let n := 512 * x.n
  let w := d.asWriter k
  match x.kind with
  | 0 => firstRefusal [d.storeRead x.addr n false, refuseIf ((d.core k.region k.core).anyPinned (spanRows x.row x.n)) 0x3004]
  | 3 => firstRefusal [refuseIf ((d.region (regionOf x.addr)).fixedPipe && regionOf x.src != regionOf x.addr) 0x5002,
      d.storeRead x.src n false, d.storeWrite w x.addr n false]
  | _ => d.storeWrite w x.addr n false

/-- Perform a row transfer (R169, R246): a COPY reads every source row before it writes. -/
def Dev.performXfer (d : Dev) (k : Ctx) (x : Xfer) : Dev :=
  let n := 512 * x.n
  let w := d.asWriter k
  match x.kind with
  | 0 =>
    let bs := readBytes (d.rowByte k x.iat) x.addr n
    d.modCore k.region k.core fun co => (spanRows x.row x.n).foldl (fun co r => co.tagRow r x.fmt) (co.setStage (512 * x.row) bs)
  | 1 => d.windowWrite w x.addr (readBytes (d.core k.region k.core).stageByte (512 * x.row) n)
  | 2 => d.windowWrite w x.addr ((upto n).map fun i => BitVec.ofNat 8 (x.word.toNat / 2 ^ (8 * (i % 4))))
  | _ => d.windowWrite w x.addr (readBytes (d.rowByte k x.iat) x.src n)

/-- ROW_TRANSFER_DONE (R169): transfer `i` of a context, counted from the oldest, is performed and signalled complete. -/
def execRowTransferDone (k : Ctx) (i : Nat) (s : State) : Out :=
  event (fun d => match (d.ctx k).xfers[i]? with
    | none => d
    | some x =>
      match x.checks d k with
      | some (st, post) => (post (d.ctx k).task d).abortLate k (d.ctx k).task st
      | none => ((d.performXfer k x).modCtx k fun c => { c with xfers := c.xfers.eraseIdx i }).settleCoils k) s

/-- ROW.WAIT (R169): metered under R105 with the row transfers that it awaits. -/
def execRowWait (k : Ctx) (s : State) : Out :=
  memorySlot k (fun d => .ok (d.addHold k { why := .rowWait, kind := 2, slot := 3 })) s

/-! ### Coils (R252 to R255, R260) -/

/-- Whether a coil handle names a coil as it stands. -/
def Dev.coilHandleOk (d : Dev) (h : W32) : Bool := hKind h == 1 && hGen h == d.coilGen (hRegion h) (hIndex h)

/-- Continue with a valid coil handle: its region and coil. -/
def Dev.withCoil (d : Dev) (k : Ctx) (c : Fin 16) (f : Nat → Nat → OpRes) : OpRes :=
  let h := (d.ctx k).getC c
  if d.coilHandleOk h then f (hRegion h) (hIndex h) else .faulty 0x5006

/-- Whether a context may acquire a resource of a rank (R260). -/
def Context.rankOk (c : Context) (rank : Nat) : Bool := (c.coils ++ c.wins).all fun x => decide (x.2.2 < rank)

/-- COIL.TAKE (R253, R260). -/
def Dev.coilTake (d : Dev) (k : Ctx) (c : Fin 16) (sa : Fin 64) : OpRes :=
  let x := (d.ctx k).getS sa
  let i := field x.toNat 8 0
  let r := field x.toNat 11 9
  if !d.coilEnabled r i then .faulty 0x5007
  else if !(d.ctx k).rankOk (d.coilRank r i) then .faulty 0x5005
  else .ok ((d.coilHold r i).modCtx k fun x =>
    { x with coils := x.coils ++ [(r, i, d.coilRank r i)] }.later 3 4 (.c c (handleOf i r 1 (d.coilGen r i))))

/-- COIL.TAKE. -/
def execCoilTake (k : Ctx) (c : Fin 16) (sa : Fin 64) (s : State) : Out := memorySlot k (fun d => d.coilTake k c sa) s

/-- COIL.DROP (R253): the handle becomes null. -/
def execCoilDrop (k : Ctx) (c : Fin 16) (s : State) : Out :=
  memorySlot k (fun d => d.withCoil k c fun r i => .ok ((d.dropCoil k r i).modCtx k fun x => x.later 3 1 (.c c 0))) s

/-- COIL.WAIT (R253, R255). -/
def execCoilWait (k : Ctx) (c : Fin 16) (sb : Fin 64) (s : State) : Out :=
  memorySlot k (fun d => d.withCoil k c fun r i =>
    let n := ((d.ctx k).getS sb).toNat
    if n % 4 ≠ 0 || d.coilSize r i < n then .faulty 0x5008
    else .ok (d.addHold k { why := .coilWait r i n, kind := 4, slot := 3 })) s

/-- COIL.PUSH and COIL.POP (R253, R254): at once when the earlier work of the context has completed. -/
def Dev.coilMove (d : Dev) (k : Ctx) (push : Bool) (c : Fin 16) (sb : Fin 64) : OpRes :=
  d.withCoil k c fun r i =>
    let n := ((d.ctx k).getS sb).toNat
    let o : CoilOp := { push := push, region := r, coil := i, bytes := n, iat := (d.ctx k).cyc - 1 }
    if n % 4 ≠ 0 then .faulty 0x5008
    else if (d.ctx k).coilOps.isEmpty && d.coilReady k o then
      if d.coilFits o then .ok (d.coilAdvance push r i n) else .faulty 0x5008
    else .ok (d.modCtx k fun x => { x with coilOps := x.coilOps ++ [o] })

/-- COIL.PUSH. -/
def execCoilPush (k : Ctx) (c : Fin 16) (sb : Fin 64) (s : State) : Out := memorySlot k (fun d => d.coilMove k true c sb) s
/-- COIL.POP. -/
def execCoilPop (k : Ctx) (c : Fin 16) (sb : Fin 64) (s : State) : Out := memorySlot k (fun d => d.coilMove k false c sb) s

/-- COIL.PTR (R253): the head. -/
def execCoilPtr (k : Ctx) (c : Fin 16) (sd : Fin 64) (s : State) : Out :=
  memorySlot k (fun d => d.withCoil k c fun r i => .ok (d.modCtx k fun x => x.later 3 4 (.s sd (BitVec.ofNat 64 (d.coilHead r i))))) s
/-- COIL.TPTR (R253): the tail. -/
def execCoilTptr (k : Ctx) (c : Fin 16) (sd : Fin 64) (s : State) : Out :=
  memorySlot k (fun d => d.withCoil k c fun r i => .ok (d.modCtx k fun x => x.later 3 4 (.s sd (BitVec.ofNat 64 (d.coilTail r i))))) s

/-! ### Hitch windows (R256 to R261) -/

/-- Close a window and end its owner's hold of it (R259, R260). -/
def Dev.endWindow (d : Dev) (r i : Nat) : Dev :=
  match sget (fun _ => none) (d.region r).winOwner i with
  | none => d.closeWindow r i
  | some k => (d.closeWindow r i).modCtx k fun c => { c with wins := c.wins.filter fun x => !(x.1 == r && x.2.1 == i) }

/-- Continue with a valid hitch handle: its region and window. -/
def Dev.withWindow (d : Dev) (k : Ctx) (h : Fin 16) (f : Nat → Nat → OpRes) : OpRes :=
  let x := (d.ctx k).getH h
  if hKind x == 2 && hGen x == d.winGen (hRegion x) (hIndex x) then f (hRegion x) (hIndex x) else .faulty 0x5006

/-- HITCH.OPEN (R256, R257, R260). -/
def Dev.hitchOpen (d : Dev) (k : Ctx) (h : Fin 16) (sa : Fin 64) : OpRes :=
  let c := d.ctx k
  let a := (c.getS sa).toNat
  let rd := d.loadByte k
  guardOp (firstRefusal [d.coreAddr k a 32 32, d.storeRead a 32 false])
    (let base := leNat rd a 8
     let len := leNat rd (a + 8) 4
     let rank := leNat rd (a + 12) 2
     let r := regionOf base
     if !d.winMayOpen base len (rd (a + 14)).toNat (rd (a + 15)).toNat (leNat rd (a + 18) 2) (leNat rd (a + 24) 8) then .faulty 0x5009
     else match (upto 256).find? fun i => !d.winOpen r i with
      | none => .faulty 0x5009
      | some i =>
        if !c.rankOk rank then .faulty 0x5005
        else
          let d := (upto 8).foldl (fun d w => d.wr (winBase r i + 4 * w) (BitVec.ofNat 32 (leNat rd (a + 4 * w) 4))) d
          let d := d.openWindow r i c.task false (some k)
          .ok (d.modCtx k fun c => { c with wins := c.wins ++ [(r, i, rank)] }.later 3 4 (.h h (handleOf i r 2 (d.winGen r i)))))

/-- HITCH.OPEN. -/
def execHitchOpen (k : Ctx) (h : Fin 16) (sa : Fin 64) (s : State) : Out := memorySlot k (fun d => d.hitchOpen k h sa) s
/-- HITCH.CLOSE (R259). -/
def execHitchClose (k : Ctx) (h : Fin 16) (s : State) : Out :=
  memorySlot k (fun d => d.withWindow k h fun r i => .ok (d.endWindow r i)) s
/-- HITCH.STAT (R259). -/
def execHitchStat (k : Ctx) (h : Fin 16) (sd : Fin 64) (s : State) : Out :=
  memorySlot k (fun d => d.withWindow k h fun r i =>
    .ok (d.modCtx k fun c => c.later 3 4 (.s sd (BitVec.ofNat 64 (d.rd64 (winBase r i + 0x28)))))) s

/-- The expiry of a window (R256). -/
def Dev.winExpiry (d : Dev) (r i : Nat) : Nat := d.rd64 (winBase r i + 24)

/-- HITCH_EXPIRY (R259): an open window closes once DT has reached its non-zero expiry. -/
def execHitchExpiry (region : Fin 8) (window : Fin 256) (s : State) : Out :=
  event (fun d =>
    if d.winOpen region window && d.winExpiry region window != 0 && decide (d.winExpiry region window ≤ d.dt.toNat)
    then d.endWindow region window else d) s

/-! ### Channels, the short path, knots and belays (R265, R274, R275, R281) -/

/-- Set every reached bit and clear every released bit of a channel (R274). -/
def Dev.resetKnots (d : Dev) (i : Nat) : Dev :=
  let a := aSt (i / 8) (i % 8)
  (upto 8).foldl (fun d j => (d.wr (a + 0x40 + 4 * j) 0xFFFFFFFF).wr (a + 0x60 + 4 * j) 0) d
/-- The reached bit of a knot. -/
def Dev.knotReached (d : Dev) (i k : Nat) : Bool := d.flag (aSt (i / 8) (i % 8) + 0x40 + 4 * (k / 32)) (k % 32)
/-- The released bit of a knot. -/
def Dev.knotReleased (d : Dev) (i k : Nat) : Bool := d.flag (aSt (i / 8) (i % 8) + 0x60 + 4 * (k / 32)) (k % 32)
/-- Set or clear the reached bit of a knot. -/
def Dev.setReached (d : Dev) (i k : Nat) (v : Bool) : Dev := d.putBit (aSt (i / 8) (i % 8) + 0x40 + 4 * (k / 32)) (k % 32) v
/-- Set or clear the released bit of a knot. -/
def Dev.setReleased (d : Dev) (i k : Nat) (v : Bool) : Dev := d.putBit (aSt (i / 8) (i % 8) + 0x60 + 4 * (k / 32)) (k % 32) v

/-- STR.TAKE (R265, R274). -/
def Dev.strTake (d : Dev) (k : Ctx) (q : Fin 8) (sa : Fin 64) : OpRes :=
  let c := d.ctx k
  let x := (c.getS sa).toNat
  let n := field x 2 0
  let i := k.region.val * 8 + n
  let ch := d.chan i
  if field x 5 3 ≠ k.region.val then .faulty 0x2006
  else if (ch.task != c.task && (!ch.holders.isEmpty || !ch.queue.isEmpty)) ||
      !(d.task? c.task).any fun t => t.channels.contains i then .faulty 0x2007
  else
    let d := if ch.task = c.task then d else (d.resetKnots i).modChan i fun ch => { ch with gate := none, remotes := [], nextBlock := 0 }
    let d := d.modChan i fun ch => { ch with task := c.task, holders := if ch.holders.contains k then ch.holders else ch.holders ++ [k] }
    .ok (d.modCtx k fun c =>
      { c with chans := if c.chans.contains n then c.chans else c.chans ++ [n] }.later 3 4 (.q q (handleOf n k.region 3 ch.generation.toNat)))

/-- STR.TAKE. -/
def execStrTake (k : Ctx) (q : Fin 8) (sa : Fin 64) (s : State) : Out := memorySlot k (fun d => d.strTake k q sa) s

/-- Continue with a valid channel handle: region * 8 + channel. -/
def Dev.withChan (d : Dev) (k : Ctx) (q : Fin 8) (f : Nat → OpRes) : OpRes :=
  let h := (d.ctx k).getQ q
  let i := hRegion h * 8 + hIndex h
  if hKind h == 3 && hGen h == (d.chan i).generation.toNat then f i else .faulty 0x2006

/-- STR.DROP (R265). -/
def execStrDrop (k : Ctx) (q : Fin 8) (s : State) : Out :=
  memorySlot k (fun d => d.withChan k q fun i =>
    .ok ((d.dropChan i k).modCtx k fun c => { c with chans := c.chans.filter fun n => n != i % 8 })) s

/-- Whether `n` bytes from `a` cross a 512-byte row boundary. -/
def crossesRow (a n : Nat) : Bool := a / 512 != (a + n - 1) / 512

/-- STR.SHORT (R281). -/
def Dev.strShort (d : Dev) (k : Ctx) (sa sb : Fin 64) : OpRes :=
  let c := d.ctx k
  let src := (c.getS sa).toNat
  let dst := field (c.getS sb).toNat 47 0
  let n := field (c.getS sb).toNat 55 48 + 1
  if 64 ≤ (d.region k.region).shorts.length then .hold { why := .shortQueue, kind := 3, slot := 3 }
  else if src % 4 ≠ 0 || dst % 4 ≠ 0 || n % 4 ≠ 0 || crossesRow src n || crossesRow dst n then .faulty 0x2004
  else if !inStore src || !inStore dst then .faulty 0x2005
  else .ok (d.modRegion k.region fun g =>
    { g with shorts := g.shorts ++ [{ owner := k, task := c.task, src := src, dst := dst, len := n, iat := c.cyc - 1 }] })

/-- STR.SHORT. -/
def execStrShort (k : Ctx) (sa sb : Fin 64) (s : State) : Out := memorySlot k (fun d => d.strShort k sa sb) s

/-- Perform a short-path transfer, with the checks of a core's write (R245, R258, R281). -/
def Dev.shortMove (d : Dev) (x : ShortXfer) : Dev :=
  let w : Writer := .core x.owner x.task
  match firstRefusal [d.storeRead x.src x.len false, d.storeWrite w x.dst x.len false] with
  | some (st, post) => (post x.task d).abortLate x.owner x.task st
  | none => d.windowWrite w x.dst (readBytes (d.rowByte x.owner x.iat) x.src x.len)

/-- SHORT_TRANSFER (R281): the region's short path performs its oldest transfer. -/
def execShortTransfer (region : Fin 8) (s : State) : Out :=
  event (fun d => match (d.region region).shorts with
    | [] => d
    | x :: l => (d.modRegion region fun g => { g with shorts := l }).shortMove x) s

/-- KNOT.REL (R274). -/
def execKnotRel (k : Ctx) (q : Fin 8) (knot : Fin 256) (s : State) : Out :=
  memorySlot k (fun d => d.withChan k q fun i => .ok (d.setReleased i knot true)) s

/-- KNOT.WAIT (R274). -/
def execKnotWait (k : Ctx) (q : Fin 8) (knot : Fin 256) (s : State) : Out :=
  memorySlot k (fun d => d.withChan k q fun i => .ok (d.addHold k { why := .knotWait i knot, kind := 3, slot := 3 })) s

/-- Count one arrival at a belay of a task (R275). -/
def Dev.arrive (d : Dev) (id : W32) (b : Nat) : Dev :=
  d.modTask id fun t => { t with belays := smod (fun _ => 0) t.belays b (· + 1) }

/-- BLY.ARR (R275). -/
def execBlyArr (k : Ctx) (b : Fin 64) (s : State) : Out := memorySlot k (fun d => .ok (d.arrive (d.ctx k).task b)) s

/-- BLY.WAIT (R275): the mark advances when the wait ends. -/
def execBlyWait (k : Ctx) (b sb : Fin 64) (s : State) : Out :=
  memorySlot k (fun d => .ok (d.addHold k { why := .belayWait b (field ((d.ctx k).getS sb).toNat 15 0), kind := 3, slot := 3 })) s

end Sys2Proof.Machine
end

