-- ==== Sys2Proof/Machine/Streams.lean ====
section
/-! DEFINITION. Stream descriptors: their fields, the checks of an arm (R266 to R271, R278, R280, R284 to R297), and the data that each kind
of transfer moves (R182 to R185, R216 to R222, R285 to R297). -/

namespace Sys2Proof.Machine

/-! ### Fields (R266, R268) -/

/-- The number of `n` bytes at offset `o` of a descriptor or record. -/
def Raw.u (x : Raw) (o n : Nat) : Nat := leNat (bytesAt x) o n
/-- The signed number of 4 bytes at offset `o`. -/
def Raw.i (x : Raw) (o : Nat) : Int := signed 32 (x.u o 4)
/-- Kind. -/
def Raw.kind (x : Raw) : Nat := x.u 0 1
/-- Format code under which staging rows are tagged. -/
def Raw.fmt (x : Raw) : Nat := x.u 1 1 % 16
/-- Element size in bytes. -/
def Raw.esz (x : Raw) : Nat := 2 ^ field (x.u 1 1) 5 4
/-- ctl bits: armed, knot_en, belay_en. -/
def Raw.ctl (x : Raw) (i : Nat) : Bool := bit (x.u 2 1) i
/-- Knot. -/
def Raw.knot (x : Raw) : Nat := x.u 3 1
/-- Belay. -/
def Raw.belay (x : Raw) : Nat := x.u 4 1 % 64
/-- Pad mode: 0 none, 1 virtual, 2 materialised. -/
def Raw.padMode (x : Raw) : Nat := x.u 5 1 % 4
/-- Coil use: 0 none, 1 push at the destination, 2 pop at the source. -/
def Raw.coilUse (x : Raw) : Nat := field (x.u 6 2) 13 12
/-- Coil number. -/
def Raw.coil (x : Raw) : Nat := x.u 6 2 % 512
/-- Region of the coil. -/
def Raw.coilRegion (x : Raw) : Nat := field (x.u 6 2) 11 9
/-- Source address. -/
def Raw.src (x : Raw) : Nat := x.u 16 8
/-- Destination field. -/
def Raw.dst (x : Raw) : Nat := x.u 24 8
/-- Whether dst names a staging target (R267). -/
def Raw.staged (x : Raw) : Bool := bit x.dst 63
/-- First staging row of a staging target. -/
def Raw.row (x : Raw) : Nat := x.dst % 512
/-- Global logical core of a staging target. -/
def Raw.target (x : Raw) : Nat := field x.dst 17 9

/-- Rows of a slice of a COPY or TRANSPOSE. -/
def Raw.n1 (x : Raw) : Nat := x.u 36 2 + 1
/-- Slices of a COPY or TRANSPOSE. -/
def Raw.n2 (x : Raw) : Nat := x.u 38 2 + 1
/-- Bytes of the innermost dimension. -/
def Raw.len (x : Raw) : Nat := x.u 32 4
/-- A pad width: 0 pl0, 1 ph0, 2 pl1, 3 ph1; none without padding. -/
def Raw.pad (x : Raw) (i : Nat) : Nat := if x.padMode = 0 then 0 else x.u (12 + i) 1
/-- Bytes of a padded row. -/
def Raw.width (x : Raw) : Nat := (x.pad 0 + x.pad 1) * x.esz + x.len
/-- Rows of a padded slice. -/
def Raw.rows (x : Raw) : Nat := x.pad 2 + x.n1 + x.pad 3
/-- Elements of a row of a TRANSPOSE. -/
def Raw.cols (x : Raw) : Nat := x.len / x.esz

/-- A run of bytes: first address, which a negative stride can take below 0, and length. -/
abbrev Run := Int × Nat

/-- The rows of `n2` slices of `n1` rows of `len` bytes with strides in units of 64 bytes (R285). -/
def strided (base : Nat) (n2 : Nat) (s2 : Int) (n1 : Nat) (s1 : Int) (len : Nat) : List Run :=
  (upto n2).flatMap fun i => (upto n1).map fun j => ((base : Int) + 64 * ((i : Int) * s2 + (j : Int) * s1), len)

/-- The source rows of a COPY or TRANSPOSE. -/
def Raw.srcRows (x : Raw) : List Run := strided x.src x.n2 (x.i 48) x.n1 (x.i 40) x.len
/-- The padded destination rows of a COPY to the data space. -/
def Raw.copyRows (x : Raw) : List Run := strided x.dst x.n2 (x.i 52) x.rows (x.i 44) x.width
/-- The destination rows of a TRANSPOSE to the data space. -/
def Raw.transRows (x : Raw) : List Run := strided x.dst x.n2 (x.i 52) x.cols (x.i 44) (x.n1 * x.esz)
/-- The four counts of a PERMUTE, innermost first. -/
def Raw.count (x : Raw) (i : Nat) : Nat := x.u (32 + 2 * i) 2 + 1
/-- The elements of a PERMUTE in output order: the source address of each (R286). -/
def Raw.permSrc (x : Raw) : List Run :=
  (upto (x.count 3)).flatMap fun i3 => (upto (x.count 2)).flatMap fun i2 => (upto (x.count 1)).flatMap fun i1 => (upto (x.count 0)).map fun i0 =>
    ((x.src : Int) + x.esz * ((i0 : Int) * x.i 40 + (i1 : Int) * x.i 44 + (i2 : Int) * x.i 48 + (i3 : Int) * x.i 52), x.esz)
/-- Bytes that a PERMUTE writes. -/
def Raw.permBytes (x : Raw) : Nat := x.count 0 * x.count 1 * x.count 2 * x.count 3 * x.esz

/-- Whether a run of bytes is mapped (R41, R284). -/
def runMapped (r : Run) : Bool :=
  decide (0 ≤ r.1) && (decide (r.1.toNat + r.2 ≤ storesEnd) || (decide (pilesBase ≤ r.1.toNat) && decide (r.1.toNat + r.2 ≤ pilesEnd)))
/-- The range from the lowest to the highest byte of a list of runs (R287): first address and the address after the last byte. -/
def footprint (rs : List Run) : Option (Int × Int) :=
  (rs.filter fun r => r.2 != 0).foldl (fun o r => some (match o with
    | none => (r.1, r.1 + r.2)
    | some (lo, hi) => (min lo r.1, max hi (r.1 + r.2)))) none
/-- Whether two footprints overlap. -/
def footprintsMeet (a b : List Run) : Bool :=
  match footprint a, footprint b with
  | some (x, y), some (u, v) => decide (x < v) && decide (u < y)
  | _, _ => false

/-! ### Reading and writing data space as a channel -/

/-- Split a range at the boundaries of the units of the data space: region stores and piles. -/
def splitUnits (a n : Nat) : List (Nat × Nat) :=
  let b := if inStore a then 0 else pilesBase
  let u := if inStore a then storeSize else pileSize
  (upto (n / u + 2)).filterMap fun i =>
    let lo := if i = 0 then a else b + ((a - b) / u + i) * u
    let hi := min (a + n) (b + ((a - b) / u + i + 1) * u)
    if lo < hi then some (lo, hi - lo) else none
/-- Whether the pile of an address has failed (R323). -/
def Dev.pileFailed (d : Dev) (a : Nat) : Bool := d.fld (aPl (regionOf a) + rPlState) 2 0 == 5
/-- Whether a run is narrower than whole aligned rows (R243, R245). -/
def narrowRun (a n : Nat) : Bool := a % 512 != 0 || n % 512 != 0
/-- The checks of a read of the data space by a channel or the device. -/
def Dev.dataRead (d : Dev) (a n : Nat) (narrow : Bool) : Refuse :=
  firstRefusal ((splitUnits a n).map fun p => if inStore p.1 then d.storeRead p.1 p.2 narrow
    else firstRefusal [refuseIf (d.pileFailed p.1) 0x8005, d.markRefusal p.1 p.2])
/-- The checks of a write of the data space by a channel. -/
def Dev.dataWrite (d : Dev) (w : Writer) (a n : Nat) (narrow : Bool) : Refuse :=
  firstRefusal ((splitUnits a n).map fun p => if inStore p.1 then d.storeWrite w p.1 p.2 narrow else refuseIf (d.pileFailed p.1) 0x8005)
/-- Perform a checked write to the data space and count it in its window. -/
def Dev.putData (d : Dev) (w : Writer) (a : Nat) (bs : List Byte) : Dev :=
  if inStore a then d.windowWrite w a bs else d.writeBytes a bs

/-! ### Targets (R267, R280) -/

/-- The context of a task on a global logical core, while the slot holds it. -/
def Dev.taskCtx (d : Dev) (t : Task) (core : Nat) : Option Ctx :=
  match t.places[t.cores.idxOf core]? with
  | none => none
  | some k => if t.cores.contains core && (d.ctx? k).any fun c => c.task == t.id then some k else none

/-- The target cores of a BEAM. -/
def Raw.beamTargets (x : Raw) : List Nat :=
  (upto 8).flatMap fun r => if bit (x.u 12 1) r then (upto 36).filterMap fun l => if bit (x.u 36 5) l then some (36 * r + l) else none else []

/-! ### Layer records (R212 to R214) -/

/-- The effective mode of a layer snapshot (R214). -/
def Raw.layerMode (x : Raw) : Nat := if x.u 32 1 = 2 && bit (x.u 35 1) 0 then x.u 33 1 else x.u 32 1
/-- The snapshot of a layer record in a task's binding. -/
def Task.layer? (t : Task) (a : Nat) : Option Raw := (t.layers.find? fun p => p.1 == a).map fun p => p.2

/-! ### The checks of an arm (R269, R271) -/

/-- Whether the fields that every kind shares lie outside the ranges of R266. -/
def Raw.commonBad (x : Raw) : Bool :=
  let pad := x.u 5 1
  let coil := x.u 6 2
  let hasSrc := x.kind != 11 && x.coilUse != 2
  let hasDst := x.kind != 9 && x.kind != 11 && x.coilUse != 1
  x.kind == 0 || decide (12 < x.kind) || decide (63 < x.u 1 1) || field (x.u 1 1) 5 4 == 3 || x.fmt == 14 ||
  decide (7 < x.u 2 1) || decide (63 < x.u 4 1) || pad % 4 == 3 || decide (1 < pad / 4) ||
  field coil 13 12 == 3 || decide (2 ^ 14 ≤ coil) ||
  (if hasSrc then decide (2 ^ 48 ≤ x.src) else x.src != 0) ||
  (if !hasDst then x.dst != 0 else if x.staged then field x.dst 62 18 != 0 else decide (2 ^ 48 ≤ x.dst)) ||
  (pad != 0 && x.kind != 1) || (pad % 4 == 1 && !x.staged) || (pad % 4 == 2 && x.staged) ||
  (field pad 3 2 == 1 && decide (6 < x.fmt)) ||
  !(x.coilUse == 0 || x.kind == 1 || (x.kind == 4 && x.coilUse == 1))

/-- Whether the fields of its kind lie outside the ranges of R268. -/
def Raw.kindBad (x : Raw) : Bool :=
  match x.kind with
  | 1 => x.len == 0 || decide (2 ^ 24 < x.len) || (x.staged && (x.u 44 4 != 0 || x.u 52 4 != 0))
  | 2 => x.u 12 4 != 0 || x.len == 0 || decide (2 ^ 24 < x.len) || x.len % (64 * x.esz) != 0 || x.n1 % 64 != 0 ||
      (x.staged && (x.u 44 4 != 0 || x.u 52 4 != 0))
  | 3 => x.u 12 4 != 0
  | 4 => x.u 12 4 != 0 || decide (2 ^ 24 < x.u 40 4) || x.u 52 4 % 64 != 0 || x.u 52 4 == 0 || decide (65536 < x.u 52 4)
  | 5 => x.u 12 4 != 0 || x.u 44 1 == 0 || decide (16 < x.u 44 1) || x.u 45 11 != 0 || x.staged
  | 6 => x.u 12 4 != 0 || decide (1024 < x.u 40 2 + 1) || decide (64 < x.u 42 1 + x.u 43 1 + 1) || x.u 44 12 != 0
  | 7 => x.u 12 4 != 0 || decide (1024 < x.u 40 2 + 1) || decide (64 < x.u 42 1 + x.u 43 1 + 1) || x.u 44 12 != 0
  | 8 => x.u 12 4 != 0 || x.u 48 8 != 0
  | 9 => x.u 12 4 != 0 || x.u 48 8 != 0
  | 10 => x.u 13 3 != 0 || x.u 32 4 == 0 || decide (512 < x.u 32 4) || decide (15 < x.u 40 1) || x.u 41 15 != 0 ||
      (x.staged && x.target != 0)
  | 11 => decide (x.u 12 1 < 2) || decide (4 < x.u 12 1) || x.u 13 3 != 0 ||
      (upto 4).any fun i => decide (x.u 12 1 ≤ i) && x.u (32 + 6 * i) 6 != 0
  | _ => decide (x.u 12 1 < 12) || decide (24 < x.u 12 1) || x.u 13 1 != 0 || x.u 14 2 == 0 || x.u 40 4 == 0 ||
      decide (2 ^ 20 < x.u 40 4) || x.u 44 12 != 0 || x.staged

/-- The addresses of a kind that must be multiples of 64 (R284, R294). -/
def Raw.addresses (x : Raw) : List Nat :=
  (if x.kind = 11 || x.coilUse = 2 then [] else [x.src]) ++
  (if x.staged || x.kind = 9 || x.kind = 11 || x.coilUse = 1 then [] else [x.dst]) ++
  match x.kind with | 4 => [x.u 32 8] | 5 => [x.u 32 8] | 8 => [x.u 32 8] | 9 => [x.u 40 8] | _ => []
/-- The activity list address, which must be a multiple of 512 (R294). -/
def Raw.activityList (x : Raw) : Option Nat := match x.kind with | 8 => some (x.u 40 8) | 9 => some (x.u 32 8) | _ => none

/-- The runs that must be mapped, as far as an arm can tell (R284). -/
def Raw.armRuns (x : Raw) : List Run :=
  let dst (rs : List Run) : List Run := if x.staged || x.coilUse = 1 then [] else rs
  match x.kind with
  | 1 => (if x.coilUse = 2 then [] else x.srcRows) ++ dst x.copyRows
  | 2 => x.srcRows ++ dst x.transRows
  | 3 => x.permSrc ++ dst [((x.dst : Int), x.permBytes)]
  | 4 => ((x.src : Int), 1) :: ((x.u 32 8 : Int), 4 * x.u 40 4) :: dst [((x.dst : Int), 1)]
  | 5 => [((x.src : Int), 1), ((x.u 32 8 : Int), 4 * x.u 40 4), ((x.dst : Int), 64)]
  | 6 => [((x.src : Int), 64)]
  | 7 => ((x.src : Int), 64) :: dst [((x.dst : Int), 1)]
  | 8 => ((x.src : Int), 64) :: dst [((x.dst : Int), 1)]
  | 9 => [((x.src : Int), 64)]
  | 10 => [((x.src : Int), 512 * x.u 32 4)]
  | 12 => [((x.src : Int), 16), ((x.dst : Int), x.u 36 4 * 2 ^ x.u 12 1)]
  | _ => []

/-- Whether an address of the descriptor lies outside the space that its field requires (R284, R294, R296). -/
def Raw.spaceBad (x : Raw) : Bool :=
  (x.armRuns.any fun r => !runMapped r) ||
  match x.kind with
  | 5 => !inStore x.dst
  | 6 => !x.staged
  | 8 => !inStore x.src || !inStore (x.u 32 8) || !inStore (x.u 40 8)
  | 9 => !inStore x.src || !inStore (x.u 32 8) || !inStore (x.u 40 8)
  | 10 => !x.staged
  | 12 => !inPile x.src
  | _ => false

/-- Bytes of an addend of an accumulator type. -/
def addendBytes (type : Nat) : Nat := if type ≤ 1 then 4 else 2

/-- The bytes of a coil's buffer that a stream of `n` bytes occupies from its count `c` on, as the pointers stand at the arm (R287, R289; log 70). -/
def Dev.coilRuns (d : Dev) (x : Raw) (c n : Nat) : List Run :=
  let size := d.coilSize x.coilRegion x.coil
  let m := min n (size - c % size)
  [((d.coilAddr x.coilRegion x.coil c : Int), m), ((d.coilAddr x.coilRegion x.coil (c + m) : Int), n - m)]

/-- Whether the ends of a transfer overlap against R287. -/
def Dev.overlaps (d : Dev) (x : Raw) (self : Nat) : Bool :=
  let rd := d.byte
  let me : Run := ((self : Int), 64)
  let toData := !x.staged && x.coilUse != 1
  let pushed (n : Nat) : List Run := d.coilRuns x (d.coilTail x.coilRegion x.coil) n
  match x.kind with
  | 1 => !x.staged && !(x.n1 == 1 && x.n2 == 1) &&
      footprintsMeet (if x.coilUse = 2 then d.coilRuns x (d.coilHead x.coilRegion x.coil) (x.n1 * x.n2 * x.len) else x.srcRows)
        (if x.coilUse = 1 then pushed (x.n2 * x.rows * x.width) else x.copyRows)
  | 2 => toData && footprintsMeet x.srcRows x.transRows &&
      !(x.src == x.dst && x.n1 == x.cols && x.i 40 == x.i 44 && x.i 48 == x.i 52)
  | 3 => toData && footprintsMeet x.permSrc [((x.dst : Int), x.permBytes)]
  | 4 => !x.staged &&
      (let out : List Run := if x.coilUse = 1 then pushed (x.u 40 4 * x.u 52 4) else [((x.dst : Int), x.u 40 4 * x.u 52 4)]
       footprintsMeet out [((x.u 32 8 : Int), 4 * x.u 40 4)] || footprintsMeet out [me] ||
       (decide (x.u 44 4 ≤ x.u 48 4) &&
         footprintsMeet out [((x.src + x.u 44 4 * x.u 52 4 : Nat), (x.u 48 4 + 1 - x.u 44 4) * x.u 52 4)]))
  | 5 =>
    let out : List Run := [((leNat rd x.dst 8 : Int), leNat rd (x.dst + 8) 4 * accBytes (rd (x.dst + 12)).toNat)]
    footprintsMeet out [((x.u 32 8 : Int), 4 * x.u 40 4)] || footprintsMeet out [me] ||
      footprintsMeet out [((x.src : Int), x.u 40 4 * (64 * ceilDiv (x.u 44 1 * addendBytes (rd (x.dst + 12)).toNat) 64))]
  | _ => false

/-- Whether a coil that a descriptor names is unusable: COIL_CONFIG, then COIL_RANGE for the length of a COPY (R289). -/
def Dev.descCoil (d : Dev) (x : Raw) : Refuse :=
  let n := if x.coilUse = 2 then x.n1 * x.n2 * x.len else x.n2 * x.rows * x.width
  if x.coilUse = 0 then none
  else firstRefusal [refuseIf (!d.coilEnabled x.coilRegion x.coil) 0x5007,
    refuseIf (x.kind == 1 && (n % 4 != 0 || decide (d.coilSize x.coilRegion x.coil < n))) 0x5008]

/-- Whether the destination of a REMOTE lies whole in one open window of the task that admits its channels (R297). -/
def Dev.remoteWin (d : Dev) (id : W32) (x : Raw) : Bool :=
  let n := x.u 36 4 * 2 ^ x.u 12 1
  let r := regionOf x.dst
  inStore x.dst && (upto 256).any fun k => d.winOpen r k && d.winOwnerTask r k == id && bit (d.winWriters r k) 1 &&
    decide (d.winAddr r k ≤ x.dst) && decide (x.dst + n ≤ d.winAddr r k + d.winLen r k)

/-- The checks of one descriptor that is no BRAID, in the order STREAM_DESC, STREAM_ALIGN, STREAM_RANGE, STAGE_TARGET, coil, OVERLAP and the
rest (log 14); `self` is its address and `i` the channel. -/
def Dev.stageCheck (d : Dev) (i self : Nat) (t : Task) (x : Raw) : Refuse :=
  firstRefusal [
    refuseIf (self % 64 != 0 || !inStoreOf (i / 8) self 64 || x.commonBad || x.kindBad) 0x2003,
    refuseIf ((x.addresses.any fun a => a % 64 != 0) || x.activityList.any fun a => a % 512 != 0) 0x2004,
    refuseIf x.spaceBad 0x2005,
    refuseIf ((x.kind == 8 || x.kind == 9) && (t.layer? x.src).isNone) 0x2003,
    refuseIf (if x.kind = 10 then x.beamTargets.any fun c => (d.taskCtx t c).isNone else x.staged && (d.taskCtx t x.target).isNone) 0x2009,
    d.descCoil x,
    if x.kind = 5 then firstRefusal [d.dataRead x.dst 64 false, refuseIf (x.dst % 64 != 0 || !accOk d.byte x.dst) 0x500B] else none,
    refuseIf (d.overlaps x self) 0x2002,
    refuseIf (x.kind == 12 && !d.remoteWin t.id x) 0x500A]

/-- The stage addresses of a BRAID. -/
def Raw.stages (x : Raw) : List Nat := (upto (x.u 12 1)).map fun i => x.u (32 + 6 * i) 6
/-- The bytes of a descriptor in memory. -/
def Dev.rawAt (d : Dev) (a : Nat) : Raw := readBytes d.byte a 64

/-- The data-space runs that a stage writes, as far as its descriptor gives them. -/
def Raw.writes (x : Raw) : List Run :=
  if x.staged then []
  else match x.kind with
    | 1 => x.copyRows
    | 2 => x.transRows
    | 3 => [((x.dst : Int), x.permBytes)]
    | 4 => [((x.dst : Int), x.u 40 4 * x.u 52 4)]
    | _ => []
/-- The range that an EXPAND writes to the data space: it depends on the format of the tensor record (R293). -/
def Dev.expandRuns (d : Dev) (x : Raw) : List Run :=
  let w := elemBits (d.byte (x.src + 56)).toNat
  let T := x.u 40 2 + 1
  (upto (x.u 43 1 + 1)).map fun (i : Nat) => (((x.dst + 512 * i * ceilDiv (64 * T * w) 4096 : Nat) : Int), 8 * T * w)

/-- The range that a stage writes. -/
def Dev.stageWrites (d : Dev) (x : Raw) : List Run := if x.kind = 7 && !x.staged then d.expandRuns x else x.writes

/-! ### What a transfer moves -/

/-- Staging bytes that a transfer writes: the core, the first row, the bytes and the format code under which each row is tagged. -/
structure StageOut where
  region : Nat
  core : Nat
  row : Nat
  bytes : List Byte
  tags : List Nat
  deriving DecidableEq, Repr

/-- A transfer: the ranges it reads, the data-space bytes it writes in order, its staging bytes, and what it counts. -/
structure Moved where
  reads : List (Nat × Nat) := []
  /-- what the device itself reads for the task, over the row path where it must (R245) -/
  own : List (Nat × Nat) := []
  /-- every access is a narrow one, whatever its extent (R243, R286) -/
  narrow : Bool := false
  out : List (Nat × List Byte) := []
  stage : List StageOut := []
  /-- a status that its data raises -/
  bad : Option Status := none
  /-- indices dropped (R290, R291) -/
  drops : Nat := 0
  /-- the range_drops field of an accumulator descriptor -/
  dropField : Option Nat := none
  popFixes : Nat := 0
  prefixFixes : Nat := 0
  adds : List Addition := []
  close : Option (Nat × Nat × Nat) := none
  /-- bytes that wait in a coil's buffer for the push -/
  push : Nat := 0
  deriving DecidableEq, Repr

/-- Staging bytes as whole rows, the last one filled with zeros (R295), for the target of a descriptor, tagged under one code. -/
def Dev.stageOut (d : Dev) (t : Task) (core row fmt : Nat) (bs : List Byte) : List StageOut :=
  match d.taskCtx t core with
  | none => []
  | some k => [{ region := k.region, core := k.core, row := row, bytes := bs, tags := List.replicate (ceilDiv bs.length 512) fmt }]

/-- Data written at count `c` onward of a coil's buffer, wrapping at its end (R253, R289). -/
def Dev.coilCells (d : Dev) (r i c : Nat) (bs : List Byte) : List (Nat × List Byte) :=
  let size := d.coilSize r i
  let n := size - c % size
  [(d.coilAddr r i c, bs.take n), (d.coilAddr r i (c + n), bs.drop n)].filter fun p => !p.2.isEmpty

/-- Send a contiguous stream of bytes to a descriptor's destination: staging, a coil, or the data space at dst. -/
def Dev.streamTo (d : Dev) (t : Task) (x : Raw) (bs : List Byte) : Moved :=
  if x.coilUse = 1 then
    { out := d.coilCells x.coilRegion x.coil (d.coilTail x.coilRegion x.coil) bs, push := bs.length
      bad := if bs.length % 4 != 0 || decide (d.coilSize x.coilRegion x.coil < bs.length) then some 0x5008 else none }
  else if x.staged then { stage := d.stageOut t x.target x.row x.fmt bs }
  else if runMapped ((x.dst : Int), bs.length) then { out := [(x.dst, bs)] }
  else { bad := some 0x2005 }

/-- The bytes of a run. -/
def Dev.run (d : Dev) (r : Run) : List Byte := readBytes d.byte r.1.toNat r.2
/-- Runs as natural ranges, for the checks of a read. -/
def natRuns (rs : List Run) : List (Nat × Nat) := rs.map fun r => (r.1.toNat, r.2)

/-- The element that padding writes (R288): zero, or the negative extreme of fmt, repeated to the element size. -/
def Raw.padElem (x : Raw) : List Byte :=
  let v := if field (x.u 5 1) 3 2 = 0 then 0
    else match x.fmt with
      | 0 => 0x80808080 | 1 => 0x88888888 | 2 => 0xFEFEFEFE | 3 => 0xFCFCFCFC | 4 => 0xFC00FC00 | 5 => 0xFF80FF80 | _ => 0xFF800000
  leBytes v x.esz
/-- `n` pad elements. -/
def Raw.padBytes (x : Raw) (n : Nat) : List Byte := (List.replicate n x.padElem).flatten

/-- The source rows of a COPY as bytes, slice by slice: from memory, or from the coil's head (R285, R289). -/
def Dev.copySource (d : Dev) (x : Raw) : List (List (List Byte)) :=
  (upto x.n2).map fun i => (upto x.n1).map fun j =>
    if x.coilUse = 2 then
      let c := d.coilHead x.coilRegion x.coil + (i * x.n1 + j) * x.len
      (upto x.len).map fun b => d.byte (d.coilAddr x.coilRegion x.coil (c + b))
    else d.run ((x.src : Int) + 64 * ((i : Int) * x.i 48 + (j : Int) * x.i 40), x.len)

/-- COPY (R285, R288). -/
def Dev.moveCopy (d : Dev) (t : Task) (x : Raw) : Moved :=
  let src := d.copySource x
  let reads := if x.coilUse = 2 then
      (let r := d.coilCells x.coilRegion x.coil (d.coilHead x.coilRegion x.coil) (List.replicate (x.n1 * x.n2 * x.len) 0)
       r.map fun p => (p.1, p.2.length))
    else natRuns x.srcRows
  if x.staged || x.coilUse = 1 then
    let row (b : List Byte) : List Byte := x.padBytes (x.pad 0) ++ b ++ x.padBytes (x.pad 1)
    let blank : List Byte := if x.padMode = 0 then [] else (row (List.replicate x.len 0)).mapIdx fun i _ => nth x.padElem (i % x.esz) 0
    let slice (rs : List (List Byte)) : List Byte :=
      (List.replicate (x.pad 2) blank).flatten ++ rs.flatMap row ++ (List.replicate (x.pad 3) blank).flatten
    { d.streamTo t x (src.flatMap slice) with reads := reads }
  else
    let at_ (i j : Nat) : Nat := ((x.dst : Int) + 64 * ((i : Int) * x.i 52 + (j : Int) * x.i 44)).toNat
    let pads := if x.padMode = 0 then []
      else (upto x.n2).flatMap fun i => (upto x.rows).flatMap fun j =>
        let fill (n : Nat) : List Byte := (upto n).map fun b => nth x.padElem (b % x.esz) 0
        if j < x.pad 2 || x.pad 2 + x.n1 ≤ j then [(at_ i j, fill x.width)]
        else [(at_ i j, fill (x.pad 0 * x.esz)), (at_ i j + x.pad 0 * x.esz + x.len, x.padBytes (x.pad 1))]
    let valid := src.zipIdx.flatMap fun s => s.1.zipIdx.map fun r => (at_ s.2 (x.pad 2 + r.2) + x.pad 0 * x.esz, r.1)
    { reads := reads, out := (pads ++ valid).filter fun p => !p.2.isEmpty }

/-- TRANSPOSE (R286): output row c holds element c of every input row. -/
def Dev.moveTranspose (d : Dev) (t : Task) (x : Raw) : Moved :=
  let rowOut (i c : Nat) : List Byte := (upto x.n1).flatMap fun j =>
    d.run ((x.src : Int) + 64 * ((i : Int) * x.i 48 + (j : Int) * x.i 40) + c * x.esz, x.esz)
  let rows := (upto x.n2).flatMap fun (i : Nat) => (upto x.cols).map fun (c : Nat) =>
    (((x.dst : Int) + 64 * ((i : Int) * x.i 52 + (c : Int) * x.i 44)).toNat, rowOut i c)
  if x.staged then { d.streamTo t x (rows.flatMap fun r => r.2) with reads := natRuns x.srcRows }
  else { reads := natRuns x.srcRows, out := rows }

/-- PERMUTE (R286). -/
def Dev.movePermute (d : Dev) (t : Task) (x : Raw) : Moved :=
  { d.streamTo t x (x.permSrc.flatMap d.run) with reads := natRuns x.permSrc, narrow := true }

/-- GATHER (R290): an index outside the range is dropped, or aborts a strict task. -/
def Dev.moveGather (d : Dev) (t : Task) (x : Raw) : Moved :=
  let li := x.u 32 8
  let n := x.u 40 4
  let rb := x.u 52 4
  let ix := (upto n).map (listEntry d.byte li)
  let ok := ix.filter fun i => decide (x.u 44 4 ≤ i) && decide (i ≤ x.u 48 4)
  let runs : List Run := ok.map fun i => (((x.src + i * rb : Nat) : Int), rb)
  if t.strict && ok.length != n then { reads := [(li, 4 * n)], bad := some 0x4001 }
  else if runs.any fun r => !runMapped r then { reads := [(li, 4 * n)], bad := some 0x2005, drops := n - ok.length }
  else { d.streamTo t x (runs.flatMap d.run) with reads := (li, 4 * n) :: natRuns runs, drops := n - ok.length }

/-- SCATTER_ADD (R291). -/
def Dev.moveScatter (d : Dev) (i : Nat) (t : Task) (x : Raw) : Moved :=
  let li := x.u 32 8
  let n := x.u 40 4
  let E := x.u 44 1
  let acc := x.dst
  let type := (d.byte (acc + 12)).toNat
  let base := leNat d.byte acc 8
  let entries := leNat d.byte (acc + 8) 4
  let s := addendBytes type
  let step := 64 * ceilDiv (E * s) 64
  let js := (upto n).map fun j => (j, listEntry d.byte li j)
  let ok := js.filter fun p => decide (E * p.2 + E ≤ entries)
  let adds := ok.flatMap fun p => (upto E).map fun (e : Nat) =>
    ({ owner := none, chan := some i, task := t.id, entry := base + (E * p.2 + e) * accBytes type, type := type,
       addend := BitVec.ofNat 32 (leNat d.byte (x.src + p.1 * step + e * s) s), desc := acc } : Addition)
  let reads := [(li, 4 * n)]
  let own := [(acc, 64)]
  if t.strict && ok.length != n then { own := own, reads := reads, bad := some 0x500B }
  else if ok.any fun p => !runMapped (((x.src + p.1 * step : Nat) : Int), E * s) then { own := own, reads := reads, bad := some 0x2005 }
  else { own := own, reads := reads ++ ok.map (fun p => (x.src + p.1 * step, E * s)), adds := adds, drops := n - ok.length, dropField := some (acc + 24) }

/-! ### Bitmap-packed tensors (R174 to R185) -/

/-- A tile as a channel reads it: its header fields and its 64 segments, each a bitmap and the address of its values. -/
structure Tile where
  pop : Nat
  fmt : Nat
  reserved : Nat
  bodyLen : Nat
  start : Nat
  bodyOff : Nat
  body : Nat
  segs : List (Nat × Nat)
  /-- bytes that the segments require -/
  need : Nat
  deriving DecidableEq, Repr

/-- The segments of a tile body (R177): bitmap and value address of each, and the bytes they take. -/
def tileSegs (rd : Nat → Byte) (w body : Nat) : List (Nat × Nat) × Nat :=
  let r := (upto 64).foldl (fun (p : List (Nat × Nat) × Nat) _ =>
    let bm := leNat rd (body + p.2) 8
    ((bm, body + p.2 + 8) :: p.1, p.2 + 8 + 8 * ceilDiv (w * popcount 64 bm) 64)) ([], 0)
  (r.1.reverse, r.2)

/-- The tile with number `n` of the tensor whose record is `x` (R176). -/
def tileAt (rd : Nat → Byte) (x : Raw) (n : Nat) : Tile :=
  let h := x.u 0 8 + 16 * n
  let off := leNat rd (h + 12) 4
  let body := x.u 8 8 + 64 * off
  let (segs, need) := tileSegs rd (elemBits (x.u 56 1 % 16)) body
  { pop := leNat rd h 2, fmt := leNat rd (h + 2) 1, reserved := leNat rd (h + 3) 1, bodyLen := leNat rd (h + 4) 2,
    start := leNat rd (h + 6) 6, bodyOff := off, body := body, segs := segs, need := need }

/-- The stored values of a tile: the count of R183. -/
def Tile.count (t : Tile) : Nat := t.segs.foldl (fun n s => n + popcount 64 s.1) 0

/-- Pack values of `w` bits into whole bytes. -/
def packBits (w : Nat) (vs : List Nat) : List Byte :=
  let s := (vs.foldl (fun (p : Nat × Nat) v => (p.1 + v % 2 ^ w * 2 ^ (w * p.2), p.2 + 1)) (0, 0)).1
  leBytes s (ceilDiv (w * vs.length) 8)

/-- The stored values of row `r` of a tile. -/
def Tile.values (t : Tile) (rd : Nat → Byte) (w r : Nat) : List Nat :=
  let (bm, a) := nth t.segs r (0, 0)
  (upto (popcount 64 bm)).map fun j => packedBits rd a w j

/-- The 64 columns of row `r` of a tile, zero where the bitmap bit is 0. -/
def Tile.dense (t : Tile) (rd : Nat → Byte) (w r : Nat) : List Nat :=
  let (bm, a) := nth t.segs r (0, 0)
  (upto 64).map fun c => if bit bm c then packedBits rd a w (popcount c bm) else 0

/-- Pad bytes with zeros to a multiple of `n`. -/
def padTo (n : Nat) (bs : List Byte) : List Byte := bs ++ List.replicate (ceilDiv bs.length n * n - bs.length) 0

/-- The tiles of a band (R183, R292): tiles b to b + T - 1 of tile row a. -/
def bandTiles (rd : Nat → Byte) (x : Raw) (a b T : Nat) : List Tile :=
  (upto T).map fun t => tileAt rd x (a * ceilDiv (x.u 44 4) 64 + b + t)

/-- Blocks of stored values of row `r` in the tiles of a run (R179), for runs of 1,024 tiles. -/
def rowBlocks (ts : List (Nat × Tile)) (r : Nat) : Nat :=
  let runs := (ts.map fun p => p.1 / 1024).eraseDups
  runs.foldl (fun n q => n + ceilDiv ((ts.filter fun p => p.1 / 1024 == q).foldl (fun n p => n + popcount 64 (nth p.2.segs r (0, 0)).1) 0) 32) 0

/-- Whether a band breaks R185. -/
def bandBad (x : Raw) (b T : Nat) (ts : List Tile) : Bool :=
  let f := x.u 56 1
  (ts.any fun t => t.fmt != f || decide (12 < t.fmt) || t.reserved != 0 || decide (t.bodyLen * 64 < t.need)) ||
  (isMx f && (64 * b % 65536 != 0 || (64 * (b + T) % 65536 != 0 && decide (64 * (b + T) < x.u 44 4))))

/-- The headers of a band as corrected under R183 and R184: pop and start of each tile, and the two counts of corrections. -/
def fixHeaders : Option (Nat × Nat) → List Tile → List (Nat × Nat) × Nat × Nat
  | _, [] => ([], 0, 0)
  | last, t :: ts =>
    let c := t.count
    let p := match last with | none => t.start | some (s, n) => (s + n) % 2 ^ 48
    let (hs, x, y) := fixHeaders (some (p, c)) ts
    ((c, p) :: hs, x + (if c = t.pop then 0 else 1), y + (if p = t.start then 0 else 1))

/-- The first correction that a band needs, as the status that stops a strict task (R208): of one tile, the population comes first. -/
def firstFix : Option (Nat × Nat) → List Tile → Option Status
  | _, [] => none
  | last, t :: ts =>
    let p := match last with | none => t.start | some (s, n) => (s + n) % 2 ^ 48
    if t.count ≠ t.pop then some 0x4003 else if p ≠ t.start then some 0x4004 else firstFix (some (p, t.count)) ts

/-- The ranges that reading a band touches. -/
def bandReads (src : Nat) (x : Raw) (a b T : Nat) (ts : List Tile) : List (Nat × Nat) :=
  (src, 64) :: (x.u 0 8 + 16 * (a * ceilDiv (x.u 44 4) 64 + b), 16 * T) :: ts.map fun t => (t.body, 64 * t.bodyLen)

/-- The parts of the staged row form of a band (R182): bytes, and the format code that each 64-byte unit asks for its row. -/
def stagedForm (rd : Nat → Byte) (x : Raw) (ts : List Tile) (a b r0 h : Nat) (hs : List (Nat × Nat)) (skip : Nat → Nat) : List Byte × List Nat :=
  let f := x.u 56 1
  let w := elemBits f
  let mx := isMx f
  let T := ts.length
  let headers := padTo 64 ((ts.zip hs).flatMap fun p =>
    leBytes p.2.1 2 ++ leBytes f 1 ++ leBytes 0 1 ++ leBytes p.1.bodyLen 2 ++ leBytes p.2.2 6 ++ leBytes p.1.bodyOff 4)
  let W := 64 * ceilDiv T 8
  let rows := (upto h).map fun i => r0 + i
  let bitmaps := rows.flatMap fun r => padTo W (ts.flatMap fun t => leBytes (nth t.segs r (0, 0)).1 8)
  let scales := rows.map fun r =>
    if mx then
      let n := rowBlocks (ts.zipIdx.map fun p => (b + p.2, p.1)) r
      padTo 64 (readBytes rd (x.u 32 8 + leNat rd (x.u 24 8 + 8 * (64 * a + r)) 8 + skip r) n)
    else []
  let values := rows.map fun r => padTo 64 (packBits w (ts.flatMap fun t => t.values rd w r))
  let pops := rows.map fun r => ts.foldl (fun n t => n + popcount 64 (nth t.segs r (0, 0)).1) 0
  let tableLen := 64 * ceilDiv h 4
  let s0 := headers.length + tableLen + bitmaps.length
  let v0 := s0 + (scales.map List.length).sum
  let offs (base : Nat) (ls : List (List Byte)) (i : Nat) : Nat := base + ((ls.take i).map List.length).sum
  let table := padTo 64 ((upto h).flatMap fun i =>
    leBytes (offs v0 values i) 4 ++ leBytes (nth pops i 0) 4 ++ leBytes (if mx then offs s0 scales i else 0) 4 ++ leBytes 0 4)
  let bs := headers ++ table ++ bitmaps ++ scales.flatten ++ values.flatten
  (bs, (upto (bs.length / 64)).map fun u => if 64 * u < s0 then 15 else if 64 * u < v0 then 13 else f)

/-- The ranges that reading the scales of a band touches (R179): `skip` blocks of a row stand in earlier bands. -/
def scaleReads (rd : Nat → Byte) (x : Raw) (ts : List Tile) (a b r0 h : Nat) (skip : Nat → Nat) : List (Nat × Nat) :=
  if isMx (x.u 56 1) then
    (upto h).flatMap fun i =>
      let n := rowBlocks (ts.zipIdx.map fun p => (b + p.2, p.1)) (r0 + i)
      let p := x.u 24 8 + 8 * (64 * a + (r0 + i))
      if n = 0 then [] else [(p, 8), (x.u 32 8 + leNat rd p 8 + skip (r0 + i), n)]
  else []

/-- The tag code of each row from those of its 64-byte units: the row is tagged for the last part that it holds (log 15). -/
def rowCodes (us : List Nat) : List Nat :=
  (upto (ceilDiv us.length 8)).map fun r => ((us.drop (8 * r)).take 8).getLastD 15

/-- TILE_UNPACK (R182 to R185, R292, R208). -/
def Dev.moveUnpack (d : Dev) (t : Task) (x : Raw) : Moved :=
  let rec_ : Raw := readBytes d.byte x.src 64
  let a := x.u 32 4
  let b := x.u 36 4
  let T := x.u 40 2 + 1
  let ts := bandTiles d.byte rec_ a b T
  let (hs, pops, pres) := fixHeaders none ts
  let earlier (r : Nat) : Nat := if b = 0 || !isMx (rec_.u 56 1) then 0
    else rowBlocks ((bandTiles d.byte rec_ a 0 b).zipIdx.map fun p => (p.2, p.1)) r
  let reads := bandReads x.src rec_ a b T ts ++ scaleReads d.byte rec_ ts a b (x.u 42 1) (x.u 43 1 + 1) earlier
  let (bs, us) := stagedForm d.byte rec_ ts a b (x.u 42 1) (x.u 43 1 + 1) hs earlier
  if reads.any fun r => !runMapped ((r.1 : Int), r.2) then { bad := some 0x2005 }
  else if 12 < rec_.u 56 1 || bandBad rec_ b T ts then { reads := reads, bad := some 0x4005 }
  else if t.strict && (firstFix none ts).isSome then { reads := reads, bad := firstFix none ts }
  else
    { reads := reads, popFixes := pops, prefixFixes := pres
      stage := (d.stageOut t x.target x.row 15 bs).map fun s => { s with tags := rowCodes us } }

/-- EXPAND (R293). -/
def Dev.moveExpand (d : Dev) (t : Task) (x : Raw) : Moved :=
  let rec_ : Raw := readBytes d.byte x.src 64
  let a := x.u 32 4
  let b := x.u 36 4
  let T := x.u 40 2 + 1
  let f := rec_.u 56 1
  let w := elemBits f
  let ts := bandTiles d.byte rec_ a b T
  let reads := bandReads x.src rec_ a b T ts
  let rows := (upto (x.u 43 1 + 1)).map fun i => packBits w (ts.flatMap fun t => t.dense d.byte w (x.u 42 1 + i))
  let step := 512 * ceilDiv (64 * T * w) 4096
  if reads.any fun r => !runMapped ((r.1 : Int), r.2) then { bad := some 0x2005 }
  else if 6 < f || bandBad rec_ b T ts then { reads := reads, bad := some 0x4005 }
  else if x.staged then { d.streamTo t x (rows.flatMap (padTo step)) with reads := reads }
  else
    let out := rows.zipIdx.map fun p => (x.dst + p.2 * step, p.1)
    if out.any fun p => !runMapped ((p.1 : Int), p.2.length) then { reads := reads, bad := some 0x2005 } else { reads := reads, out := out }

/-! ### Activity transfers (R216 to R222) -/

/-- The audit remainder of a Beacon pass (R219). -/
def auditRest (t : Task) (l : Raw) : Nat :=
  (flicker t.seed (BitVec.ofNat 32 (l.u 44 4)) (BitVec.ofNat 64 (l.u 42 2)) 0).toNat % 2 ^ l.u 34 1

/-- The fetched neurons of a pass, ascending, each with its audit_only bit, and the capped count (R216, R218, R219). -/
def fetchedSet (rd : Nat → Byte) (t : Task) (l : Raw) (B : Nat) : List (Nat × Bool) × Nat :=
  let N := l.u 8 4
  let set (j : Nat) : Bool := bit (rd (B + j / 8)).toNat (j % 8)
  match l.layerMode with
  | 0 => ((upto N).map fun j => (j, false), 0)
  | 1 => (((upto N).filter set).map fun j => (j, false), 0)
  | _ =>
    let bits := (upto N).filter set
    let P := bits.take (l.u 24 4)
    let rho := auditRest t l
    let F := 2 ^ l.u 34 1
    (((upto N).filter fun j => P.contains j || j % F == rho).map fun j => (j, !P.contains j), bits.length - P.length)

/-- ACT_FETCH (R216 to R219, R294). -/
def Dev.moveFetch (d : Dev) (t : Task) (x : Raw) : Moved :=
  let l := (t.layer? x.src).getD []
  let B := x.u 32 8
  let li := x.u 40 8
  let N := l.u 8 4
  let mode := l.layerMode
  let (fs, capped) := fetchedSet d.byte t l B
  let only := (fs.filter fun p => p.2).length
  let list := leBytes mode 4 ++ leBytes fs.length 4 ++ leBytes only 4 ++ leBytes capped 4 ++
    fs.flatMap fun p => leBytes (p.1 + if p.2 then 2 ^ 31 else 0) 4
  let at_ (j : Nat) : Nat := l.u 0 8 + j * l.u 12 4
  let parts : List Run := fs.map fun p =>
    if mode = 1 then (((at_ p.1 + l.u 16 4 : Nat) : Int), l.u 20 4) else (((at_ p.1 : Nat) : Int), l.u 16 4 + l.u 20 4)
  let reads := if mode = 0 then [] else [(B, ceilDiv N 8)]
  if !(inOneStore li list.length) || (mode != 0 && !inOneStore B (ceilDiv N 8)) then { bad := some 0x2005 }
  else if parts.any fun r => !runMapped r then { reads := reads, bad := some 0x2005 }
  else
    let m := d.streamTo t x (parts.flatMap d.run)
    { m with reads := reads ++ natRuns parts, out := (li, list) :: m.out }

/-- ACT_CLOSE (R222): what the close finds; the record is written when the descriptor completes. -/
def Dev.moveClose (d : Dev) (t : Task) (x : Raw) : Moved :=
  let l := (t.layer? x.src).getD []
  let li := x.u 32 8
  let ob := x.u 40 8
  let n := leNat d.byte (li + 4) 4
  let ents := (upto n).filter fun i => bit (leNat d.byte (li + 16 + 4 * i) 4) 31
  let miss := ents.filter fun i => bit (d.byte (ob + i / 8)).toNat (i % 8)
  let reads := [(li, 16 + 4 * n), (ob, ceilDiv n 8)]
  if reads.any fun r => !inOneStore r.1 r.2 then { bad := some 0x2005 }
  else { reads := reads, close := if l.layerMode = 2 then some (ents.length, miss.length, leNat d.byte (li + 12) 4) else none }

/-- BEAM (R280). -/
def Dev.moveBeam (d : Dev) (t : Task) (x : Raw) : Moved :=
  let n := 512 * x.u 32 4
  { reads := [(x.src, n)], stage := x.beamTargets.flatMap fun c => d.stageOut t c x.row x.fmt (readBytes d.byte x.src n) }

/-- What one descriptor that is no BRAID and no REMOTE moves. -/
def Dev.moved (d : Dev) (i : Nat) (t : Task) (x : Raw) : Moved :=
  match x.kind with
  | 1 => d.moveCopy t x
  | 2 => d.moveTranspose t x
  | 3 => d.movePermute t x
  | 4 => d.moveGather t x
  | 5 => d.moveScatter i t x
  | 6 => d.moveUnpack t x
  | 7 => d.moveExpand t x
  | 8 => d.moveFetch t x
  | 9 => d.moveClose t x
  | 10 => d.moveBeam t x
  | _ => {}

/-! ### Braids and arms (R270, R271, R278) -/

/-- The data-space runs that a stage reads, as the memory stands at the arm (R278; log 70): for a GATHER its list and the range that its bounds
allow, and otherwise every range that the transfer would read. -/
def Dev.stageReads (d : Dev) (t : Task) (x : Raw) : List Run :=
  match x.kind with
  | 1 => x.srcRows
  | 2 => x.srcRows
  | 4 => ((x.u 32 8 : Int), 4 * x.u 40 4) ::
      (if x.u 44 4 ≤ x.u 48 4 then [((x.src + x.u 44 4 * x.u 52 4 : Nat), (x.u 48 4 + 1 - x.u 44 4) * x.u 52 4)] else [])
  | 10 => [((x.src : Int), 512 * x.u 32 4)]
  | _ => ((d.moved 0 t x).reads).map fun p => ((p.1 : Int), p.2)

/-- The checks of a BRAID (R278). -/
def Dev.braidCheck (d : Dev) (i self : Nat) (t : Task) (x : Raw) : Refuse :=
  let xs := x.stages.map d.rawAt
  let pairs := xs.zip (xs.drop 1)
  let meet (p : Raw × Raw) : Bool :=
    match footprint (d.stageWrites p.1), footprint (d.stageReads t p.2) with
    | some (a, b), some (u, v) => a == u && b == v && decide (0 ≤ a) && inOneStore a.toNat (b - a).toNat
    | _, _ => false
  firstRefusal ([
    refuseIf (self % 64 != 0 || !inStoreOf (i / 8) self 64 || x.commonBad || x.kindBad) 0x2003,
    refuseIf (1 < i % 8) 0x2008,
    refuseIf (x.stages.any fun a => a % 64 != 0 || !inStoreOf (i / 8) a 64) 0x2003,
    firstRefusal (x.stages.map fun a => d.storeRead a 64 false),
    refuseIf (xs.any fun y => !([1, 2, 4, 6, 7, 10].contains y.kind) || y.u 2 1 != 0 || y.coilUse != 0 || y.u 8 4 != 0) 0x2003] ++
    (x.stages.zip xs).map (fun p => d.stageCheck i p.1 t p.2) ++ [refuseIf (!pairs.all meet) 0x2003])

/-- The checks of an accepted arm (R269, R271). -/
def Dev.armCheck (d : Dev) (i self : Nat) (t : Task) (x : Raw) : Refuse :=
  if x.kind = 11 then d.braidCheck i self t x else d.stageCheck i self t x

/-- STR.ISSUE (R270, R271). -/
def Dev.strIssue (d : Dev) (k : Ctx) (q : Fin 8) (sa : Fin 64) : OpRes :=
  d.withChan k q fun i =>
    let c := d.ctx k
    let a := (c.getS sa).toNat
    let st := aSt (i / 8) (i % 8)
    if 64 ≤ (d.chan i).queue.length then .hold { why := .chanQueue i, kind := 3, slot := 3 }
    else guardOp (firstRefusal [refuseIf (a % 64 != 0 || !inStoreOf (i / 8) a 64) 0x2003, d.storeRead a 64 false])
      (let x := d.rawAt a
       let counted := cellsAt (a + 58) (leBytes (x.u 58 2 + 1) 2)
       if x.ctl 0 then
         guardOp (d.storeWrite (.chan c.task) (a + 58) 2 false)
           (.ok (((d.writeCells counted).inc64 (st + rStRearms) 1).setBit (st + rStSticky) 0))
       else
         let t := (d.task? c.task).getD { id := c.task }
         guardOp (firstRefusal [d.armCheck i a t x, d.storeWrite (.chan c.task) (a + 2) 1 false, d.storeWrite (.chan c.task) (a + 58) 2 false])
           (let d := d.writeCells ((a + 2, d.byte (a + 2) ||| 1) :: counted)
            let d := if x.ctl 1 then d.setReached i x.knot false else d
            .ok (d.modChan i fun ch => { ch with queue := ch.queue ++ [{ addr := a, raw := d.rawAt a, task := c.task, owner := k }] })))

/-- STR.ISSUE. -/
def execStrIssue (k : Ctx) (q : Fin 8) (sa : Fin 64) (s : State) : Out := memorySlot k (fun d => d.strIssue k q sa) s

/-! ### Performing a transfer -/

/-- The checks of what a transfer reads and writes as its beats reach the memories (R247, R249, R258, R295). -/
def Moved.checks (m : Moved) (d : Dev) (w : Writer) : Refuse :=
  firstRefusal ((m.own.map fun p => d.dataRead p.1 p.2 false) ++
    (m.reads.map fun p => d.dataRead p.1 p.2 (m.narrow || narrowRun p.1 p.2)) ++
    [m.bad.map fun st => (st, noPost)] ++
    (m.out.map fun p => d.dataWrite w p.1 p.2.length (m.narrow || narrowRun p.1 p.2.length)) ++
    [match m.dropField with | some a => if m.drops = 0 then none else d.dataWrite w a 8 false | none => none] ++
    [refuseIf (m.stage.any fun s => (d.core s.region s.core).anyPinned (spanRows s.row (ceilDiv s.bytes.length 512))) 0x3004])

/-- Bytes that a transfer writes. -/
def Moved.bytes (m : Moved) : Nat :=
  m.out.foldl (fun n p => n + p.2.length) 0 + m.stage.foldl (fun n s => n + 512 * ceilDiv s.bytes.length 512) 0 +
    m.adds.foldl (fun n a => n + accBytes a.type) 0

/-- Write staging rows as a channel (R295): whole rows, tagged under their codes. -/
def Dev.putStageRows (d : Dev) (s : StageOut) : Dev :=
  d.modCore s.region s.core fun co =>
    let co := co.setStage (512 * s.row) (padTo 512 s.bytes)
    (spanRows s.row s.tags.length).zip s.tags |>.foldl (fun co p => co.tagRow p.1 p.2) co

/-- Perform a checked transfer of channel `i` and count it (R209, R210, R290, R291, R301). -/
def Dev.perform (d : Dev) (i : Nat) (w : Writer) (m : Moved) : Dev :=
  let st := aSt (i / 8) (i % 8)
  let rn := aRn (i / 8)
  let d := m.out.foldl (fun d p => (splitUnits p.1 p.2.length).foldl (fun d q =>
    d.putData w q.1 ((p.2.drop (q.1 - p.1)).take q.2)) d) d
  let d := m.stage.foldl Dev.putStageRows d
  let d := match m.dropField with | none => d | some a => d.bumpField a m.drops
  let d := m.adds.foldl Dev.queueAddition d
  let d := if m.drops = 0 then d else (d.inc64 (st + rStRangeDrops) m.drops).setBit (st + rStSticky) 1
  let d := if m.popFixes = 0 then d else (d.inc64 (rn + rRnSpPopFixes) m.popFixes).setBit (rn + rRnSpSticky) 0
  let d := if m.prefixFixes = 0 then d else (d.inc64 (rn + rRnSpPrefixFixes) m.prefixFixes).setBit (rn + rRnSpSticky) 1
  d.inc64 (st + rStBytes) m.bytes

end Sys2Proof.Machine
end

