-- ==== Sys2Proof/Machine/StreamRun.lean ====
section
/-! DEFINITION. Stream channels at work: the start and the completion of descriptors (R272 to R279, R289, R297, R298), remote blocks (R297,
R423), and the layer boundary (R223). -/

namespace Sys2Proof.Machine

/-- Change the descriptors of a channel that have the address `a` and satisfy a test. -/
def Dev.modDesc (d : Dev) (i a : Nat) (f : Desc → Desc) : Dev :=
  d.modChan i fun ch => { ch with queue := ch.queue.map fun x => if x.addr = a then f x else x }

/-! ### Remote blocks (R296, R297, R423) -/

/-- An owner-table entry that may be used (R296): its session and offset. -/
def Dev.ownerEntry (d : Dev) (a : Nat) : Option (Nat × Nat) :=
  let s := leNat d.byte a 2
  let f := (d.byte (a + 2)).toNat
  if f = 1 && leNat d.byte (a + 3) 5 == 0 && (decide (s < 4096) || s == 0xFFFF) && leNat d.byte (a + 8) 8 % 64 == 0
  then some (s, leNat d.byte (a + 8) 8) else none

/-- The DREAD that asks for a block (R421, R423). -/
def dreadBody (a n : Nat) : List Byte := leBytes a 8 ++ leBytes n 4 ++ leBytes 0 4

/-- Start the blocks of a REMOTE that may start: at most 8 in flight; `fuel` bounds the blocks. -/
def Dev.remoteFetch (i : Nat) (x : Desc) : Nat → Dev → Dev
  | 0, d => d
  | fuel + 1, d =>
    let ch := d.chan i
    let r := x.raw
    let n := 2 ^ r.u 12 1
    let b := r.u 32 4 + ch.nextBlock
    let dst := r.dst + ch.nextBlock * n
    if r.u 36 4 ≤ ch.nextBlock || 8 ≤ ch.remotes.length then d
    else if r.u 40 4 ≤ b then d.chanFault i x.task 0x200A
    else match (if runMapped (((r.src + 16 * b : Nat) : Int), 16) then d.dataRead (r.src + 16 * b) 16 false else some (0x2005, noPost)) with
      | some (st, post) => (post x.task d).chanFault i x.task st
      | none =>
        match d.ownerEntry (r.src + 16 * b) with
        | none => d.chanFault i x.task 0x200A
        | some (s, off) =>
          let d := d.modChan i fun ch => { ch with nextBlock := ch.nextBlock + 1 }
          if s = 0xFFFF then
            let m : Moved := if runMapped ((off : Int), n) then { reads := [(off, n)], out := [(dst, readBytes d.byte off n)] } else { bad := some 0x2005 }
            match m.checks d (.chan x.task) with
            | some (st, post) => (post x.task d).chanFault i x.task st
            | none => ((d.perform i (.chan x.task) m).modDesc i x.addr fun y => { y with bytes := y.bytes + n }).remoteFetch i x fuel
          else if (d.session s).state ≠ 2 then d.chanFault i x.task 0x200B
          else
            let q := (d.session s).txSeq
            let d := d.sendSeq s 0x22 (dreadBody off n)
            (d.modChan i fun ch => { ch with remotes := ch.remotes ++
              [{ block := b, dst := dst, left := n, session := s, seq := q.toNat, limit := d.dt + BitVec.ofNat 64 (1000 * r.u 14 2) }] }).remoteFetch i x fuel

/-- A REMOTE has been moved once every block has arrived. -/
def Dev.remoteSettle (d : Dev) (i : Nat) (x : Desc) : Dev :=
  let d := d.remoteFetch i x (x.raw.u 36 4)
  let ch := d.chan i
  if x.raw.u 36 4 ≤ ch.nextBlock && ch.remotes.isEmpty then d.modDesc i x.addr fun y => { y with moved := true } else d

/-- The REMOTE in service at a channel. -/
def Channel.remote (ch : Channel) : Option Desc := ch.queue.find? fun x => x.started && !x.moved && x.raw.kind == 12

/-- Drop a block that has arrived or failed. -/
def Dev.dropRemote (d : Dev) (i : Nat) (r : RemoteBlock) : Dev := d.modChan i fun ch => { ch with remotes := ch.remotes.filter fun y => y != r }

/-- A response segment for a remote block (R423): written into the window as a write of the channel; poisoned words stay poisoned (R425). -/
def Dev.remoteSegment (d : Dev) (i : Nat) (x : Desc) (r : RemoteBlock) (status off : Nat) (data : List Byte) (poison : List Nat) : Dev :=
  let w : Writer := .chan x.task
  let a := r.dst + off
  if status ≠ 0 then (d.dropRemote i r).chanFault i x.task 0x200B
  else match d.dataWrite w a data.length (narrowRun a data.length) with
    | some (st, post) => (post x.task d).chanFault i x.task st
    | none =>
      let d := poison.foldl (fun d p => d.setMark (a + 4 * p) 1) (d.putData w a data)
      let d := (d.inc64 (aSt (i / 8) (i % 8) + rStBytes) data.length).modDesc i x.addr fun y => { y with bytes := y.bytes + data.length }
      if r.left ≤ data.length then (d.dropRemote i r).remoteSettle i x
      else d.modChan i fun ch => { ch with remotes := ch.remotes.map fun y => if y = r then { y with left := y.left - data.length } else y }

/-- The limit of a remote block expires (R297). -/
def Dev.remoteLate (d : Dev) (i : Nat) (block : Nat) : Dev :=
  match (d.chan i).remote, (d.chan i).remotes.find? fun r => r.block == block with
  | some x, some r => if r.limit.toNat ≤ d.dt.toNat then d.chanFault i x.task 0x200B else d
  | _, _ => d

/-- REMOTE_LIMIT_EXPIRY (R297). -/
def execRemoteLimitExpiry (region channel : Fin 8) (block : Nat) (s : State) : Out :=
  event (fun d => d.remoteLate (region.val * 8 + channel.val) block) s

/-! ### Start (R273, R274, R289) -/

/-- Whether the coil that a transfer names lets it start (R289): no earlier push of the channel to that coil is still to take effect. A transfer
that faults waits for nothing. -/
def Dev.coilStarts (d : Dev) (ch : Channel) (x : Desc) (m : Moved) : Bool :=
  let r := x.raw
  if m.bad.isSome then true
  else if r.coilUse = 1 then
    decide (d.coilReadable r.coilRegion r.coil + m.push ≤ d.coilSize r.coilRegion r.coil) &&
    !(ch.queue.any fun y => y.started && y.raw.coilUse == 1 && y.raw.coil == r.coil && y.raw.coilRegion == r.coilRegion)
  else if r.coilUse = 2 then decide (r.n1 * r.n2 * r.len ≤ d.coilReadable r.coilRegion r.coil)
  else true

/-- Mark a descriptor as started (R274): it consumes the released bit that gated it, and its own knot gates the next. -/
def Dev.markStarted (d : Dev) (i : Nat) (x : Desc) : Dev :=
  let d := match (d.chan i).gate with | none => d | some k => d.setReleased i k false
  (d.modChan i fun ch => { ch with gate := if x.raw.ctl 1 then some x.raw.knot else none, nextBlock := 0 }).modDesc i x.addr
    fun y => { y with started := true }

/-- A channel whose region is in fixed-pipeline mode reaches its own region store only (R241). -/
def Dev.chanReach (d : Dev) (i : Nat) (m : Moved) : Refuse :=
  refuseIf ((d.region (i / 8)).fixedPipe && ((m.own ++ m.reads).any (fun p => !inStoreOf (i / 8) p.1 p.2) ||
    m.out.any fun p => !inStoreOf (i / 8) p.1 p.2.length)) 0x5002

/-- Perform the stages of a transfer in order: one, or those of a BRAID (R278, R279). -/
def Dev.runStages (i : Nat) (t : Task) (x : Desc) : List Raw → Dev → Dev
  | [], d => d.modDesc i x.addr fun y => { y with moved := true }
  | r :: rs, d =>
    let m := d.moved i t r
    let w : Writer := .chan t.id
    match firstRefusal [d.chanReach i m, m.checks d w] with
    | some (st, post) => (post t.id d).chanFault i t.id st
    | none =>
      let d := d.perform i w m
      let d := if r.coilUse = 2 then d.coilAdvance false r.coilRegion r.coil (r.n1 * r.n2 * r.len) else d
      (d.modDesc i x.addr fun y => { y with bytes := y.bytes + m.bytes, close := m.close, push := m.push }).runStages i t x rs

/-- Whether the stream channels are stopped: from the entry into Pilot to the end of the wake (R502), and in Safe Hold (R475). -/
def Dev.chansStopped (d : Dev) : Bool := decide (3 ≤ d.fld (aPw + rPwState) 2 0)

/-- Start the next queued descriptor of a channel, once the previous one has issued its last beat, the knot that gates it is released and
its coil has room or data. A task ends with DONE only once its descriptors have completed (R53), and an abort cancels them (R298), so the task of
a queued descriptor is always there. -/
def Dev.descStart (d : Dev) (i : Nat) : Dev :=
  let ch := d.chan i
  match ch.queue.find? fun x => !x.started with
  | none => d
  | some x =>
    if ch.queue.any (fun y => y.started && !y.moved) || !(match ch.gate with | none => true | some k => d.knotReleased i k) ||
        (d.region (i / 8)).gated || d.chansStopped then d
    else
      match d.task? x.task with
      | none => d
      | some t =>
        if x.raw.kind = 12 then (d.markStarted i x).remoteSettle i { x with started := true }
        else if x.raw.kind = 11 then (d.markStarted i x).runStages i t x (x.raw.stages.map d.rawAt)
        else if d.coilStarts ch x (d.moved i t x.raw) then (d.markStarted i x).runStages i t x [x.raw]
        else d

/-- DESC_START (R273). -/
def execDescStart (region channel : Fin 8) (s : State) : Out := event (fun d => d.descStart (region.val * 8 + channel.val)) s

/-! ### Completion (R272) -/

/-- Whether an addition of channel `i` is still to be performed. -/
def Dev.chanAdds (d : Dev) (i : Nat) : Bool := d.regions.any fun g =>
  (g.2.queues.any fun q => q.2.any fun a => a.chan == some i) || g.2.crossbar.any fun a => a.chan == some i

/-- What an activity close writes into its layer record (R222): the last_* fields, and state bit 1 by whether it is flagged. -/
def Dev.closeCells (d : Dev) (a : Nat) (n miss capped : Nat) (flagged : Bool) : List (Nat × Byte) :=
  (a + 35, (d.byte (a + 35) &&& 0xFD) ||| (if flagged then 2 else 0)) :: cellsAt (a + 48) (leBytes n 4 ++ leBytes miss 4 ++ leBytes capped 4)

/-- The record update and the counters of an activity close (R222, R229). -/
def Dev.closeLayer (d : Dev) (i : Nat) (t : Task) (x : Desc) : Dev :=
  let a := x.raw.src
  let rn := aRn (i / 8)
  let thr := ((t.layer? a).getD []).u 36 2
  let d := d.inc64 (rn + rRnBcPasses) 1
  match x.close with
  | none => d.modTask t.id fun t => { t with closures := t.closures ++ [⟨a, false, i / 8⟩] }
  | some (n, miss, capped) =>
    let flagged := decide (miss * 2 ^ 16 > thr * n)
    let cells := d.closeCells a n miss capped flagged
    let d := (d.writeCells cells).countCells (d.hitchCells (.chan t.id) cells).2 cells.length
    let d := ((d.inc64 (rn + rRnBcAudited) n).inc64 (rn + rRnBcMisses) miss).inc64 (rn + rRnBcCapped) capped
    let d := if flagged then d.setBit (rn + rRnBcSticky) 0 else d
    let d := if capped = 0 then d else d.setBit (rn + rRnBcSticky) 1
    d.modTask t.id fun t => { t with closures := t.closures ++ [⟨a, flagged, i / 8⟩] }

/-- The checks of the device's writes when a descriptor completes (R245, R247, R249, R258): to the layer record of an activity close, which it
reads whole (R215), and to the descriptor. -/
def Dev.completeCheck (d : Dev) (x : Desc) : Refuse :=
  let w : Writer := .chan x.task
  firstRefusal [
    if x.raw.kind = 9 && x.close.isSome then firstRefusal [d.storeRead x.raw.src 64 false, d.cellsCheck w (d.closeCells x.raw.src 0 0 0 false) false]
    else none,
    d.cellsCheck w (d.descCells x.addr 0 x.bytes) false]

/-- Complete the oldest descriptor of a channel, in the order of R272. -/
def Dev.descComplete (d : Dev) (i : Nat) : Dev :=
  match (d.chan i).queue with
  | [] => d
  | x :: l =>
    if !x.moved || d.chanAdds i then d
    else match d.completeCheck x with
    | some (st, post) => (post x.task d).chanFault i x.task st
    | none =>
      let r := x.raw
      let d := match r.kind, d.task? x.task with | 9, some t => d.closeLayer i t x | _, _ => d
      let d := if r.coilUse = 1 then d.coilAdvance true r.coilRegion r.coil x.push else d
      let d := d.descWrite x.task x.addr 0 x.bytes
      let d := if r.ctl 1 then d.setReached i r.knot true else d
      let d := if r.ctl 2 then d.arrive x.task r.belay else d
      (d.inc64 (aSt (i / 8) (i % 8) + rStDescs) 1).modChan i fun ch => { ch with queue := l }

/-- DESC_COMPLETE (R272). -/
def execDescComplete (region channel : Fin 8) (s : State) : Out := event (fun d => d.descComplete (region.val * 8 + channel.val)) s

/-! ### The layer boundary (R223) -/

/-- What one transition writes into a layer record (R223), and the fallbacks that it counts. -/
def Dev.layerChange (d : Dev) (t : Task) (c : Closure) : List (Nat × Byte) × Nat :=
  let l := (t.layer? c.layer).getD []
  let a := c.layer
  let st := d.byte (a + 35)
  let left := leNat d.byte (a + 40) 2
  let setLeft (n : Nat) : List (Nat × Byte) := cellsAt (a + 40) (leBytes n 2)
  if l.layerMode = 2 then
    if !c.flagged then ([], 0)
    else if bit st.toNat 0 then (setLeft (l.u 38 2), 0)
    else ((a + 35, st ||| 1) :: setLeft (l.u 38 2) ++ cellsAt (a + 60) (leBytes (satTo 32 (leNat d.byte (a + 60) 4 + 1)) 4), 1)
  else if l.u 32 1 = 2 && bit st.toNat 0 then
    let n := (left + 2 ^ 16 - 1) % 2 ^ 16
    ((a + 35, if n = 0 then st &&& 0xFE else st) :: setLeft n, 0)
  else ([], 0)

/-- One transition of a layer record (R223) for context `k`, as one indivisible access at its bank (R215), with the checks of a write that the
device makes for a task (R245, R249, R258). -/
def Dev.layerStep (d : Dev) (k : Ctx) (t : Task) (c : Closure) : Dev :=
  let (cells, fallbacks) := d.layerChange t c
  let w : Writer := .core k t.id
  if cells.isEmpty then d
  else match firstRefusal [d.storeRead c.layer 64 false, d.cellsCheck w cells false] with
    | some (st, post) => (post t.id d).abortLate k t.id st
    | none =>
      ((d.writeCells cells).countCells (d.hitchCells w cells).2 cells.length).inc64 (aRn c.region + rRnBcFallbacks) fallbacks

/-- The layer boundary at a DRAIN of context `k`: the transition of every activity close of its task since the last one, in order. -/
def Dev.layerBoundary (d : Dev) (k : Ctx) : Dev :=
  match d.task? (d.ctx k).task with
  | none => d
  | some t => (t.closures.foldl (fun e c => if (e.task? t.id).isSome then e.layerStep k t c else e) d).modTask t.id fun t => { t with closures := [] }

end Sys2Proof.Machine
end

