-- ==== Sys2Proof/Machine/CtxImage.lean ====
section
/-! DEFINITION. Context images (R123 to R131): the bytes of an image, CSAVE, and the state that a restore gives a context. -/

namespace Sys2Proof.Machine

/-- Length of a context image of `n` ranks (R126). -/
def imageLength (n : Nat) : Nat := 136 + 37760 * n

/-- A list of byte groups padded with zeros to `n` bytes. -/
def padZero (n : Nat) (bs : List Byte) : List Byte := (bs ++ List.replicate n 0).take n

/-- The control section of a rank (R126): the stacks stand outermost entry first. -/
def Context.controlBytes (c : Context) : List Byte :=
  leBytes c.pc 4 ++ leBytes c.loops.length 1 ++ leBytes c.calls.length 1 ++ leBytes 0 2 ++
  padZero 128 (c.loops.reverse.flatMap fun e => leBytes e.start 4 ++ leBytes e.stop 4 ++ leBytes e.left 8) ++
  padZero 64 (c.calls.reverse.flatMap fun x => leBytes x 4) ++ leBytes c.step.toNat 8 ++ leBytes 0 48

/-- The sections of an image of a task's contexts, in rank order (R126). -/
def imageSections (cs : List Context) : List Byte :=
  (cs.flatMap fun c => c.controlBytes) ++
  (cs.flatMap fun c => (upto 64).flatMap fun j => leBytes (c.getS (Fin.ofNat 64 j)).toNat 8) ++
  ((upto 64).flatMap fun j => cs.flatMap fun c => (upto 64).flatMap fun l => leBytes (c.lane (Fin.ofNat 64 j) l).toNat 4) ++
  ((upto 16).flatMap fun j => cs.flatMap fun c => leBytes (c.getM (Fin.ofNat 16 j)).toNat 8) ++
  ((upto 8).flatMap fun j => cs.flatMap fun c => (upto 64).flatMap fun l => leBytes (nth (c.shownW j) l Window.zero).recordBits 32) ++
  ((upto 32).flatMap fun j => cs.flatMap fun c => (c.getT (Fin.ofNat 32 j)).record)


/-- BXOACTX and 0x00. -/
def magicCtx : List Byte := magicBytes [0x42, 0x58, 0x4F, 0x41, 0x43, 0x54, 0x58, 0]

/-- The context image of a task (R125, R126). -/
def Task.imageBytes (t : Task) (cs : List Context) : List Byte :=
  let n := cs.length
  let bs := magicCtx ++ leBytes 2 2 ++ leBytes 64 2 ++ leBytes n 4 ++ leBytes t.program.toNat 8 ++ leBytes (imageLength n) 8 ++
    leBytes t.savedAt.toNat 8 ++ leBytes t.seed.toNat 16 ++ leBytes t.stream.toNat 4 ++ leBytes 0 68 ++ imageSections cs
  bs ++ leBytes (crc64 bs) 8

/-- Write the image once every rank has executed CSAVE (R123). -/
def Dev.csaveWrite (d : Dev) (k : Ctx) (t : Task) : OpRes :=
  let bs := t.imageBytes (t.places.map fun p => d.ctx p)
  let w := d.asWriter k
  guardOp (d.dataWrite w t.csaveAddr bs.length false)
    (.ok ((d.putData w t.csaveAddr bs).modTask t.id fun t => { t with csaves := [] }))

/-- CSAVE on the device (R123): the address of rank 0 counts. -/
def Dev.csave (d : Dev) (k : Ctx) (sa : Fin 64) : OpRes :=
  let c := d.ctx k
  let a := (c.getS sa).toNat
  match d.task? c.task with
  | none => .ok d
  | some t =>
    let n := t.cores.length
    if !c.chunks.isEmpty then .faulty 0x3005
    else if c.rank = 0 && a % 64 != 0 then .faulty 0x2004
    else if c.rank = 0 && !runMapped ((a : Int), imageLength n) then .faulty 0x2005
    else
      let d := d.modTask t.id fun t =>
        { t with csaves := if t.csaves.contains c.rank then t.csaves else c.rank :: t.csaves
                 csaveAddr := if c.rank = 0 then a else t.csaveAddr
                 savedAt := if c.rank = 0 then d.dt else t.savedAt }
      let d := d.addHold k { why := .csave, kind := 3, slot := 3 }
      match d.task? t.id with
      | none => .ok d
      | some t => if t.csaves.length = n then d.csaveWrite k t else .ok d

/-- CSAVE (R123). -/
def execCsave (k : Ctx) (sa : Fin 64) (s : State) : Out := memorySlot k (fun d => d.csave k sa) s

/-! ### Restoring (R129, R131) -/

/-- What rank `r` takes from an image of `n` ranks whose bytes `rd` reads (R126, R129): every item of R100 but the handles. -/
def Context.restored (c : Context) (rd : Nat → Byte) (n r : Nat) : Context :=
  let ctl := 128 + 256 * r
  let scalar := 128 + 256 * n
  let vector := 128 + 768 * n
  let mask := 128 + 17152 * n
  let window := 128 + 17280 * n
  let total := 128 + 33664 * n
  { c with
    s := (upto 64).map fun j => BitVec.ofNat 64 (leNat rd (scalar + (r * 64 + j) * 8) 8)
    v := (upto 64).map fun j => (upto 64).map fun l => BitVec.ofNat 32 (leNat rd (vector + (j * 64 * n + r * 64 + l) * 4) 4)
    m := (upto 16).map fun j => BitVec.ofNat 64 (leNat rd (mask + j * 8 * n + r * 8) 8)
    w := (upto 8).map fun j => (upto 64).map fun l => Window.ofRecordBits (leNat rd (window + (j * 64 * n + r * 64 + l) * 32) 32)
    t := (upto 32).map fun j => LongTotal.ofRecord rd (total + (j * n + r) * 128)
    pc := leNat rd ctl 4 % 2 ^ 14
    loops := ((upto (rd (ctl + 4)).toNat).map fun i =>
      { start := leNat rd (ctl + 8 + 16 * i) 4, stop := leNat rd (ctl + 12 + 16 * i) 4, left := leNat rd (ctl + 16 + 16 * i) 8 : LoopEntry }).reverse
    calls := ((upto (rd (ctl + 5)).toNat).map fun i => leNat rd (ctl + 136 + 4 * i) 4).reverse
    step := BitVec.ofNat 64 (leNat rd (ctl + 200) 8) }

end Sys2Proof.Machine
end

