-- ==== Sys2Proof/Machine/Exec.lean ====
section
/-! DEFINITION. The events of contexts: results becoming visible (R96), the ends of holds (R106, R107, R115), context switches (R110 to
R114), binding (R108, R109, R122, R129, R131), and the end of a slot. -/

namespace Sys2Proof.Machine

/-- FIXED_RESULT_VISIBLE (R96, R97): the results due at the issue cycle that a context reaches next are in its registers. -/
def Dev.resultsVisible (d : Dev) (k : Ctx) : Dev :=
  let i := (d.ctx k).cyc
  (d.settleSst k i).modCtx k fun c => c.settle i

/-- FIXED_RESULT_VISIBLE. -/
def execFixedResultVisible (k : Ctx) (s : State) : Out := event (fun d => d.resultsVisible k) s

/-! ### The ends of holds (R106, R107) -/

/-- Whether an addition of a context waits in some conflict queue or crossbar (R200). -/
def Dev.addsOf (d : Dev) (k : Ctx) : Bool := d.regions.any fun p =>
  (p.2.queues.any fun q => q.2.any fun x => x.owner == some k) || p.2.crossbar.any fun x => x.owner == some k

/-- Whether a descriptor that a context armed is still in some queue. -/
def Dev.descsOf (d : Dev) (k : Ctx) : Bool := d.chans.any fun p => p.2.queue.any fun x => x.owner == k && x.task == (d.ctx k).task

/-- Whether a short-path transfer of a context is still to be performed. -/
def Dev.shortsOf (d : Dev) (k : Ctx) : Bool := (d.region k.region).shorts.any fun x => x.owner == k

/-- Whether a store of a context is still in its core's queue. -/
def Dev.storesOf (d : Dev) (k : Ctx) : Bool := (d.core k.region k.core).storeQ.any fun e => e.slot == k.slot.val

/-- The work that DRAIN awaits has completed (R107). -/
def Dev.drained (d : Dev) (k : Ctx) : Bool :=
  let c := d.ctx k
  (c.holds.all fun h => h.why == .drain) && !d.storesOf k && !d.addsOf k && c.xfers.isEmpty && !d.shortsOf k && !d.descsOf k &&
    !(c.closing.any fun g => g.replay) && !(c.pend.any fun p => p.wait == 5) && c.plaits.isEmpty

/-- Whether the condition that a hold awaits holds (R106). -/
def Dev.holdDone (d : Dev) (k : Ctx) (h : Hold) : Bool :=
  let c := d.ctx k
  let co := d.core k.region k.core
  match h.why with
  | .metered => true
  | .scatter => !d.addsOf k
  | .result => h.kind == 2 || (c.unarrived c.cyc).all fun p => p.wait != h.kind
  | .storeQueue => !co.queueFull
  | .stageRow rows => !(rows.any fun r => c.rowsAwaited.contains r)
  | .arrayBusy => co.replaying == none || co.replaying == some k.slot.val
  | .chanQueue ch => decide ((d.chan ch).queue.length < 64)
  | .shortQueue => decide ((d.region k.region).shorts.length < 64)
  | .plaitRoom n => c.plaits.all fun o => o.seq != n
  | .replay w => !c.replays w
  | .rowWait => c.xfers.isEmpty
  | .coilWait r i need => decide (need ≤ d.coilReadable r i)
  | .knotWait ch n => d.knotReached ch n
  | .belayWait b n => decide (n ≤ sget (fun _ => 0) (((d.task? c.task).map fun t => t.belays).getD []) b - sget (fun _ => 0) c.marks b)
  | .drain => d.drained k
  | .csave => !((d.task? c.task).any fun t => t.csaves.contains c.rank)

/-- What the end of a hold does: bank-conflicted data arrives, a belay mark advances (R275), and a DRAIN is a layer boundary (R223). -/
def Dev.holdEffect (d : Dev) (k : Ctx) (h : Hold) : Dev :=
  match h.why with
  | .result =>
    if h.kind = 2 then d.modCtx k fun c =>
      { c with pend := c.pend.map fun p => if p.wait = 2 && decide (p.due ≤ c.cyc) then { p with wait := 0 } else p }
    else d
  | .belayWait b n => d.modCtx k fun c => { c with marks := smod (fun _ => 0) c.marks b (· + n) }
  | .drain => d.layerBoundary k
  | _ => d

/-- The end of hold `i` of a context once its condition holds; `n` cyc of hold are counted (R345, R492). -/
def Dev.holdEnd (d : Dev) (k : Ctx) (i n : Nat) : Dev :=
  match (d.ctx k).holds[i]? with
  | none => d
  | some h =>
    if d.holdDone k h then
      ((d.holdEffect k h).countHeld k h n).modCtx k fun c => { c with holds := c.holds.eraseIdx i }
    else d

/-- HOLD_END (R106, R115). -/
def execHoldEnd (k : Ctx) (i n : Nat) (s : State) : Out := event (fun d => d.holdEnd k i n) s

/-! ### Switching (R110 to R114) -/

/-- The context key of a slot number. -/
def ctxAt (n : Fin 8) (k : Fin 40) (slot : Nat) : Ctx := { region := n, core := k, slot := Fin.ofNat 12 slot }

/-- The slots whose contexts are ready: bound, started, not held and not running (R109). -/
def Core.readySlots (co : Core) : List Nat :=
  (upto 12).filter fun i => co.running != some i && match nth co.slots i none with
    | none => false
    | some c => c.active && c.holds.isEmpty

/-- The deadline of the task of a slot. -/
def Dev.slotDeadline (d : Dev) (co : Core) (i : Nat) : Nat :=
  match nth co.slots i none with
  | none => 0
  | some c => ((d.task? c.task).map fun t => t.deadline.toNat).getD 0

/-- The ready context with the earliest deadline, the lowest slot among equals (R110). -/
def Dev.nextSlot (d : Dev) (co : Core) : Option Nat :=
  co.readySlots.foldl (fun b i => match b with
    | none => some i
    | some j => if d.slotDeadline co i < d.slotDeadline co j then some i else b) none

/-- The switch-point bit of the bundle that a context issues next, from the core's instruction store (R94, R122). -/
def Dev.heldSp (d : Dev) (co : Core) (c : Context) : Bool :=
  match d.task? c.task with
  | none => false
  | some t => co.ipages.any fun p => match p with
    | none => false
    | some g => g.handle == t.image && g.program == t.program && g.page == c.pc / 1024 && (nth g.code (c.pc % 1024) 0).getLsbD 31

/-- CONTEXT_SWITCH (R110, R114): the core gives itself to the ready context with the earliest deadline; `n` cyc of hold or idle time before
the switch are counted (R492). -/
def Dev.contextSwitch (d : Dev) (r : Fin 8) (k : Fin 40) (n : Nat) : Dev :=
  let co := d.core r k
  let a := aCo r k
  let begin_ (d : Dev) (i : Nat) : Dev := (d.modCore r k fun co => { co with switching := some i }).inc64 (a + rCoSwitches) 1
  if co.switching.isSome then d
  else match co.running, d.nextSlot co with
    | _, none => d
    | none, some i => begin_ (d.inc64 (a + rCoPfIdle) n) i
    | some j, some i =>
      match nth co.slots j none with
      | none => d
      | some c => if !c.holds.isEmpty && d.heldSp co c then begin_ (d.countHold (ctxAt r k j) n) i else d

/-- CONTEXT_SWITCH. -/
def execContextSwitch (r : Fin 8) (k : Fin 40) (n : Nat) (s : State) : Out := event (fun d => d.contextSwitch r k n) s

/-- SWITCH_DONE (R101, R111 to R113, R168): the exchange ends; an incoming context that was aborted leaves the core without a running one. -/
def Dev.switchDone (d : Dev) (r : Fin 8) (k : Fin 40) : Dev :=
  let co := d.core r k
  match co.switching with
  | none => d
  | some i =>
    let d := match co.running with | none => d | some j => d.settleAllSst (ctxAt r k j)
    let lives := match nth co.slots i none with | none => false | some c => c.active
    (d.modCore r k fun co => { co with running := if lives then some i else none, switching := none }).inc64 (aCo r k + rCoPfSwitch) 64

/-- SWITCH_DONE. -/
def execSwitchDone (r : Fin 8) (k : Fin 40) (s : State) : Out := event (fun d => d.switchDone r k) s

/-! ### Slots (R109, R118) -/

/-- Whether every operation of an ended context, cancelled work and replays included, has completed. -/
def Dev.slotQuiet (d : Dev) (k : Ctx) : Bool :=
  (d.ctx k).ended && (d.core k.region k.core).switching != some k.slot.val && !d.storesOf k && !d.addsOf k && !d.shortsOf k &&
    (d.ctx k).xfers.isEmpty && (d.ctx k).plaits.isEmpty && !((d.ctx k).pend.any fun p => p.wait == 5)

/-- SLOT_FREE (R109). -/
def Dev.slotFree (d : Dev) (k : Ctx) : Dev :=
  if d.slotQuiet k then
    let lanes := (d.ctx k).lanesHandled
    let d := d.setCtx k none
    if lanes = 0 then d else d.settleLanes k.region k.core lanes
  else d

/-- SLOT_FREE. -/
def execSlotFree (k : Ctx) (s : State) : Out := event (fun d => d.slotFree k) s

/-! ### Binding (R108, R122, R129, R131) -/

/-- A registered image. -/
def Dev.image? (d : Dev) (h : Nat) : Option Image := sget (fun _ => none) d.lamp.images h

/-- Code pages of a program (R122). -/
def Image.pages (m : Image) : Nat := ceilDiv m.bundles 1024

/-- Whether a core already holds page `j` of a program. -/
def Core.holdsPage (co : Core) (handle : Nat) (program : W64) (j : Nat) : Bool :=
  co.ipages.any fun p => match p with | none => false | some g => g.handle == handle && g.program == program && g.page == j

/-- Whether a bound slot runs code from a page (R116). -/
def Dev.pageUsed (d : Dev) (co : Core) (g : IPage) : Bool :=
  co.slots.any fun s => match s with
    | none => false
    | some c => (d.task? c.task).any fun t => t.image == g.handle && t.program == g.program

/-- The places that pages may be copied to: the free ones and then those not in use, lowest number first each. -/
def Dev.pageRoom (d : Dev) (co : Core) : List Nat :=
  ((upto 16).filter fun i => (nth co.ipages i none).isNone) ++
  (upto 16).filter fun i => match nth co.ipages i none with | none => false | some g => !d.pageUsed co g

/-- The pages of a program that a core lacks. -/
def Core.lacks (co : Core) (handle : Nat) (m : Image) : List Nat := (upto m.pages).filter fun j => !co.holdsPage handle m.program j

/-- Whether a core can receive the pages of a program (R122). -/
def Dev.codeRoom (d : Dev) (co : Core) (handle : Nat) (m : Image) : Bool :=
  let room := (d.pageRoom co).filter fun i => match nth co.ipages i none with
    | none => true
    | some g => !(g.handle == handle && g.program == m.program)
  decide ((co.lacks handle m).length ≤ room.length)

/-- Page `j` of a program, read from the image's address (R371). -/
def Dev.readPage (d : Dev) (handle : Nat) (m : Image) (j : Nat) : IPage :=
  { handle := handle, program := m.program, page := j,
    code := (upto (min 1024 (m.bundles - 1024 * j))).map fun i =>
      BitVec.ofNat 128 (leNat d.byte (m.addr + m.codeOffset + 16 * (1024 * j + i)) 16) }

/-- Copy the pages that a core lacks (R122). -/
def Dev.loadPages (d : Dev) (r k handle : Nat) (m : Image) : Dev :=
  let co := d.core r k
  let room := (d.pageRoom co).filter fun i => match nth co.ipages i none with
    | none => true
    | some g => !(g.handle == handle && g.program == m.program)
  ((co.lacks handle m).zip room).foldl
    (fun d p => d.modCore r k fun co => { co with ipages := put co.ipages p.2 (some (d.readPage handle m p.1)) }) d

/-- The physical core that holds a global logical index, as RN_LMAP shows it: none when vacant (R37). -/
def Dev.physOf (d : Dev) (g : Nat) : Option (Nat × Nat) :=
  let w := aRn (g / 36) + rRnLmap + 4 * (g % 36)
  if d.flag w 6 || 40 ≤ d.fld w 5 0 then none else some (g / 36, d.fld w 5 0)

/-- Whether a substitution for a logical index is in progress (R31). -/
def Dev.remapBusy (d : Dev) (g : Nat) : Bool := d.flag (aRn (g / 36) + rRnLmap + 4 * (g % 36)) 7

/-- Whether a global logical index names a core whose ports are in fixed-pipeline mode (R242). -/
def Dev.pipeBusy (d : Dev) (g : Nat) : Bool :=
  match d.physOf g with
  | none => false
  | some (r, k) => (d.core r k).fixedPipe || (d.region r).fixedPipe

/-- The slot of each rank of a core set; none when an index is vacant or a core has no free slot (R108). -/
def Dev.placesFor (d : Dev) (cores : List Nat) : Option (List Ctx) :=
  cores.mapM fun g => match d.physOf g with
    | none => none
    | some (r, k) => ((upto 12).find? fun i => (nth (d.core r k).slots i none).isNone).map fun i =>
      { region := Fin.ofNat 8 r, core := Fin.ofNat 40 k, slot := Fin.ofNat 12 i }

/-- A context as binding sets it (R108). -/
def Context.bound (t : Task) (rank : Nat) : Context := { task := t.id, rank := rank, step := t.step, active := true }

/-- A context as a restore sets it: from an image of version 2 with `n` ranks (R129, R131). -/
def Context.boundFrom (t : Task) (rank : Nat) (rd : Nat → Byte) (v2 : Bool) (n : Nat) (entry : Option Nat) : Context :=
  let c := Context.bound t rank
  let c := if v2 && decide (rank < n) then c.restored rd n rank else c
  match entry with
  | none => c
  | some e => { c with pc := e, restorePc := if v2 && decide (rank < n) then BitVec.ofNat 64 c.pc else 0xFFFFFFFFFFFFFFFF }

/-- Put the contexts of a task into their slots and note their places. -/
def Dev.placeTask (d : Dev) (t : Task) (places : List Ctx) (ctx : Nat → Context) : Dev :=
  let d := (places.zipIdx).foldl (fun d p => d.setCtx p.1 (some (ctx p.2))) d
  d.modTask t.id fun u => { u with places := places, started := true, seed := t.seed, stream := t.stream, belays := [] }

/-- Bind a task whose places are found (R108, R129, R131): the code is copied, and a restore loads its image, after the copy to the spill
address when the variant reshapes. -/
def Dev.bindAt (d : Dev) (t : Task) (m : Image) (places : List Ctx) : Dev :=
  let d := places.foldl (fun d k => d.loadPages k.region k.core t.image m) d
  match t.restore with
  | none => d.placeTask t places fun r => Context.bound t r
  | some a =>
    let rec_ : TRec := m.record
    let n := leNat d.byte (a + 12) 4
    let v2 := leNat d.byte (a + 8) 2 == 2
    let len := leNat d.byte (a + 24) 8
    match d.dataRead a len false with
    | some (st, post) => (post t.id d).abortTask t.id st
    | none =>
      let src := fun i => d.byte (a + i)
      let t := { t with seed := BitVec.ofNat 128 (leNat d.byte (a + 40) 16), stream := BitVec.ofNat 32 (leNat d.byte (a + 56) 4) }
      if rec_.varKind t.variant = 1 then
        let spill := rec_.u (rec_.var t.variant + 80) 8
        if !runMapped ((spill : Int), len) then d.abortTask t.id 0x2005
        else if inStore spill && d.anyOff spill len then d.abortTask t.id 0x5003
        else if inPile spill && d.pileFailed spill then d.abortTask t.id 0x8005
        else
          let bs := readBytes d.byte a len
          (d.placeTask t places fun r => Context.boundFrom t r src v2 n (some (rec_.u (rec_.var t.variant + 72) 2))).writeBytes spill bs
      else d.placeTask t places fun r => Context.boundFrom t r src v2 n none

/-- Whether the accepting VERDICT of a task has not left its port yet (R52). -/
def Dev.verdictHeld (d : Dev) (t : Task) : Bool :=
  d.notLeft t.session fun m => m.type == 0x11 && m.ref == t.seq && leNat (bytesAt m.body) 4 4 == t.id.toNat

/-- TASK_BIND (R52, R108, R242): at its planned start a task is bound, or aborted with REVALIDATE. It waits for its VERDICT to leave, and for the
fixed-pipeline mode of its cores to end. -/
def Dev.taskBind (d : Dev) (id : W32) : Dev :=
  match d.task? id with
  | none => d
  | some t =>
    if t.started || decide (d.dt.toNat < t.start.toNat) || t.cores.any d.remapBusy || d.verdictHeld t || t.cores.any d.pipeBusy then d
    else match d.placesFor t.cores, d.image? t.image with
      | some places, some m =>
        if places.all fun k => d.codeRoom (d.core k.region k.core) t.image m then d.bindAt t m places else d.abortTask id 0x1010
      | _, _ => d.abortTask id 0x1010

/-- TASK_BIND. -/
def execTaskBind (id : W32) (s : State) : Out := event (fun d => d.taskBind id) s

end Sys2Proof.Machine
end

