-- ==== Sys2Proof/Machine/EmberStore.lean ====
section
/-! DEFINITION. The Ember store (R522 to R526): its bytes, changes, the fence map and the taper history, and the flash mirror (R527). -/

namespace Sys2Proof.Machine

/-- The byte of the store as EM_IMAGE shows it: bytes 0x1FF8 on hold the CRC-64 (R523, R524). -/
def emberShown (m : Sparse Byte) (a : Nat) : Byte :=
  if a < 0x1FF8 then emberGet m a else BitVec.ofNat 8 (crc64 (readBytes (emberGet m) 0 0x1FF8) / 2 ^ (8 * (a - 0x1FF8)))
/-- A store image with bytes changed and seq advanced by 1 (R523). -/
def emberChange (m : Sparse Byte) (cells : List (Nat × Byte)) : Sparse Byte :=
  let m := cells.foldl (fun m p => sset emberDefault m p.1 p.2) m
  (cellsAt 0x10 (leBytes (leNat (emberGet m) 0x10 8 + 1) 8)).foldl (fun m p => sset emberDefault m p.1 p.2) m

/-- One change of the store (R523), which a mirror write is to carry (R527). -/
def Dev.emberPut (d : Dev) (cells : List (Nat × Byte)) : Dev :=
  { d with ember := { d.ember with store := emberChange d.ember.store cells } }.setBit (aEm + rEmState) 3

/-- seq of a mirror copy. -/
def Mirror.seq (m : Mirror) : Nat := leNat (emberGet m.image) 0x10 8

/-- Write an image into the mirror copy with the lower seq (R527). -/
def Ember.mirror (e : Ember) (image : Sparse Byte) : Ember :=
  if e.copy0.seq ≤ e.copy1.seq then { e with copy0 := { image := image } } else { e with copy1 := { image := image } }

/-- MIRROR_WRITE (R527): the copy with the lower seq takes the store as it stands. -/
def Dev.mirrorWrite (d : Dev) : Dev :=
  if d.flag (aEm + rEmState) 3 then { d with ember := d.ember.mirror d.ember.store }.clrBit (aEm + rEmState) 3 else d

/-- MIRROR_WRITE. -/
def execMirrorWrite (s : State) : Out := event Dev.mirrorWrite s

/-! ### The fence map (R473, R526) -/

/-- Offset of the fence entry of a region. -/
def fenceAt (n : Nat) : Nat := 0x200 + 16 * n

/-- Set bits of a byte of a fence entry; bits that are already set change nothing (R32). -/
def Dev.fenceOr (d : Dev) (n byte : Nat) (bits : Byte) : Dev :=
  let a := fenceAt n + byte
  let old := emberGet d.ember.store a
  if old ||| bits = old then d else d.emberPut [(a, old ||| bits)]

/-- Record a snuffed core. -/
def Dev.fenceCore (d : Dev) (n k : Nat) : Dev := d.fenceOr n (k / 8) (1 <<< (k % 8))
/-- Record a fenced slice. -/
def Dev.fenceSlice (d : Dev) (n q : Nat) : Dev := d.fenceOr n 5 (1 <<< q)
/-- Record a fenced region. -/
def Dev.fenceWhole (d : Dev) (n : Nat) : Dev := d.fenceOr n 5 0x10

/-- The clock of a region in MHz. -/
def Dev.fMhz (d : Dev) (n : Nat) : Nat := d.fld (aTp n + rTpState) 21 11

/-- Write the taper state of a region and a history entry as one change (R481, R526). -/
def Dev.saveTaper (d : Dev) (n : Nat) : Dev :=
  let volt := d.fld (aTp n + rTpState) 3 0
  let notches := d.fld (aTp n + rTpState) 6 4
  let slack := leBytes (unsigned 16 (d.region n).slack) 2
  let head := d.em 0x2C0 2
  d.emberPut (cellsAt (fenceAt n + 10) (leBytes volt 1 ++ leBytes notches 1 ++ slack) ++
    cellsAt (0x1000 + 16 * head) (leBytes d.dt.toNat 8 ++ leBytes n 1 ++ leBytes volt 1 ++ leBytes (d.fMhz n) 2 ++ slack ++ leBytes 0 2) ++
    cellsAt 0x2C0 (leBytes ((head + 1) % 255) 2 ++ leBytes (min 255 (d.em 0x2C2 2 + 1)) 2))

/-- The pair epoch: its register shows the store's (R455). -/
def Dev.setEpoch (d : Dev) (e : Nat) : Dev := (d.emberPut (cellsAt 0x28 (leBytes e 4))).wr (aTt + rTtEpoch) (BitVec.ofNat 32 e)

/-- The entry that R460 would write for an event: its 32 bytes (R459). -/
def entryBytes (status source flags unit detail at_ task repeats : Nat) : List Byte :=
  leBytes status 2 ++ leBytes source 1 ++ leBytes flags 1 ++ leBytes unit 4 ++ leBytes detail 8 ++ leBytes at_ 8 ++ leBytes task 4 ++ leBytes repeats 4

/-- Copy the entry that caused Safe Hold into the store (R475, R524). -/
def Dev.saveHold (d : Dev) (entry : List Byte) (base : Nat) : Dev :=
  d.emberPut (cellsAt 0x280 (entry ++ leBytes base 4 ++ leBytes 0 28))

end Sys2Proof.Machine
end

