-- ==== Sys2Proof/Machine/Finish.lean ====
section
/-! DEFINITION. The end of a task with a result: the digest (R454), DONE (R53, R418), and the comparison with the twin (R447). -/

namespace Sys2Proof.Machine

/-- An entry of the result table (R454): address and length. -/
abbrev ResRange := Nat × Nat

/-- The bytes of a range of the data space. -/
def Dev.bytesOf (d : Dev) (r : ResRange) : List Byte := readBytes d.byte r.1 r.2

/-- Whether `n` bytes from `a` are all mapped. -/
def spanMapped (a n : Nat) : Bool := runMapped ((a : Int), n)

/-- The checks of the result header and table, before any range is read (R454). -/
def Dev.resultCheck (d : Dev) (args : Nat) : Refuse :=
  let tab := leNat d.byte args 8
  let n := leNat d.byte (args + 8) 4
  let entry (i : Nat) : ResRange := (leNat d.byte (tab + 16 * i) 8, leNat d.byte (tab + 16 * i + 8) 8)
  if !spanMapped args 16 then some (0x2005, noPost)
  else firstRefusal [d.dataRead args 16 false, refuseIf (tab % 16 != 0) 0x2004,
    refuseIf (decide (256 < n) || leNat d.byte (args + 12) 4 != 0) 0x2005,
    refuseIf (!spanMapped tab (16 * n + 8)) 0x2005,
    if n ≤ 256 && spanMapped tab (16 * n + 8) then
      let es := (upto n).map entry
      firstRefusal [d.dataRead tab (16 * n) false, refuseIf (es.any fun e => e.1 % 64 != 0 || e.2 % 64 != 0) 0x2004,
        refuseIf (es.any fun e => e.2 == 0 || decide (2 ^ 40 < e.2)) 0x2005, refuseIf (es.any fun e => !spanMapped e.1 e.2) 0x2005]
    else none]

/-- The ranges of the result table. -/
def Dev.resultRanges (d : Dev) (args : Nat) : List ResRange :=
  let tab := leNat d.byte args 8
  (upto (leNat d.byte (args + 8) 4)).map fun i => (leNat d.byte (tab + 16 * i) 8, leNat d.byte (tab + 16 * i + 8) 8)

/-- The place of the digest. -/
def Dev.digestPlace (d : Dev) (args : Nat) : Nat := leNat d.byte args 8 + 16 * leNat d.byte (args + 8) 4

/-- Every check of R454, in order: header and table, ranges, and the bank group of the digest's place. -/
def Dev.digestCheck (d : Dev) (args : Nat) : Refuse :=
  match d.resultCheck args with
  | some r => some r
  | none =>
    let a := d.digestPlace args
    firstRefusal (((d.resultRanges args).map fun e => d.dataRead e.1 e.2 false) ++
      [refuseIf (inStore a && d.anyOff a 8) 0x5003, refuseIf (inPile a && d.pileFailed a) 0x8005])

/-- End a task with DONE (R53, R418): the reservation ends with it. A secondary that may not answer keeps the task (R447). -/
def Dev.sendDone (d : Dev) (t : Task) : Dev :=
  match t.written with
  | none => d
  | some (at_, dg) =>
    if t.closed then { d with tasks := d.tasks.filter fun x => x.id != t.id }
    else if d.answers t then
      let d := { d with tasks := d.tasks.filter fun x => x.id != t.id }
      d.sendSeq t.session 0x12 (doneBody t.id dg at_) t.seq
    else d

/-- Count a Mirror task that completes on one digest (R447). -/
def Dev.countUnmirrored (d : Dev) : Dev := (d.inc64 (aTt + rTtUnmirrored) 1).setBit (aTt + rTtSticky) 3

/-- What the primary does once it has written a task, by the twin's digest (R447). -/
def Dev.settleDigest (d : Dev) (id : W32) : Dev :=
  match d.task? id with
  | none => d
  | some t =>
    match t.written with
    | none => d
    | some (_, own) =>
      if !t.mirrored then d.sendDone t
      else match t.twinDigest with
        | none => d
        | some (st, other) =>
          if st ≠ 0 then d.countUnmirrored.sendDone t
          else if other = own then d.sendDone t
          else
            let d := (d.inc64 (aTt + rTtMismatches) 1).setBit (aTt + rTtSticky) 1
            (d.endTask t 0x7001 none).raiseAlert 0x7001 0 id.toNat

/-- What a secondary does once it has both digests of its copy of a task (R447): a mismatch aborts the task on both modules. -/
def Dev.settleCopy (d : Dev) (id : W32) : Dev :=
  match d.task? id with
  | none => d
  | some t =>
    match t.written, t.twinDigest with
    | some (_, own), some (0, other) => if t.twin && !d.ttPrimary && other ≠ own then d.endTask t 0x7001 none else d
    | _, _ => d

/-- The body of a DIGEST (R436). -/
def digestBody (id : W32) (status : Nat) (dg at_ : W64) : List Byte :=
  leBytes id.toNat 4 ++ leBytes status 2 ++ leBytes 0 2 ++ leBytes dg.toNat 8 ++ leBytes at_.toNat 8

/-- Whether this module takes part in a READY Mirror pair. -/
def Dev.mirrorReady (d : Dev) : Bool := d.ttState == 3 && d.ttMode == 1

/-- Whether every rank of a started task has reached END and every byte that the task writes has been written (R53): the operations of its
contexts have completed, and so have its additions and its descriptors (log 66). -/
def Dev.allWritten (d : Dev) (t : Task) : Bool :=
  t.started && (t.places.all fun k => match d.ctx? k with
    | none => true
    | some c => c.task != t.id || d.slotQuiet k) &&
  !(d.chans.any fun p => p.2.queue.any fun x => x.task == t.id) &&
  !(d.regions.any fun g => (g.2.queues.any fun q => q.2.any fun a => a.task == t.id) || g.2.crossbar.any fun a => a.task == t.id)

/-- RESULT_DIGEST (R454): the checks, the digest and its write, and the end of the task. -/
def Dev.resultDigest (d : Dev) (id : W32) : Dev :=
  match d.task? id with
  | none => d
  | some t =>
    if t.written.isSome || !d.allWritten t then d
    else match d.digestCheck t.args with
      | some (st, post) => (post id d).abortTask id st
      | none =>
        let dg := BitVec.ofNat 64 (crc64 ((d.resultRanges t.args).flatMap d.bytesOf))
        let d := d.writeBytes (d.digestPlace t.args) (leBytes dg.toNat 8)
        let d := d.modTask id fun t => { t with written := some (d.dt, dg) }
        let d := if d.mirrorReady then d.sendRaw tether { type := 0x43, session := 0, body := digestBody id 0 dg d.dt } else d
        (d.settleDigest id).settleCopy id

/-- RESULT_DIGEST. -/
def execResultDigest (id : W32) (s : State) : Out := event (fun d => d.resultDigest id) s

/-- COMPARE_TIMEOUT (R447): compare_ns after its own write, with no digest of the twin, the primary sends DONE on its own digest. -/
def Dev.compareTimeout (d : Dev) (id : W32) : Dev :=
  match d.task? id with
  | none => d
  | some t =>
    match t.written with
    | none => d
    | some (at_, _) =>
      if t.mirrored && t.twinDigest.isNone && decide (at_.toNat + d.fld (aTt + rTtCfg) 15 0 ≤ d.dt.toNat) && d.ttPrimary
      then d.countUnmirrored.sendDone t else d

/-- COMPARE_TIMEOUT. -/
def execCompareTimeout (id : W32) (s : State) : Out := event (fun d => d.compareTimeout id) s

end Sys2Proof.Machine
end

