-- ==== Sys2Proof/Machine/Control.lean ====
section
/-! DEFINITION. Requesters of the control space: their holding registers (R14, R420), and the blocks that refuse writes (R51, R468). -/

namespace Sys2Proof.Machine

/-- The number of a requester's holding register (R420). -/
def reqKey : Requester → Nat
  | .session s _ => s.val
  | .bus => 4096
  | .firmware m => 4097 + m.val

/-- The holding register of a requester. -/
def Dev.holding (d : Dev) (q : Requester) : Holding := sget (fun _ => {}) d.obs.holdings (reqKey q)
/-- Change the holding register of a requester. -/
def Dev.modHolding (d : Dev) (q : Requester) (f : Holding → Holding) : Dev :=
  { d with obs := { d.obs with holdings := smod (fun _ => {}) d.obs.holdings (reqKey q) f } }

/-- The low word that a write of the high word of the 64-bit register at `a` applies (R14): the pending one, or the live one. -/
def Dev.lowFor (d : Dev) (q : Requester) (a : Nat) : W32 :=
  match (d.holding q).low with
  | some (r, v) => if r = a then v else d.rd a
  | none => d.rd a
/-- A pending low write for the register at `a` ends (R14). -/
def Dev.endLow (d : Dev) (q : Requester) (a : Nat) : Dev :=
  d.modHolding q fun h => match h.low with
    | some (r, _) => if r = a then { h with low := none } else h
    | none => h

/-- Whether a region is fenced (R35, R468). -/
def Dev.regionFenced (d : Dev) (r : Nat) : Bool := d.flag (aRn r + rRnState) 4
/-- Whether a physical core is snuffed (R36). -/
def Dev.snuffed (d : Dev) (r k : Nat) : Bool := bit (d.rd64 (aRn r + rRnFence)) k

/-- Whether the block at an address accepts no write but to W1C fields of error records: the block of a snuffed core (R51) and every block
of a fenced region (R468). -/
def Dev.locked (d : Dev) (a : Nat) : Bool :=
  if 0x10000000 ≤ a && a < 0x18000000 then
    let r := (a - 0x10000000) / 0x1000000
    let o := a % 0x1000000
    d.regionFenced r || (decide (0x100000 ≤ o) && decide (o < 0x1A0000) && d.snuffed r ((o - 0x100000) / 0x4000))
  else false

/-- A write of the register at `a` whose effect is `f`. -/
def Dev.unlocked (d : Dev) (a : Nat) (f : Dev → Dev) : Dev := if d.locked a then d else f d

/-! ### What a requester reaches (R518) -/

/-- The state that PW_STATE shows (R520). -/
def Dev.pwState (d : Dev) : Nat := d.fld (aPw + rPwState) 2 0

/-- Whether a requester is the management bus. -/
def isBus : Requester → Bool
  | .bus => true
  | _ => false

/-- Whether the management bus is answered (R518). -/
def Dev.busServed (d : Dev) : Bool := d.pwState != 0 || (d.power.input && !d.power.reset.high)

/-- Whether the management bus reaches an address (R518); any other requester does. -/
def Dev.reaches (d : Dev) (who : Requester) (a : Nat) : Bool :=
  if isBus who then
    match d.pwState with
    | 0 => d.busServed && decide (aEm ≤ a) && decide (a < aErDv)
    | 3 => decide (a < 0x1000000)
    | 4 => decide (a < 0x1000000)
    | 5 => decide (a < 0x1000000)
    | _ => true
  else true

/-- A write by a requester of the register at `a` whose effect is `f`: one that the requester does not reach is ignored (R518). -/
def Dev.asked (d : Dev) (who : Requester) (a : Nat) (f : Dev → Dev) : Dev := if d.reaches who a then f d else d

end Sys2Proof.Machine
end

