-- ==== Sys2Proof/Machine/Store.lean ====
section
/-! DEFINITION. The region store's own events: scrubbing and error correction (R247, R248), bank-group power (R249, R250), coil
configuration (R252), host hitch windows (R257, R259), and the burst limits of the arbiters (R240, R486, R488). -/

namespace Sys2Proof.Machine

/-! ### Scrubbing and correction (R247, R248) -/

/-- The address of line `n` of bank `b` of a region (R234). -/
def lineAddr (r b n : Nat) : Nat := r * storeSize + (b / 8) * 2 ^ 20 + (8 * n + b % 8) * 64

/-- A corrected word is written back at its bank and counted. -/
def Dev.storeWriteback (d : Dev) (r a : Nat) : Dev :=
  if (d.region r).writebacks.contains a then
    ((d.modRegion r fun g => { g with writebacks := g.writebacks.filter fun x => x != a }).inc64 (aRs r + rRnStCorrected) 1).setBit (aRs r + rRnStSticky) 0
  else d

/-- Whether Pilot state has powered down a bank group (R251): Pilot, or on the way out of it. -/
def Dev.pilotOff (d : Dev) (r g : Nat) : Bool :=
  (d.fld (aPw + rPwState) 2 0 == 4 || d.fld (aPw + rPwState) 2 0 == 5) && !(d.region r).retained.contains g

/-- A bank completed a pass; a pass of the region counts once every powered bank has completed one more. -/
def Dev.scrubPassDone (d : Dev) (r b : Nat) : Dev :=
  let d := d.modRegion r fun g => { g with scrubPass := smod (fun _ => 0) g.scrubPass b (· + 1) }
  let on := (upto 576).filter fun x => !d.groupOff (lineAddr r x 0) && !d.pilotOff r (x / 8)
  if on.all fun x => decide (0 < sget (fun _ => 0) (d.region r).scrubPass x) then
    (d.modRegion r fun g => { g with scrubPass := on.foldl (fun m x => smod (fun _ => 0) m x (· - 1)) g.scrubPass }).inc64 (aRs r + rRnStScrubPasses) 1
  else d

/-- STORE_SCRUB_LINE (R248): the next line of a powered bank is read, corrected and written back; its uncorrectable words are recorded. -/
def Dev.scrubLine (d : Dev) (r b : Nat) : Dev :=
  let n := sget (fun _ => 0) (d.region r).scrubLine b
  let a := lineAddr r b n
  if !d.flag (aRs r + rRnStScrubCtl) 0 || d.groupOff a || d.pilotOff r (b / 8) then d
  else
    let ws := (upto 16).map fun i => a + 4 * i
    let d := ws.foldl (fun d w => d.storeWriteback r w) d
    let d := ws.foldl (fun d w => if d.mark w = 2 then d.noteStore w 0 else d) d
    let d := d.modRegion r fun g => { g with scrubLine := sset (fun _ => 0) g.scrubLine b ((n + 1) % 2048) }
    if n = 2047 then d.scrubPassDone r b else d

/-- STORE_SCRUB_LINE. -/
def execStoreScrubLine (region : Fin 8) (bank : Fin 576) (s : State) : Out := event (fun d => d.scrubLine region bank) s

/-- STORE_ECC_ERROR (R247): a read of a word for a task (0: for no task) meets an error. A single-bit error is corrected, and the word waits
to be written back; an uncorrectable word is recorded and the task is aborted. -/
def Dev.storeError (d : Dev) (a : Nat) (uncorrectable : Bool) (reader : W32) : Dev :=
  let a := a / 4 * 4
  let r := regionOf a
  if !inStore a || d.groupOff a then d
  else if uncorrectable then ((d.setMark a 2).noteStore a reader).abortTask reader 0x8003
  else
    (d.enterError (aErRn r) 128 0x800A 0x20 (bankOf a) a reader.toNat 0).modRegion r
      fun g => { g with writebacks := if g.writebacks.contains a then g.writebacks else g.writebacks ++ [a] }

/-- STORE_ECC_ERROR. -/
def execStoreEccError (addr : Nat) (uncorrectable : Bool) (reader : W32) (s : State) : Out :=
  event (fun d => d.storeError addr uncorrectable reader) s

/-- STORE_CORRECTED_WRITEBACK (R247). -/
def execStoreCorrectedWriteback (region : Fin 8) (addr : Nat) (s : State) : Out := event (fun d => d.storeWriteback region addr) s

/-! ### Bank-group power (R249, R250) -/

/-- First address of a bank group. -/
def groupBase (r g : Nat) : Nat := r * storeSize + g * 2 ^ 20
/-- The word and bit of a group in a pair of registers LO and HI. -/
def groupBit (lo hi g : Nat) : Nat × Nat := if g < 64 then (lo + 4 * (g / 32), g % 32) else (hi, g - 64)
/-- The off bit of a group. -/
def Dev.bgOff (d : Dev) (r g : Nat) : Bool := let w := groupBit rRnBgOffLo rRnBgOffHi g; d.flag (aRs r + w.1) w.2
/-- Set or clear the off bit of a group. -/
def Dev.setBgOff (d : Dev) (r g : Nat) (v : Bool) : Dev := let w := groupBit rRnBgOffLo rRnBgOffHi g; d.putBit (aRs r + w.1) w.2 v
/-- The busy bit of a group. -/
def Dev.bgBusy (d : Dev) (r g : Nat) : Bool := let w := groupBit rRnBgBusyLo rRnBgBusyHi g; d.flag (aRs r + w.1) w.2
/-- Set or clear the busy bit of a group. -/
def Dev.setBgBusy (d : Dev) (r g : Nat) (v : Bool) : Dev := let w := groupBit rRnBgBusyLo rRnBgBusyHi g; d.putBit (aRs r + w.1) w.2 v

/-- Bytes from `a` read as 0 from now on, with their words plain: a powered-down group, whose contents are lost, reads as zeros (R250). -/
def Dev.eraseRange (d : Dev) (a n : Nat) : Dev :=
  { d with mem := d.mem.filter fun p => !(decide (a ≤ p.1) && decide (p.1 < a + n))
           marks := d.marks.filter fun p => !(decide (a ≤ 4 * p.1) && decide (4 * p.1 < a + n)) }

/-- Lose the contents of a group. -/
def Dev.eraseGroup (d : Dev) (r g : Nat) : Dev :=
  let a := groupBase r g
  (d.eraseRange a (2 ^ 20)).modRegion r fun x => { x with writebacks := x.writebacks.filter fun w => !(decide (a ≤ w) && decide (w < a + 2 ^ 20)) }

/-- Whether a group holds a byte of an open window or of the buffer of an enabled coil. -/
def Dev.groupHeld (d : Dev) (r g : Nat) : Bool :=
  !(d.winsTouched r (groupBase r g) (2 ^ 20)).isEmpty ||
  (upto 512).any fun i => d.coilEnabled r i && overlap (groupBase r g) (2 ^ 20) (d.coilAddr r i 0) (d.coilSize r i)

/-- Write the off bit of a group: power it down, refuse, or start to power it up. -/
def Dev.bgWrite (d : Dev) (r g : Nat) (off : Bool) : Dev :=
  if off = d.bgOff r g then d
  else if off then
    if d.groupHeld r g then d.setBit (aRs r + rRnStSticky) 4 else ((d.eraseGroup r g).setBgOff r g true).setBgBusy r g false
  else (d.setBgOff r g false).setBgBusy r g true

/-- Write RN_BG_OFF_LO. -/
def Dev.bgLoWrite (d : Dev) (r v : Nat) : Dev := (upto 64).foldl (fun d g => d.bgWrite r g (bit v g)) d
/-- Write RN_BG_OFF_HI. -/
def Dev.bgHiWrite (d : Dev) (r v : Nat) : Dev := (upto 8).foldl (fun d g => d.bgWrite r (64 + g) (bit v g)) d

/-- RN_BG_OFF_WRITE (R249): a write of RN_BG_OFF_HI, or of the high word of RN_BG_OFF_LO, which applies the requester's pending low word (R14). -/
def execRnBgOffWrite (who : Requester) (region : Fin 8) (high : Bool) (value : W32) (s : State) : Out :=
  event (fun d => d.asked who (aRs region + if high then rRnBgOffHi else rRnBgOffLo + 4) fun d => d.unlocked (aRs region) fun d =>
    if high then d.bgHiWrite region value.toNat
    else (d.bgLoWrite region ((d.lowFor who (aRs region + rRnBgOffLo)).toNat + value.toNat * 2 ^ 32)).endLow who (aRs region + rRnBgOffLo)) s

/-- BG_ZERO_DONE (R250): a group being powered up has been zeroed, every line of it with valid check bits. -/
def execBgZeroDone (region : Fin 8) (group : Fin 72) (s : State) : Out :=
  event (fun d => if d.bgBusy region group then (d.eraseGroup region group).setBgBusy region group false else d) s

/-! ### Coil configuration (R252) -/

/-- Whether a base may be that of a coil of a region. -/
def coilBaseOk (r base : Nat) : Bool := base % 512 == 0 && (inStoreOf r base 1 || (inPile base && regionOf base == r))
/-- Whether a buffer lies within the limits. -/
def coilBufferOk (r base lg : Nat) : Bool :=
  base % 512 == 0 && decide (9 ≤ lg) &&
    ((decide (lg ≤ 26) && inStoreOf r base (2 ^ lg)) || (decide (lg ≤ 35) && inOnePile base (2 ^ lg) && regionOf base == r))

/-- The groups that hold a byte of a retained coil's buffer (R251). -/
def coilGroups (cfg base : Nat) : List Nat :=
  if cfg % 4 = 3 && inStore base then
    let g := base % storeSize / 2 ^ 20
    (upto ((base % 2 ^ 20 + 2 ^ field cfg 7 2 - 1) / 2 ^ 20 + 1)).map (g + ·)
  else []
/-- The groups of a region that Pilot retains. -/
def Dev.retainedGroups (d : Dev) (r : Nat) : List Nat :=
  ((upto 512).flatMap fun i => coilGroups (d.rd (coilBase r i + 8)).toNat (d.coilAddr r i 0)).eraseDups

/-- A write of RN_COIL_CFG_k (R251, R252): values outside the limits are refused whatever enable says. -/
def Dev.coilCfgWrite (d : Dev) (r i v : Nat) : Dev :=
  let v := v - field v 15 8 * 2 ^ 8
  let b := coilBase r i
  let refuse := d.setBit (aRs r + rRnStSticky) 3
  if d.coilHolders r i ≠ 0 then refuse
  else if !coilBufferOk r (d.rd64 b % 2 ^ 48) (field v 7 2) then refuse
  else
    let e := d.wr (b + 8) (BitVec.ofNat 32 v)
    if v % 4 = 3 && decide (16 < (e.retainedGroups r).length) then d.setBit (aRs r + rRnStSticky) 6
    else if v % 2 = 1 then ((e.wr64 (b + 0x10) 0).wr64 (b + 0x18) 0).coilBump r i
    else if d.coilEnabled r i then e.coilBump r i
    else e

/-- A write of RN_COIL_BASE_k (R252): the buffer of an enabled coil must lie within the limits; a base that would bring the region above 16 retained
groups is refused as such a configuration is (R251, log 22). -/
def Dev.coilBaseWrite (d : Dev) (r i v : Nat) : Dev :=
  let v := v % 2 ^ 48
  if d.coilHolders r i ≠ 0 || !coilBaseOk r v || (d.coilEnabled r i && !coilBufferOk r v (d.fld (coilBase r i + 8) 7 2)) then d.setBit (aRs r + rRnStSticky) 3
  else
    let e := d.wr64 (coilBase r i) v
    if 16 < (e.retainedGroups r).length then d.setBit (aRs r + rRnStSticky) 6 else e

/-- RN_COIL_CFG_WRITE (R252). -/
def execRnCoilCfgWrite (who : Requester) (region : Fin 8) (coil : Fin 512) (value : W32) (s : State) : Out :=
  event (fun d => d.asked who (aRs region + rRnCoilCfg + 32 * coil) fun d => d.unlocked (aRs region) fun d => d.coilCfgWrite region coil value.toNat) s

/-! ### Host windows (R257, R259) -/

/-- The host opens window `k` of region `r` from its descriptor register. -/
def Dev.hostOpen (d : Dev) (r k : Nat) : Dev :=
  let b := winBase r k
  let base := d.winAddr r k
  if !d.winOpen r k && inStore base && regionOf base == r &&
      d.winMayOpen base (d.winLen r k) (d.winWriters r k) (d.fld (b + 12) 31 24) (d.fld (b + 16) 31 16) (d.rd64 (b + 24))
  then d.openWindow r k 0 true none
  else d.setBit (aRs r + rRnStSticky) 3

/-- The host closes a window that it opened. -/
def Dev.hostClose (d : Dev) (r k : Nat) : Dev := if d.winOpen r k && d.flag (winState r k) 1 then d.closeWindow r k else d

/-- A write of RN_HITCH_CMD_k. -/
def Dev.hitchCmd (d : Dev) (r k v : Nat) : Dev :=
  match bit v 0, bit v 1 with
  | true, false => d.hostOpen r k
  | false, true => d.hostClose r k
  | _, _ => d

/-- HITCH_CMD_OPEN (R257). -/
def execHitchCmdOpen (who : Requester) (region : Fin 8) (window : Fin 256) (s : State) : Out :=
  event (fun d => d.asked who (aRs region + rRnHitchCmd + 64 * window) fun d => d.unlocked (aRs region) fun d => d.hitchCmd region window 1) s

/-- HITCH_CMD_CLOSE (R259). -/
def execHitchCmdClose (who : Requester) (region : Fin 8) (window : Fin 256) (s : State) : Out :=
  event (fun d => d.asked who (aRs region + rRnHitchCmd + 64 * window) fun d => d.unlocked (aRs region) fun d => d.hitchCmd region window 2) s

/-! ### Arbiters (R240, R486, R488 to R491) -/

/-- The arbiter whose AR_CTL stands at an address: its region, or none for an arbiter of the hub; and its requesters. -/
def arbiterAt (a : Nat) : Option (Option Nat × Nat) :=
  if aArHb ≤ a && a < aArHb + 0xC00 then if a % 0x200 = 0 then some (none, 4) else none
  else if 0x10000000 ≤ a && a < 0x18000000 then
    let r := (a - 0x10000000) / 0x1000000
    let o := a % 0x1000000
    match regionArbiters.find? fun x => o == 0x50000 + x.1 with
    | some x => some (some r, x.2.2)
    | none => if 0x100000 ≤ o && o < 0x1A0000 && o % 0x4000 == 0x3100 then some (some r, 10) else none
  else none

/-- Whether a task holds a reservation on a core of a region. -/
def Task.inRegion (t : Task) (r : Nat) : Bool := t.cores.any fun g => g / 36 == r

/-- A write of an arbiter's burst limit becomes pending until the tasks accepted before it have ended (R486). -/
def Dev.burstWrite (d : Dev) (a v : Nat) : Dev :=
  match arbiterAt a with
  | none => d
  | some (r, _) =>
    let ids := (d.tasks.filter fun t => match r with | none => true | some n => t.inRegion n).map fun t => t.id
    let d := ((d.setFld a 7 0 v).setBit (a + 4) 8)
    let d := { d with burstWait := sset (fun _ => []) d.burstWait a ids }
    match r with
    | some n => if a = aArRn n then d.setBit (aRs n + rRnStSticky) 5 else d
    | none => d

/-- BURST_LIMIT_EFFECT (R486): the new limit governs. -/
def Dev.burstEffect (d : Dev) (a : Nat) : Dev :=
  match arbiterAt a with
  | none => d
  | some (r, _) =>
    if !d.flag (a + 4) 8 || (sget (fun _ => []) d.burstWait a).any fun i => (d.task? i).isSome then d
    else
      let d := (d.setFld (a + 4) 7 0 (d.fld a 7 0)).clrBit (a + 4) 8
      let d := { d with burstWait := sset (fun _ => []) d.burstWait a [] }
      match r with
      | some n => if a = aArRn n then d.clrBit (aRs n + rRnStSticky) 5 else d
      | none => d

/-- BURST_LIMIT_EFFECT. -/
def execBurstLimitEffect (addr : W32) (s : State) : Out := event (fun d => d.burstEffect addr.toNat) s

/-- AR_CTL_WRITE (R486). -/
def execArCtlWrite (who : Requester) (addr value : W32) (s : State) : Out :=
  event (fun d => d.asked who addr.toNat fun d => d.unlocked addr.toNat fun d => d.burstWrite addr.toNat value.toNat) s

/-- The words of the counters of the `n` requester entries from address `b` (R490). -/
def arCounters (b n : Nat) : List Nat := (upto n).flatMap fun r => (upto 6).map fun w => b + 32 * r + 4 * w

/-- The counters that the AR_CLEAR at an address clears (R488, R490): those of its record, or of the core entries. -/
def arClearWords (a : Nat) : List Nat :=
  if a < 8 then []
  else match arbiterAt (a - 8) with
    | some (_, n) => arCounters (a - 8 + 0x20) n
    | none => if 0x10000000 ≤ a && a < 0x18000000 && 0x100000 ≤ a % 0x1000000 && a % 0x1000000 < 0x1A0000 && a % 0x4000 == 0x3040
              then arCounters (a - 0x40) 2 else []

/-- AR_CLEAR (R488, R541). -/
def execArClear (who : Requester) (addr : W32) (s : State) : Out :=
  event (fun d => d.asked who addr.toNat fun d => d.unlocked addr.toNat fun d => d.clearWords (arClearWords addr.toNat)) s

end Sys2Proof.Machine
end

