-- ==== Sys2Proof/Machine/Piles.lean ====
section
/-! DEFINITION. The piles' own events: refresh (R309, R310), interface retries (R311), patrol scrubbing (R312), error correction (R313), and
the near-memory operations (R315 to R318). -/

namespace Sys2Proof.Machine

/-- The state field of PL_STATE: 0 off, 1 training, 2 ready, 3 self-refresh, 4 waking, 5 failed. -/
def Dev.pileState (d : Dev) (n : Nat) : Nat := d.fld (aPl n + rPlState) 2 0
/-- Whether a pile is ready. -/
def Dev.pileReady (d : Dev) (n : Nat) : Bool := d.pileState n == 2
/-- The data address of a byte of a pile. -/
def pileAddr (n o : Nat) : Nat := pilesBase + n * pileSize + o

/-! ### Refresh (R309, R310) -/

/-- PILE_REFRESH: a bank is refreshed; its slot also takes the neighbour refreshes and the corrected words that wait for it (R310, R313). -/
def Dev.pileRefresh (d : Dev) (n b : Nat) : Dev :=
  if d.pileReady n then
    d.modPile n fun p =>
      { p with refresh := b
               neighbours := p.neighbours.filter fun r => r / 8192 != b
               writebacks := p.writebacks.filter fun a => (pileLocate (pileOffset a)).bankKey != b }
  else d

/-- PILE_REFRESH. -/
def execPileRefresh (pile : Fin 8) (bank : Fin 3072) (s : State) : Out := event (fun d => d.pileRefresh pile bank) s

/-- PILE_NEIGHBOUR_REFRESH (R310): the physical neighbours of a row are to be refreshed in the next slot of their bank. -/
def Dev.pileNeighbours (d : Dev) (n b row : Nat) : Dev :=
  if d.pileReady n then
    let rows := (if row = 0 then [] else [row - 1]) ++ (if row = 8191 then [] else [row + 1])
    d.modPile n fun p => { p with neighbours := (p.neighbours ++ rows.map fun r => b * 8192 + r).eraseDups }
  else d

/-- PILE_NEIGHBOUR_REFRESH. -/
def execPileNeighbourRefresh (pile : Fin 8) (bank : Fin 3072) (row : Fin 8192) (s : State) : Out :=
  event (fun d => d.pileNeighbours pile bank row) s

/-! ### Patrol scrubbing and errors (R311 to R314) -/

/-- Units of 512 bytes in one channel of a pile. -/
def channelUnits : Nat := 6291456

/-- A pass counts once all 16 channels have completed one more. -/
def Dev.pilePassDone (d : Dev) (n c : Nat) : Dev :=
  let d := d.modPile n fun p => { p with scrubPass := smod (fun _ => 0) p.scrubPass c (· + 1) }
  if (upto 16).all fun x => decide (0 < sget (fun _ => 0) (d.pile n).scrubPass x) then
    (d.modPile n fun p => { p with scrubPass := (upto 16).foldl (fun m x => smod (fun _ => 0) m x (· - 1)) p.scrubPass }).inc64 (aPl n + rPlScrubPasses) 1
  else d

/-- PILE_SCRUB_UNIT (R312): the next unit of a channel is read, corrected and written back; its uncorrectable words are recorded. -/
def Dev.pileScrub (d : Dev) (n c : Nat) : Dev :=
  if !d.flag (aPl n + rPlScrubCtl) 0 || !d.pileReady n then d
  else
    let u := sget (fun _ => 0) (d.pile n).scrubNext c
    let a := pileAddr n (512 * (16 * u + c))
    let d := (upto 64).foldl (fun d w => if d.markIn (a + 8 * w) 8 = 2 then d.notePile (a + 8 * w) 2 true 0 else d) d
    let d := d.modPile n fun p =>
      { p with writebacks := p.writebacks.filter fun x => !(decide (a ≤ x) && decide (x < a + 512))
               scrubNext := sset (fun _ => 0) p.scrubNext c ((u + 1) % channelUnits) }
    if u + 1 = channelUnits then d.pilePassDone n c else d

/-- PILE_SCRUB_UNIT. -/
def execPileScrubUnit (pile : Fin 8) (channel : Fin 16) (s : State) : Out := event (fun d => d.pileScrub pile channel) s

/-- PILE_CRC_FAIL (R311): a transfer is retried; when the retry fails too (`again`), the access of the task `reader` does not complete. For no task
(0), it is the access of a remote read, which answers its requester with the error (R313). -/
def Dev.pileCrc (d : Dev) (a : Nat) (again : Bool) (reader : W32) : Dev :=
  if !inPile a || !d.pileReady (regionOf a) then d
  else
    let d := d.inc64 (aPl (regionOf a) + rPlLinkRetries) 1
    if !again then d
    else
      let d := if reader = 0 then d.modPile (regionOf a) fun p => { p with lost := a :: p.lost } else d
      (d.notePile a 3 false reader).abortTask reader 0x8004

/-- PILE_CRC_FAIL. -/
def execPileCrcFail (addr : Nat) (again : Bool) (reader : W32) (s : State) : Out := event (fun d => d.pileCrc addr again reader) s

/-- PILE_ECC_ERROR (R313): kind 0 a correction inside a layer, 1 a word that the base die corrects, 2 an uncorrectable word. -/
def Dev.pileEcc (d : Dev) (a kind : Nat) (scrub : Bool) (reader : W32) : Dev :=
  let a := a / 8 * 8
  let n := regionOf a
  if !inPile a || !d.pileReady n then d
  else match kind with
    | 0 => d.inc64 (aPl n + rPlLayerFixes) 1
    | 1 => (d.notePile a 1 scrub reader).modPile n fun p => { p with writebacks := if p.writebacks.contains a then p.writebacks else p.writebacks ++ [a] }
    | _ => ((((d.setMark a 2).setMark (a + 4) 2).notePile a 2 scrub reader)).abortTask reader 0x8004

/-- PILE_ECC_ERROR. -/
def execPileEccError (addr : Nat) (kind : Fin 3) (scrub : Bool) (reader : W32) (s : State) : Out :=
  event (fun d => d.pileEcc addr kind scrub reader) s

/-! ### Starting a near-memory operation (R315) -/

/-- Whether PL_NMO writes are refused: an operation runs, the pile is not ready, or the module enters Pilot (R315, R320). -/
def Dev.nmoClosed (d : Dev) (n : Nat) : Bool := d.flag (aPl n + rPlState) 4 || !d.pileReady n || d.fld (aPw + rPwState) 2 0 == 3

/-- A write of a PL_NMO register whose effect is `f`. -/
def Dev.nmoWrite (d : Dev) (n : Nat) (f : Dev → Dev) : Dev := if d.nmoClosed n then d.setBit (aPl n + rPlSticky) 4 else f d

/-- A write of PL_NMO_OP. -/
def Dev.nmoOp (d : Dev) (n op : Nat) : Dev :=
  d.nmoWrite n fun d =>
    if op = 0 then d
    else if op ≤ 4 then (d.modPile n fun p => { p with nmo := some op }).setBit (aPl n + rPlState) 4
    else d.setBit (aPl n + rPlSticky) 4

/-- NMO_FILL (R316). -/
def execNmoFill (who : Requester) (pile : Fin 8) (s : State) : Out := event (fun d => d.asked who (aPl pile + rPlNmoOp) fun d => d.nmoOp pile 1) s
/-- NMO_COPY (R316). -/
def execNmoCopy (who : Requester) (pile : Fin 8) (s : State) : Out := event (fun d => d.asked who (aPl pile + rPlNmoOp) fun d => d.nmoOp pile 2) s
/-- NMO_COMPACT (R317). -/
def execNmoCompact (who : Requester) (pile : Fin 8) (s : State) : Out := event (fun d => d.asked who (aPl pile + rPlNmoOp) fun d => d.nmoOp pile 3) s
/-- NMO_EXPAND (R318). -/
def execNmoExpand (who : Requester) (pile : Fin 8) (s : State) : Out := event (fun d => d.asked who (aPl pile + rPlNmoOp) fun d => d.nmoOp pile 4) s
/-- NMO_REFUSED_OP (R315): op 5, 6 or 7. -/
def execNmoRefusedOp (who : Requester) (pile : Fin 8) (op : Fin 3) (s : State) : Out :=
  event (fun d => d.asked who (aPl pile + rPlNmoOp) fun d => d.nmoOp pile (5 + op.val)) s

/-! ### The effect of a near-memory operation (R316 to R318) -/

/-- What an operation leaves: its status, the runs it writes, and the corrections and roundings it counts. -/
structure NmoResult where
  status : Status := 0
  out : List (Nat × List Byte) := []
  popFixes : Nat := 0
  prefixFixes : Nat := 0
  rerounded : Nat := 0
  /-- the uncorrectable word that ended it -/
  bad : Option Nat := none
  deriving DecidableEq, Repr

/-- A rejected operation. -/
def nmoReject (st : Status) (bad : Option Nat := none) : NmoResult := { status := st, bad := bad }

/-- Whether `k` bytes from `a` lie in pile `n`. -/
def inPileN (n a k : Nat) : Bool := decide (pileAddr n 0 ≤ a) && decide (a + k ≤ pileAddr n pileSize)

/-- What ends an operation among the words that it would read (R313, R425): an uncorrectable word, which it names, or a poisoned one. -/
def Dev.nmoBad (d : Dev) (reads : List (Nat × Nat)) : Option NmoResult :=
  match reads.find? fun r => d.markIn r.1 r.2 == 2 with
  | some r => some (nmoReject 0x8004 (some (d.firstMark r.1 r.2 2 / 8 * 8)))
  | none => if reads.any fun r => d.markIn r.1 r.2 == 1 then some (nmoReject 0x6001) else none

/-- FILL. -/
def nmoFill (n dst len pat : Nat) : NmoResult :=
  if dst % 64 != 0 || len % 64 != 0 then nmoReject 0x2004
  else if len = 0 || !inPileN n dst len then nmoReject 0x2005
  else { out := [(dst, (List.replicate (len / 4) (leBytes pat 4)).flatten)] }

/-- COPY. -/
def Dev.nmoCopyOp (d : Dev) (n src dst len : Nat) : NmoResult :=
  if src % 64 != 0 || dst % 64 != 0 || len % 64 != 0 then nmoReject 0x2004
  else if len = 0 || !inPileN n src len || !inPileN n dst len then nmoReject 0x2005
  else match d.nmoBad [(src, len)] with
    | some m => m
    | none => { out := [(dst, readBytes d.byte src len)] }

/-- Bytes of `n` elements of `w` bits (R57). -/
def packedLen (w n : Nat) : Nat := ceilDiv (w * n) 8

/-- The body of tile (i, j) of a dense tensor (R177): its bytes, and its population. -/
def denseBody (rd : Nat → Byte) (src stride w fmt rows cols i j : Nat) : List Byte × Nat :=
  let segs := (upto 64).map fun r =>
    let cs := (upto 64).filter fun c => decide (64 * i + r < rows) && decide (64 * j + c < cols) &&
      (match elemDecode fmt (packedBits rd (src + (64 * i + r) * stride) w (64 * j + c)) with | .fin _ m _ => m != 0 | _ => true)
    let vs := cs.map fun c => packedBits rd (src + (64 * i + r) * stride) w (64 * j + c)
    (leBytes (cs.foldl (fun x c => x + 2 ^ c) 0) 8 ++ padTo 8 (packBits w vs), vs.length)
  (padTo 64 (segs.flatMap fun s => s.1), segs.foldl (fun n s => n + s.2) 0)

/-- The tiles of a COMPACT in tile order: the runs written, the next body offset in units of 64 bytes, the stored values so far, and whether
the bodies have passed the capacity, which stops it. -/
def compactTiles (dir body cap fmt : Nat) : List (List Byte × Nat) → Nat → Nat → Nat → List (Nat × List Byte) × Nat × Bool
  | [], _, _, z => ([], z, true)
  | (bs, pop) :: ts, k, off, z =>
    if cap < 64 * off + bs.length then ([], z, false)
    else
      let head := leBytes pop 2 ++ leBytes fmt 1 ++ leBytes 0 1 ++ leBytes (bs.length / 64) 2 ++ leBytes z 6 ++ leBytes off 4
      let (rs, z', ok) := compactTiles dir body cap fmt ts (k + 1) (off + bs.length / 64) (z + pop)
      ((dir + 16 * k, head) :: (body + 64 * off, bs) :: rs, z', ok)

/-- Stored values of rows 0 to `r - 1` of a dense tensor. -/
def denseRowPops (rd : Nat → Byte) (src stride w fmt rows cols : Nat) : List Nat :=
  (upto rows).map fun r => ((upto cols).filter fun c =>
    match elemDecode fmt (packedBits rd (src + r * stride) w c) with | .fin _ m _ => m != 0 | _ => true).length

/-- Whether some run of a list meets some run of another. -/
def runsMeet (xs ys : List (Nat × Nat)) : Bool := xs.any fun a => ys.any fun b => overlap a.1 a.2 b.1 b.2

/-- COMPACT (R317). -/
def Dev.nmoCompactOp (d : Dev) (n src dst cap stride : Nat) : NmoResult :=
  if src % 64 != 0 || dst % 64 != 0 || cap % 64 != 0 || stride % 64 != 0 then nmoReject 0x2004
  else if !inPileN n dst 64 then nmoReject 0x2005
  else
    let r : Raw := readBytes d.byte dst 64
    let dir := r.u 0 8
    let body := r.u 8 8
    let rp := r.u 16 8
    let rows := r.u 40 4
    let cols := r.u 44 4
    let fmt := r.u 56 1
    let w := elemBits fmt
    if 6 < fmt then nmoReject 0x4005
    else if dir % 64 != 0 || body % 64 != 0 || rp % 8 != 0 then nmoReject 0x2004
    else
      let reads := (upto rows).map fun i => (src + i * stride, packedLen w cols)
      let tiles := ceilDiv rows 64 * ceilDiv cols 64
      if !inPileN n dir (16 * tiles) || !inPileN n body 1 || !inPileN n rp (8 * (rows + 1)) || reads.any fun x => !inPileN n x.1 x.2 then nmoReject 0x2005
      else match d.nmoBad ((dst, 64) :: reads) with
        | some m => m
        | none =>
          let bodies := (upto tiles).map fun k => denseBody d.byte src stride w fmt rows cols (k / ceilDiv cols 64) (k % ceilDiv cols 64)
          let (runs, z, ok) := compactTiles dir body cap fmt bodies 0 0 0
          let pops := denseRowPops d.byte src stride w fmt rows cols
          let rps := (upto (rows + 1)).flatMap fun i => leBytes (pops.take i).sum 8
          if runsMeet reads ((dst, 64) :: (rp, 8 * (rows + 1)) :: runs.map fun x => (x.1, x.2.length)) then nmoReject 0x2002
          else if runs.any fun x => !inPileN n x.1 x.2.length then nmoReject 0x2005
          else if !ok then { status := 0x2005, out := runs }
          else { out := runs ++ [(rp, rps), (dst + 48, leBytes z 8)] }

/-- Compare two exact magnitudes m * 2^q. -/
def sameValue (m₁ : Nat) (q₁ : Int) (m₂ : Nat) (q₂ : Int) : Bool :=
  let q := min q₁ q₂
  m₁ * 2 ^ (q₁ - q).toNat == m₂ * 2 ^ (q₂ - q).toNat

/-- One element of an MX output block (R318): the code of x / 2^X, where x has the code `c` and the scale exponent `e`, and whether rounding
changed its value. An element that is not finite keeps its code. -/
def expandCode (fmt c : Nat) (e X : Int) : Nat × Bool :=
  match elemDecode fmt c with
  | .fin s m q =>
    let c' := mxCode (fmt - 7) .ne 0 X (.fin s m (q + e))
    (c', match elemDecode fmt c' with | .fin _ m' q' => !sameValue m (q + e - X) m' q' | _ => true)
  | _ => (c, false)

/-- An MX output block: its scale byte, its codes and the elements rounded. Elements come as column, code and scale byte. -/
def expandBlock (fmt : Nat) (els : List (Nat × Nat × Byte)) : Byte × List (Nat × Nat) × Nat :=
  if els.isEmpty then (0, [], 0)
  else if els.any fun x => x.2.2 == 0xFF then (0xFF, [], 0)
  else
    let X := els.foldl (fun (m : Int) x => max m ((x.2.2.toNat : Int) - 127)) (-127)
    let cs := els.map fun x => (x.1, expandCode fmt x.2.1 ((x.2.2.toNat : Int) - 127) X)
    (BitVec.ofInt 8 (X + 127), cs.map fun x => (x.1, x.2.1), (cs.filter fun x => x.2.2).length)

/-- The stored values of a row across its tiles: column and code. -/
def rowStored (rd : Nat → Byte) (w : Nat) (ts : List Tile) (r : Nat) : List (Nat × Nat) :=
  ts.zipIdx.flatMap fun p =>
    let (bm, a) := nth p.1.segs r (0, 0)
    ((upto 64).filter fun c => bit bm c).zipIdx.map fun q => (64 * p.2 + q.1, packedBits rd a w q.2)

/-- The scale byte of each stored value of a row (R179): blocks of 32 stored values within runs of 65,536 columns; `a` is the row's first scale. -/
def rowScales (rd : Nat → Byte) (a : Nat) (vs : List (Nat × Nat)) : List (Nat × Nat × Byte) :=
  let runLen (q : Nat) : Nat := (vs.filter fun v => v.1 / 65536 == q).length
  let before (q : Nat) : Nat := (upto q).foldl (fun n p => n + ceilDiv (runLen p) 32) 0
  vs.map fun v =>
    let j := (vs.filter fun u => u.1 / 65536 == v.1 / 65536 && decide (u.1 < v.1)).length
    (v.1, v.2, rd (a + before (v.1 / 65536) + j / 32))

/-- Blocks of scales that a row has (R179). -/
def rowScaleBytes (vs : List (Nat × Nat)) : Nat :=
  ((vs.map fun v => v.1 / 65536).eraseDups).foldl (fun n q => n + ceilDiv (vs.filter fun v => v.1 / 65536 == q).length 32) 0

/-- EXPAND (R318). -/
def Dev.nmoExpandOp (d : Dev) (n src dst aux stride : Nat) : NmoResult :=
  let r : Raw := readBytes d.byte src 64
  let fmt := r.u 56 1
  let mx := isMx fmt
  let w := elemBits fmt
  let rows := r.u 40 4
  let cols := r.u 44 4
  let tc := ceilDiv cols 64
  if src % 64 != 0 || dst % 64 != 0 || stride % 64 != 0 || (mx && aux % 64 != 0) then nmoReject 0x2004
  else if !inPileN n src 64 then nmoReject 0x2005
  else if 12 < fmt then nmoReject 0x4005
  else if r.u 0 8 % 64 != 0 || r.u 8 8 % 64 != 0 || (mx && r.u 24 8 % 8 != 0) then nmoReject 0x2004
  else
    let ts := (upto (ceilDiv rows 64 * tc)).map (tileAt d.byte r)
    let rowTiles (i : Nat) : List Tile := (ts.drop (i / 64 * tc)).take tc
    let stored (i : Nat) : List (Nat × Nat) := rowStored d.byte w (rowTiles i) (i % 64)
    let sc (i : Nat) : Nat := r.u 32 8 + leNat d.byte (r.u 24 8 + 8 * i) 8
    let nb := ceilDiv cols 32
    let reads := (src, 64) :: (r.u 0 8, 16 * ts.length) :: (ts.map fun t => (t.body, 64 * t.bodyLen)) ++
      (if mx then (r.u 24 8, 8 * (rows + 1)) :: (upto rows).map fun i => (sc i, rowScaleBytes (stored i)) else [])
    let writes := (upto rows).flatMap fun i => (dst + i * stride, packedLen w cols) :: (if mx then [(aux + i * nb, nb)] else [])
    if (reads ++ writes).any fun x => !inPileN n x.1 x.2 then nmoReject 0x2005
    else if runsMeet reads writes then nmoReject 0x2002
    else match d.nmoBad reads with
      | some m => m
      | none =>
        if ts.any fun t => t.fmt != fmt || t.reserved != 0 || decide (t.bodyLen * 64 < t.need) then nmoReject 0x4005
        else
          let (_, pops, pres) := fixHeaders none ts
          let dense (vs : List (Nat × Nat)) : List Byte :=
            packBits w ((upto cols).map fun c => ((vs.find? fun v => v.1 == c).map fun v => v.2).getD 0)
          if mx then
            let blocks (i : Nat) : List (Byte × List (Nat × Nat) × Nat) :=
              let vs := rowScales d.byte (sc i) (stored i)
              (upto nb).map fun j => expandBlock fmt (vs.filter fun v => v.1 / 32 == j)
            { out := (upto rows).flatMap fun i =>
                [(dst + i * stride, dense ((blocks i).flatMap fun b => b.2.1)), (aux + i * nb, (blocks i).map fun b => b.1)]
              popFixes := pops, prefixFixes := pres
              rerounded := ((upto rows).flatMap blocks).foldl (fun n b => n + b.2.2) 0 }
          else
            { out := (upto rows).map fun i => (dst + i * stride, dense (stored i)), popFixes := pops, prefixFixes := pres }

/-- What the operation in progress at a pile does. -/
def Dev.nmoResult (d : Dev) (n op : Nat) : NmoResult :=
  let a := aPl n
  let src := d.rd64 (a + rPlNmoSrc)
  let dst := d.rd64 (a + rPlNmoDst)
  let aux := d.rd64 (a + rPlNmoAux)
  let len := d.rd64 (a + rPlNmoLen)
  let arg := d.rd64 (a + rPlNmoArg)
  match op with
  | 1 => nmoFill n dst len (arg % 2 ^ 32)
  | 2 => d.nmoCopyOp n src dst len
  | 3 => d.nmoCompactOp n src dst len arg
  | _ => d.nmoExpandOp n src dst aux arg

/-- NMO_DONE (R315): the operation's writes, its counts, its status and its bytes, in one; an uncorrectable word that ended it is counted and
recorded (R313, R314). -/
def Dev.nmoDone (d : Dev) (n : Nat) : Dev :=
  match (d.pile n).nmo with
  | none => d
  | some op =>
    let m := d.nmoResult n op
    let d := m.out.foldl (fun d p => d.writeBytes p.1 p.2) d
    let d := match m.bad with
      | some w => d.notePile w 2 false 0
      | none => d
    let rn := aRn n
    let d := if m.popFixes = 0 then d else (d.inc64 (rn + rRnSpPopFixes) m.popFixes).setBit (rn + rRnSpSticky) 0
    let d := if m.prefixFixes = 0 then d else (d.inc64 (rn + rRnSpPrefixFixes) m.prefixFixes).setBit (rn + rRnSpSticky) 1
    let d := d.inc64 (aPl n + rPlNmoRerounded) m.rerounded
    let d := d.wr (aPl n + rPlNmoStatus) (m.status.setWidth 32)
    let d := d.wr64 (aPl n + rPlNmoDoneBytes) (m.out.foldl (fun k p => k + p.2.length) 0)
    ((d.modPile n fun p => { p with nmo := none }).clrBit (aPl n + rPlState) 4).setBit (aPl n + rPlSticky) 3

/-- NMO_DONE. -/
def execNmoDone (pile : Fin 8) (s : State) : Out := event (fun d => d.nmoDone pile) s

end Sys2Proof.Machine
end

