-- ==== Sys2Proof/Machine/Clears.lean ====
section
/-! DEFINITION. The writes that clear counters and W1C bits (R541), and the Flicker table registers (R366 to R368). -/

namespace Sys2Proof.Machine

/-- Clear the W1C bits of the word at an address. -/
def Dev.clearSticky (d : Dev) (a : Nat) : Dev :=
  d.wr a (d.rd a &&& ~~~ BitVec.ofNat 32 (((wordAt a).map fun w => w.w1c).getD 0))

/-- Clear the 64-bit counters at some offsets of a block and the W1C bits of its sticky word. -/
def Dev.clearBlock (d : Dev) (base sticky : Nat) (counters : List Nat) : Dev :=
  (counters.foldl (fun d o => d.wr64 (base + o) 0) d).clearSticky (base + sticky)

/-- HB_UNMAPPED_CLEAR (R50). -/
def Dev.hbClear (d : Dev) : Dev := (d.wr64 (aHb + rHbUnmapped) 0).wr (aHb + rHbUnmappedLast) 0
/-- CO_ARITH_CLEAR (R91). -/
def Dev.arithClear (d : Dev) (r k : Nat) : Dev :=
  d.clearBlock (aCo r k) rCoArithSticky [rCoDropEvents, rCoChunksClosed, rCoChunksDropping, rCoAutoCloses, rCoReplaysAnchor, rCoReplaysError,
    rCoSaturations, rCoInvalids]
/-- CO_SP_CLEAR (R209). -/
def Dev.coreSpClear (d : Dev) (r k : Nat) : Dev :=
  d.clearBlock (aCo r k) rCoSpSticky [rCoSpRangeDrops, rCoSpOrderDrops, rCoSpScatDrops, rCoSpTilesSparse, rCoSpTilesDense, rCoSpPlyBits]
/-- CO_PL_CLEAR (R345). -/
def Dev.plaitClear (d : Dev) (r k : Nat) : Dev := d.clearBlock (aCo r k) rCoPlSticky [rCoPlOps, rCoPlHolds, rCoPlHoldCyc]
/-- CO_PF_CLEAR (R492). -/
def Dev.perfClear (d : Dev) (r k : Nat) : Dev :=
  [rCoPfIssue, rCoPfHold, rCoPfSwitch, rCoPfIdle, rCoPfTarray, rCoPfProducts].foldl (fun d o => d.wr64 (aCo r k + o) 0) d
/-- RN_SP_CLEAR (R210). -/
def Dev.regionSpClear (d : Dev) (r : Nat) : Dev := d.clearBlock (aRn r) rRnSpSticky [rRnSpPopFixes, rRnSpPrefixFixes]
/-- RN_BC_CLEAR (R229). -/
def Dev.beaconClear (d : Dev) (r : Nat) : Dev :=
  d.clearBlock (aRn r) rRnBcSticky [rRnBcPasses, rRnBcAudited, rRnBcMisses, rRnBcCapped, rRnBcFallbacks]
/-- RN_ST_CLEAR (R262). -/
def Dev.storeClear (d : Dev) (r : Nat) : Dev :=
  d.clearBlock (aRs r) rRnStSticky [rRnStCorrected, rRnStUncorrectable, rRnStScrubPasses, rRnStHitchDenied]
/-- ST_CLEAR (R301). -/
def Dev.streamClear (d : Dev) (r c : Nat) : Dev := d.clearBlock (aSt r c) rStSticky [rStDescs, rStBytes, rStRearms, rStRangeDrops]
/-- PL_CLEAR (R324). -/
def Dev.pileClear (d : Dev) (n : Nat) : Dev :=
  d.clearBlock (aPl n) rPlSticky [rPlCorrected, rPlUncorrectable, rPlLayerFixes, rPlLinkRetries, rPlScrubPasses, rPlNmoRerounded]
/-- LL_CLEAR (R395). -/
def Dev.lampClear (d : Dev) : Dev := d.clearBlock aLl rLlSticky [rLlAccepts, rLlRefusals, rLlAborts, rLlOverruns]
/-- ET_CLEAR (R427). -/
def Dev.portClear (d : Dev) (p : Nat) : Dev :=
  d.clearBlock (aEt p) rEtSticky [rEtFcsErrors, rEtFecCorrected, rEtFecUncorrected, rEtRqDrops, rEtRqPoison, rEtMacsecDrops, rEtPausesSent, rEtPausesReceived]
/-- MT_CLEAR (R428). -/
def Dev.mbtClear (d : Dev) : Dev :=
  d.clearBlock aMt rMtSticky [rMtCheckFails, rMtRetransmits, rMtNaks, rMtRejects, rMtSessionFails, rMtDiscarded]
/-- TT_CLEAR (R455). -/
def Dev.tetherClear (d : Dev) : Dev := d.clearBlock aTt rTtSticky [rTtBeatsMissed, rTtMismatches, rTtUnmirrored, rTtTakeovers]
/-- ER_STATE.clear (R458): the counters of an error record. -/
def Dev.erClear (d : Dev) (base : Nat) : Dev := ((d.wr (base + rErOverflow) 0).wr64 (base + rErCorrected) 0).wr64 (base + rErFaults) 0

/-- The error record whose ER_STATE stands at an address, with its number of entries (R457). -/
def recordAt (a : Nat) : Option Nat :=
  if a = aErDv then some 256
  else if 0x20000000 ≤ a && a < 0x20800000 then if a % 0x100000 = 0x10000 then some 128 else none
  else if 0x10000000 ≤ a && a < 0x18000000 then
    let o := a % 0x1000000
    if o = 0x40000 then some 128
    else if 0x100000 ≤ o && o < 0x1A0000 then
      if o % 0x4000 = 0x1000 then some 16 else if 0x2000 ≤ o % 0x4000 && o % 0x4000 < 0x3000 && o % 0x40 == 0 then some 1 else none
    else none
  else none

/-- HB_UNMAPPED_CLEAR. -/
def execHbUnmappedClear (who : Requester) (s : State) : Out := event (fun d => d.asked who (aHb + rHbUnmappedClear) Dev.hbClear) s
/-- CO_ARITH_CLEAR. -/
def execCoArithClear (who : Requester) (region : Fin 8) (core : Fin 40) (s : State) : Out :=
  event (fun d => d.asked who (aCo region core + rCoArithClear) fun d => d.unlocked (aCo region core) fun d => d.arithClear region core) s
/-- CO_SP_CLEAR. -/
def execCoSpClear (who : Requester) (region : Fin 8) (core : Fin 40) (s : State) : Out :=
  event (fun d => d.asked who (aCo region core + rCoSpClear) fun d => d.unlocked (aCo region core) fun d => d.coreSpClear region core) s
/-- CO_PL_CLEAR. -/
def execCoPlClear (who : Requester) (region : Fin 8) (core : Fin 40) (s : State) : Out :=
  event (fun d => d.asked who (aCo region core + rCoPlClear) fun d => d.unlocked (aCo region core) fun d => d.plaitClear region core) s
/-- CO_PF_CLEAR. -/
def execCoPfClear (who : Requester) (region : Fin 8) (core : Fin 40) (s : State) : Out :=
  event (fun d => d.asked who (aCo region core + rCoPfClear) fun d => d.unlocked (aCo region core) fun d => d.perfClear region core) s
/-- RN_SP_CLEAR. -/
def execRnSpClear (who : Requester) (region : Fin 8) (s : State) : Out :=
  event (fun d => d.asked who (aRn region + rRnSpClear) fun d => d.unlocked (aRn region) fun d => d.regionSpClear region) s
/-- RN_BC_CLEAR. -/
def execRnBcClear (who : Requester) (region : Fin 8) (s : State) : Out :=
  event (fun d => d.asked who (aRn region + rRnBcClear) fun d => d.unlocked (aRn region) fun d => d.beaconClear region) s
/-- RN_ST_CLEAR. -/
def execRnStClear (who : Requester) (region : Fin 8) (s : State) : Out :=
  event (fun d => d.asked who (aRs region + rRnStClear) fun d => d.unlocked (aRs region) fun d => d.storeClear region) s
/-- ST_CLEAR. -/
def execStClear (who : Requester) (region channel : Fin 8) (s : State) : Out :=
  event (fun d => d.asked who (aSt region channel + rStClear) fun d => d.unlocked (aSt region channel) fun d => d.streamClear region channel) s
/-- PL_CLEAR. -/
def execPlClear (who : Requester) (pile : Fin 8) (s : State) : Out := event (fun d => d.asked who (aPl pile + rPlClear) fun d => d.pileClear pile) s
/-- LL_CLEAR. -/
def execLlClear (who : Requester) (s : State) : Out := event (fun d => d.asked who (aLl + rLlClear) Dev.lampClear) s
/-- ET_CLEAR. -/
def execEtClear (who : Requester) (port : Fin 2) (s : State) : Out := event (fun d => d.asked who (aEt port + rEtClear) fun d => d.portClear port) s
/-- MT_CLEAR. -/
def execMtClear (who : Requester) (s : State) : Out := event (fun d => d.asked who (aMt + rMtClear) Dev.mbtClear) s
/-- TT_CLEAR. -/
def execTtClear (who : Requester) (s : State) : Out := event (fun d => d.asked who (aTt + rTtClear) Dev.tetherClear) s
/-- ER_STATE_CLEAR (R458): `addr` is that of an ER_STATE register. -/
def execErStateClear (who : Requester) (addr : W32) (s : State) : Out :=
  event (fun d => d.asked who addr.toNat fun d => d.unlocked addr.toNat fun d => if (recordAt addr.toNat).isSome then d.erClear addr.toNat else d) s

/-! ### The Flicker table (R366 to R368) -/

/-- HB_FLK_CTL.commit (R367): a further commit while one is pending has no further effect. -/
def Dev.flkCommit (d : Dev) : Dev := d.setBit (aHb + rHbFlkState) 0

/-- HB_FLK_CTL_COMMIT. -/
def execHbFlkCtlCommit (who : Requester) (s : State) : Out := event (fun d => d.asked who (aHb + rHbFlkCtl) Dev.flkCommit) s

/-- Load the default table into the shadow table and the active tables (R366). -/
def Dev.flkDefault (d : Dev) : Dev :=
  let d := (upto 1024).foldl (fun d j => d.wr (aHb + rHbFlkTab + 4 * j) (flickerDefault j)) d
  ((upto 8).foldl (fun d r => d.modRegion r fun g => { g with flk := [] }) d).setBit (aHb + rHbFlkState) 1

/-- FLK_TABLE_COPY (R367): with no task bound on any region, the shadow table becomes active everywhere. -/
def Dev.flkCopy (d : Dev) : Dev :=
  if !d.flag (aHb + rHbFlkState) 0 || d.tasks.any fun t => t.started then d
  else
    let t : Sparse W32 := (upto 1024).foldl (fun m j => sset flickerDefault m j (d.rd (aHb + rHbFlkTab + 4 * j))) []
    let d := (upto 8).foldl (fun d r => d.modRegion r fun g => { g with flk := t }) d
    let d := (d.putBit (aHb + rHbFlkState) 1 t.isEmpty).clrBit (aHb + rHbFlkState) 0
    d.setFld (aHb + rHbFlkState) 31 16 (satTo 16 (d.fld (aHb + rHbFlkState) 31 16 + 1))

/-- FLK_TABLE_COPY. -/
def execFlkTableCopy (s : State) : Out := event Dev.flkCopy s

end Sys2Proof.Machine
end

