-- ==== Sys2Proof/Machine/Pair.lean ====
section
/-! DEFINITION. The Tether's own operations (R430 to R453): the stored pairing record, JOIN, STATE, the choice of roles and the join. -/

namespace Sys2Proof.Machine

/-! ### The stored pairing record (R430, R524) -/

/-- binding_id. -/
def Dev.pairBinding (d : Dev) : Nat := d.em 0x80 8
/-- peer_serial. -/
def Dev.pairPeerSerial (d : Dev) : Nat := d.em 0x88 8
/-- mode. -/
def Dev.pairMode (d : Dev) : Nat := d.em 0x90 1
/-- role_claim. -/
def Dev.pairClaim (d : Dev) : Nat := d.em 0x91 1
/-- tether_port: 0 A, 1 B. -/
def Dev.pairPort (d : Dev) : Nat := d.em 0x92 1 % 2
/-- alt_path. -/
def Dev.pairAlt (d : Dev) : Bool := bit (d.em 0x93 1) 0
/-- peer_ip. -/
def Dev.peerIp (d : Dev) : Ip := BitVec.ofNat 128 (d.em 0xA0 16)
/-- peer_ip_alt. -/
def Dev.peerIpAlt (d : Dev) : Ip := BitVec.ofNat 128 (d.em 0xB0 16)
/-- The module's serial number (R524, R542). -/
def Dev.serialNo (d : Dev) : Nat := d.em 0x18 8
/-- The pair epoch. -/
def Dev.epoch (d : Dev) : Nat := d.em 0x28 4
/-- Whether the pair is a Mirror or Standby pair. -/
def Dev.pairServes (d : Dev) : Bool := d.pairMode == 1 || d.pairMode == 2
/-- Whether this module serves the pair address (R434): the primary of a Mirror or Standby pair. -/
def Dev.servesPair (d : Dev) : Bool := d.ttPrimary && d.pairServes && decide (2 ≤ d.ttState) && decide (d.ttState ≤ 4)
/-- Whether the module is Lit (R501). -/
def Dev.lit (d : Dev) : Bool := d.fld (aPw + rPwState) 2 0 == 2
/-- Set the Tether state that TT_STATE shows. -/
def Dev.setTether (d : Dev) (st : Nat) (primary : Bool) : Dev := (d.setFld (aTt + rTtState) 2 0 st).putBit (aTt + rTtState) 3 primary
/-- The module is no longer fresh (R441). -/
def Dev.notFresh (d : Dev) : Dev := d.clrBit (aTt + rTtState) 6
/-- Change the Tether engine. -/
def Dev.modTwin (d : Dev) (f : Twin → Twin) : Dev := { d with twin := f d.twin }

/-! ### JOIN and STATE (R436, R441, R442) -/

/-- The body of a JOIN. -/
def Dev.joinBody (d : Dev) : List Byte :=
  d.emBytes 0x80 96 ++ leBytes d.serialNo 8 ++ leBytes d.ttState 1 ++ leBytes (d.fld (aTt + rTtState) 6 6) 1 ++ leBytes 0 2 ++ leBytes d.epoch 4

/-- Send JOIN on the Tether session. -/
def Dev.sendJoin (d : Dev) : Dev :=
  let q := (d.session tether).txSeq
  (d.sendRaw tether { type := 0x40, session := 0, body := d.joinBody }).modTwin fun t => { t with joinSent := some q, joinAcked := false }

/-- The entry of a region in STATE (R442). -/
def Dev.stateEntry (d : Dev) (n : Nat) : List Byte :=
  let vacant := (upto 36).foldl (fun x k => if d.flag (aRn n + rRnLmap + 4 * k) 6 then x + 2 ^ k else x) 0
  let off := (d.rd64 (aRs n + rRnBgOffLo) ||| d.rd64 (aRs n + rRnBgBusyLo)) +
    (d.fld (aRs n + rRnBgOffHi) 7 0 ||| d.fld (aRs n + rRnBgBusyHi) 7 0) * 2 ^ 64
  leBytes vacant 5 ++
  leBytes (d.fld (aRs n + rRnStSlice) 3 0 + (d.flag (aRn n + rRnState) 4).toNat * 16 + (d.pileState n == 5).toNat * 32) 1 ++
  leBytes (d.fMhz n) 2 ++ leBytes (if d.flag (aTp n + rTpState) 8 then d.fMhz n - 100 else 0) 2 ++ leBytes off 9 ++ leBytes 0 5

/-- The entries of all regions. -/
def Dev.stateEntries (d : Dev) : List Byte := (upto 8).flatMap d.stateEntry

/-- Send STATE. -/
def Dev.sendState (d : Dev) : Dev :=
  let es := d.stateEntries
  (d.sendRaw tether { type := 0x44, session := 0, body := leBytes d.epoch 4 ++ leBytes 0 4 ++ es }).modTwin fun t => { t with stateSent := es }

/-- Send STATE again after a change to its inputs (R442). -/
def Dev.stateRefresh (d : Dev) : Dev :=
  if (d.ttState = 2 || d.ttState = 3) && !d.twin.stateSent.isEmpty && d.stateEntries ≠ d.twin.stateSent then d.sendState else d

/-! ### Joining (R434, R441, R453) -/

/-- Enter FENCED (R453): the pair address is dropped and every task is aborted. -/
def Dev.enterFenced (d : Dev) : Dev :=
  (d.setTether 5 false).abortAll (d.tasks.map fun t => t.id) 0x7007

/-- Enter JOINED with a role: beats start, and STATE is sent. -/
def Dev.enterJoined (d : Dev) (p : PeerJoin) (primary : Bool) : Dev :=
  let d := (d.setTether 2 primary).wr64 (aTt + rTtPeerSerial) p.serial.toNat
  (d.modTwin fun t => { t with beats := 0, heard := true, missed := 0, good := 0, stateGot := none }).sendState

/-- Whether this module wins over its twin: by epoch when both are SOLO, and then by serial. -/
def Dev.winsOver (d : Dev) (p : PeerJoin) : Bool :=
  if d.epoch ≠ p.epoch.toNat then decide (p.epoch.toNat < d.epoch) else decide (p.serial.toNat < d.serialNo)

/-- Join with the twin whose valid JOIN is held, once the own JOIN has been acknowledged (SEEKING) or at once (SOLO). -/
def Dev.tryJoin (d : Dev) : Dev :=
  match d.twin.joined with
  | none => d
  | some p =>
    if d.ttState = 1 && d.twin.joinAcked then
      if p.state = 4 then d.enterJoined p false
      else if d.pairClaim ≠ p.claim then d.enterJoined p (d.pairClaim == 0)
      else d.enterJoined p (decide (p.serial.toNat < d.serialNo))
    else if d.ttState = 4 then
      if p.state ≠ 4 || d.winsOver p then d.enterJoined p true
      else if d.pairServes then d.enterFenced
      else d.enterJoined p false
    else d

end Sys2Proof.Machine
end

