-- ==== Sys2Proof/Machine/Link.lean ====
section
/-! DEFINITION. The Ethernet ports (R397 to R401, R408, R424 to R426): links, addresses, the receive queues and their flow control, pauses, and
the answers to ARP, neighbour solicitation and echo requests. -/

namespace Sys2Proof.Machine

/-! ### Addresses -/

/-- Whether a port answers for an address: its own, or the pair address on the module that serves it (R434). -/
def Dev.answersFor (d : Dev) (p : Nat) (a : Ip) : Bool := d.ownIp p a || (d.servesPair && a == d.pairIp)
/-- The MAC address that answers for an address: pair_mac for the pair address. -/
def Dev.macFor (d : Dev) (p : Nat) (a : Ip) : BitVec 48 :=
  if d.ownIp p a then d.portMac p (if d.flag (aEt p + rEtState) 0 then 0 else 1) else d.pairMac
/-- Whether a frame's destination is one of the module's MAC addresses on a port (R399, R434). -/
def Dev.ownMac (d : Dev) (p : Nat) (m : BitVec 48) : Bool :=
  m == d.portMac p 0 || (d.fld (aEt p + rEtMode) 1 0 == 2 && m == d.portMac p 1) || (d.servesPair && m == d.pairMac)

/-! ### Links (R398, R408) -/

/-- Make port `p` the home port of the sessions whose home port has no link, while `p` has one (R408). -/
def Dev.rehome (d : Dev) (p : Nat) : Dev :=
  if d.portUp p && !d.portUp (1 - p) then
    { d with net := { d.net with sessions := d.net.sessions.foldl (fun m e =>
        if e.2.home = 1 - p then sset (fun _ => {}) m e.1 { e.2 with home := p } else m) d.net.sessions } }
  else d

/-- Where PTP runs, a port that comes up listens for a time source (R403, R505). -/
def Dev.ptpListen (d : Dev) (p : Nat) : Dev :=
  if d.flag (aEt p + rEtPtpCfg) 0 then
    let d := if d.fld (aEt p + rEtState) 5 4 = 0 then d.setFld (aEt p + rEtState) 5 4 1 else d
    if d.fld (aCk + rCkState) 2 1 = 0 then d.setFld (aCk + rCkState) 2 1 1 else d
  else d

/-- LINK_UP: sublink 1 exists in 2 × 200GBASE-R mode only; the port trains on while its other sublink is down. -/
def Dev.linkUp (d : Dev) (p sub : Nat) : Dev :=
  let mode := d.fld (aEt p + rEtMode) 1 0
  if mode = 0 || mode = 3 || (sub = 1 && mode ≠ 2) || [0, 4].contains (d.fld (aPw + rPwState) 2 0) then d
  else
    let d := d.setBit (aEt p + rEtState) sub
    let d := if mode = 2 && !d.flag (aEt p + rEtState) (1 - sub) then d else d.clrBit (aEt p + rEtState) 2
    (d.rehome p).ptpListen p

/-- LINK_UP. -/
def execLinkUp (port sub : Fin 2) (s : State) : Out := event (fun d => d.linkUp port sub) s

/-- LINK_DOWN (R408). A port without a link has lost its time source and its neighbours. -/
def Dev.linkDown (d : Dev) (p sub : Nat) : Dev :=
  if d.flag (aEt p + rEtState) sub then
    let d := ((d.clrBit (aEt p + rEtState) sub).setBit (aEt p + rEtState) 2).setBit (aEt p + rEtSticky) 0
    let d := if d.portUp p then d else d.modPort p fun q => { q with known := [], ptp := {} }
    d.rehome (1 - p)
  else d

/-- LINK_DOWN. -/
def execLinkDown (port sub : Fin 2) (s : State) : Out := event (fun d => d.linkDown port sub) s

/-- A write of ET_MODE (R398, R427): mode 3 and a frame_max outside 1,522 to 9,216 leave their fields; `open_` says whether macsec may change. -/
def Dev.etModeWrite (d : Dev) (p v : Nat) (open_ : Bool) : Dev :=
  let a := aEt p + rEtMode
  let old := d.fld a 1 0
  let d := if v % 4 = 3 then d else d.setFld a 1 0 v
  let d := if open_ then d.putBit a 2 (bit v 2) else d
  let d := d.putBit a 3 (bit v 3)
  let m := field v 17 4
  let d := if 1522 ≤ m && m ≤ 9216 then d.setFld a 17 4 m else d
  let mode := d.fld a 1 0
  if mode = old then d
  else
    let d := if d.portUp p then d.setBit (aEt p + rEtSticky) 0 else d
    (d.setFld (aEt p + rEtState) 2 0 (if mode = 0 then 0 else 4)).rehome (1 - p)

/-- Whether a requester may write the registers of R402 of a port: the management bus, or a CWRITE protected on the same port. -/
def portSecured (p : Nat) : Requester → Bool
  | .bus => true
  | .session _ (some q) => q.val == p
  | _ => false
/-- Whether a requester may write the pairing registers (R431). -/
def anySecured : Requester → Bool
  | .bus => true
  | .session _ q => q.isSome
  | .firmware _ => false

/-- ET_MODE_WRITE (R398). -/
def execEtModeWrite (who : Requester) (port : Fin 2) (value : W32) (s : State) : Out :=
  event (fun d => d.asked who (aEt port + rEtMode) fun d => if portSecured port who || value.getLsbD 2 == d.flag (aEt port + rEtMode) 2 then d.etModeWrite port value.toNat (portSecured port who)
    else d) s

/-! ### Frames received: the checks that every frame meets (R399, R401, R427) -/

/-- Drop a frame under MACsec (R401). -/
def Dev.macsecDrop (d : Dev) (p : Nat) : Dev := (d.inc64 (aEt p + rEtMacsecDrops) 1).setBit (aEt p + rEtSticky) 4

/-- The MACsec check of a frame (R401): the device with the lowest acceptable packet number that it leaves, when it passes. `clear` says that it
is a PTP frame, which ptp_clear admits unprotected. -/
def Dev.macsecCheck (d : Dev) (e : Envelope) (clear : Bool) : Option Dev :=
  if d.flag (aEt e.port + rEtMode) 2 then
    match e.sec with
    | none => if clear && d.flag (aEt e.port + rEtMode) 3 then some d else none
    | some t =>
      let a := aEt e.port + rEtSaPn + 64 * t.sa
      if t.intact && d.fld (aEt e.port + rEtSaCtl + 64 * t.sa) 1 0 == 1 && decide (d.rd64 a ≤ t.pn.toNat) then some (d.wr64 a ((t.pn.toNat + 1) % 2 ^ 64))
      else none
  else some d

/-- Count what the FEC found (R427). -/
def Dev.countFec (d : Dev) (e : Envelope) : Dev :=
  let a := aEt e.port
  let d := if e.fecCorrected = 0 then d else d.inc64 (a + rEtFecCorrected) e.fecCorrected
  if e.fecUncorrected = 0 then d else (d.inc64 (a + rEtFecUncorrected) e.fecUncorrected).setBit (a + rEtSticky) 3

/-- Whether a frame passes the filter of ET_VLAN.vid (R399). -/
def Dev.vidOk (d : Dev) (e : Envelope) : Bool :=
  let vid := d.fld (aEt e.port + rEtVlan) 11 0
  !(vid != 0 && e.vid.any fun v => v.toNat != vid)

/-- A frame reaches a port: whether it is accepted, and the device with what it counts. Beside the module's own MAC addresses it may go to those
of a list; the FCS is checked first, and the tag stands under MACsec (R404). -/
def Dev.frameIn (d : Dev) (e : Envelope) (groups : List Nat) (clear : Bool := false) : Bool × Dev :=
  let a := aEt e.port
  if !d.flag (a + rEtState) e.sub then (false, d)
  else
    let d := d.countFec e
    if !e.fcsOk then (false, d.inc64 (a + rEtFcsErrors) 1)
    else if e.size < 64 || d.fld (a + rEtMode) 17 4 < e.size || !(d.ownMac e.port e.dstMac || groups.contains e.dstMac.toNat) then (false, d)
    else if !d.flag (a + rEtMode) 2 && e.sec.isSome then (false, d)
    else match d.macsecCheck e clear with
      | none => (false, d.macsecDrop e.port)
      | some d => (d.vidOk e, d)

/-- Act on a frame that a port accepts. -/
def Dev.onFrame (d : Dev) (e : Envelope) (groups : List Nat) (f : Dev → Dev) : Dev :=
  let r := d.frameIn e groups
  if r.1 then f r.2 else r.2

/-! ### Pauses (R414, R426) -/

/-- Whether a frame carries a message that the transmit path sends ahead of the others (R414): VERDICT, DONE, ABORT, ACK or NAK. -/
def OutFrame.urgent (f : OutFrame) : Bool :=
  match f.payload with
  | .mbt _ m => [0x11, 0x12, 0x13, 4, 5].contains m.type
  | _ => false

/-- Send the frames of a port that no received pause holds any longer, the urgent ones first (R414). -/
def Dev.flushHeld (d : Dev) (p : Nat) : Dev :=
  let free := (d.port p).held.filter fun f => !(d.port p).paused.getLsbD f.pcp
  let d := d.modPort p fun q => { q with held := q.held.filter fun f => q.paused.getLsbD f.pcp }
  (free.filter OutFrame.urgent ++ free.filter fun f => !f.urgent).foldl Dev.launch d

/-- PAUSE_RECEIVE: a PFC frame pauses its priorities for its quanta; quanta 0 ends their pause. -/
def Dev.pauseReceive (d : Dev) (p : Nat) (cs : BitVec 8) (quanta : BitVec 16) : Dev :=
  if d.portUp p then
    ((d.modPort p fun q => { q with paused := if quanta = 0 then q.paused &&& ~~~ cs else q.paused ||| cs }).inc64 (aEt p + rEtPausesReceived) 1).flushHeld p
  else d

/-- PAUSE_RECEIVE: MAC control frames go to an address of their own (log 72). -/
def execPauseReceive (env : Envelope) (classes : BitVec 8) (quanta : BitVec 16) (s : State) : Out :=
  event (fun d => d.onFrame env [0x0180C2000001] fun d => d.pauseReceive env.port classes quanta) s

/-- PAUSE_QUANTA_EXPIRY: the pause of some priorities ends. -/
def execPauseQuantaExpiry (port : Fin 2) (classes : BitVec 8) (s : State) : Out :=
  event (fun d => (d.modPort port fun q => { q with paused := q.paused &&& ~~~ classes }).flushHeld port) s

/-- Send a PFC frame for the priorities enabled in ET_PFC.classes, if any. -/
def Dev.sendPfc (d : Dev) (p quanta : Nat) : Dev :=
  let cs := d.fld (aEt p + rEtPfc) 7 0
  if cs = 0 then d
  else
    let d := d.transmit p 0 (.pause (BitVec.ofNat 8 cs) (BitVec.ofNat 16 quanta))
    if quanta = 0 then d else d.inc64 (aEt p + rEtPausesSent) 1

/-- The level of a receive queue in bytes (R424). -/
def Dev.rqLevel (d : Dev) (p : Nat) : Nat := (d.net.inbox.filter fun m => m.port == p).foldl (fun n m => n + 8 * m.left) 0
/-- The XOFF pin of a port is driven low. -/
def Dev.xoff (d : Dev) (p : Nat) : Bool := d.flag (aEt p + rEtState) 3
/-- Bytes of a receive queue. -/
def rqSize : Nat := 0x800000

/-- The watermarks after a change of the level (R426). -/
def Dev.watermarks (d : Dev) (p : Nat) : Dev :=
  let n := d.rqLevel p
  let c := aEt p + rEtRqCfg
  if !d.xoff p && decide (65536 * d.fld c 6 0 ≤ n) then (d.setBit (aEt p + rEtState) 3).sendPfc p (d.fld (aEt p + rEtPfc) 31 16)
  else if d.xoff p && decide (n ≤ 65536 * d.fld c 14 8) then (d.clrBit (aEt p + rEtState) 3).sendPfc p 0
  else d

/-- PFC_REPEAT (R426). -/
def execPfcRepeat (port : Fin 2) (s : State) : Out :=
  event (fun d => if d.xoff port && decide (65536 * d.fld (aEt port + rEtRqCfg) 14 8 ≤ d.rqLevel port) then d.sendPfc port (d.fld (aEt port + rEtPfc) 31 16) else d) s

/-- Take a word of the oldest message of a port that has words in the queue (R425). -/
def drainFirst (p : Nat) (bad : Bool) : List InMsg → List InMsg
  | [] => []
  | m :: ms =>
    if m.port = p && m.left ≠ 0 then
      { m with left := m.left - 1, poison := if bad then m.poison ++ [ceilDiv m.msg.body.length 8 - m.left] else m.poison } :: ms
    else m :: drainFirst p bad ms

/-- RQ_DRAIN_WORD (R425, R426). -/
def Dev.rqDrain (d : Dev) (p : Nat) (bad : Bool) : Dev :=
  if d.rqLevel p = 0 then d
  else
    let d := { d with net := { d.net with inbox := drainFirst p bad d.net.inbox } }
    let d := if bad then (d.inc64 (aEt p + rEtRqPoison) 1).setBit (aEt p + rEtSticky) 2 else d
    d.watermarks p

/-- RQ_DRAIN_WORD. -/
def execRqDrainWord (port : Fin 2) (parityBad : Bool) (s : State) : Out := event (fun d => d.rqDrain port parityBad) s

/-! ### ARP, neighbour discovery and echo (R397, R434) -/

/-- A port has heard from a neighbour. -/
def Dev.hears (d : Dev) (p : Nat) (a : Ip) : Dev := d.modPort p fun q => if q.known.contains a then q else { q with known := a :: q.known }

/-- ARP_REQUEST: to all, or to one of the module's addresses. -/
def Dev.arpAsked (d : Dev) (p : Nat) (target sender : BitVec 32) (mac : BitVec 48) : Dev :=
  if d.answersFor p (mapV4 target) then
    (d.hears p (mapV4 sender)).transmit p (mapV4 sender) (.arpReply (mapV4 target) (d.macFor p (mapV4 target)) mac) (some (mapV4 target))
  else d
/-- ARP_REQUEST. -/
def execArpRequest (env : Envelope) (target sender : BitVec 32) (mac : BitVec 48) (s : State) : Out :=
  event (fun d => d.onFrame env [0xFFFFFFFFFFFF] fun d => d.arpAsked env.port target sender mac) s

/-- The multicast addresses of IPv6 neighbour discovery for a target: its solicited-node address, and all nodes (log 72). -/
def ndGroups (target : Ip) : List Nat := [0x3333FF000000 + target.toNat % 2 ^ 24, 0x333300000001]
/-- NEIGHBOUR_SOLICIT. -/
def Dev.ndAsked (d : Dev) (p : Nat) (target sender : Ip) (mac : BitVec 48) : Dev :=
  if d.answersFor p target && !ipIsV4 target then
    (d.hears p sender).transmit p sender (.neighbourAdvert target (d.macFor p target) mac) (some target)
  else d
/-- NEIGHBOUR_SOLICIT. -/
def execNeighbourSolicit (env : Envelope) (target sender : BitVec 128) (mac : BitVec 48) (s : State) : Out :=
  event (fun d => d.onFrame env (ndGroups target) fun d => d.ndAsked env.port target sender mac) s

/-- ICMP_ECHO: fragments, IPv4 options and IPv6 extension headers are dropped (R399). -/
def Dev.echoAsked (d : Dev) (p : Nat) (oddIp : Bool) (target sender : Ip) (data : List Byte) : Dev :=
  if !oddIp && d.answersFor p target then d.transmit p sender (.echoReply data) (some target) else d
/-- ICMP_ECHO. -/
def execIcmpEcho (frame : EchoFrame) (target sender : BitVec 128) (data : List Byte) (s : State) : Out :=
  event (fun d => d.onFrame frame.toEnvelope [] fun d => d.echoAsked frame.port frame.oddIp target sender data) s

end Sys2Proof.Machine
end

