-- ==== Sys2Proof/Machine/Sessions.lean ====
section
/-! DEFINITION. MBT sessions at work: frames received (R399, R401, R407, R412), acknowledgements (R412, R413, R446), the session table
(R410, R411), the timers, and the small messages (R416). -/

namespace Sys2Proof.Machine

/-! ### Acknowledgements (R412, R413, R446) -/

/-- The ack that a session's messages carry becomes `n`; an advance is owed to the peer within 2 µs (R412). -/
def Dev.setAck (d : Dev) (s : Nat) (n : W32) : Dev :=
  d.modSession s fun x => if x.ackNo = n then x else { x with ackNo := n, ackOwed := some (x.ackOwed.getD d.dt) }

/-- The first FWD of the Tether session whose message has not been dealt with here (R437): one still in the queue, or one whose write is to
be performed. -/
def Dev.fwdOpen (d : Dev) : List W32 :=
  (d.net.inbox.filter fun m => m.msg.type == 0x41).map (fun m => m.msg.seq) ++ d.net.writes.filterMap fun w => w.fwd

/-- The ack of the Tether session: up to the first FWD that is still open (R437). -/
def Dev.settleTetherAck (d : Dev) : Dev :=
  if (d.session tether).state ≠ 2 then d else
  let rx := (d.session tether).rxExpect
  let back := d.fwdOpen.foldl (fun n q => max n (serialDiff rx q)) 0
  d.setAck tether (rx - BitVec.ofInt 32 back)

/-- The acks of pair sessions that FWDs carried advance once the twin has acknowledged them (R446). -/
def Dev.releaseFwds (d : Dev) (ack : W32) : Dev :=
  let done := d.net.fwdAcks.filter fun e => decide (0 < serialDiff ack e.1)
  let d := { d with net := { d.net with fwdAcks := d.net.fwdAcks.filter fun e => !decide (0 < serialDiff ack e.1) } }
  done.foldl (fun d e => d.setAck e.2.1 e.2.2) d

/-- An ack from the peer of an OPEN session covers messages (R413); `m` is the message that carried it. -/
def Dev.applyAck (d : Dev) (s : Nat) (m : Mbt) : Dev :=
  let x := d.session s
  let covered := x.unacked.filter fun u => decide (0 < serialDiff m.ack u.msg.seq)
  if covered.isEmpty then d
  else
    let d := d.modSession s fun x => { x with unacked := x.unacked.filter (fun u => !decide (0 < serialDiff m.ack u.msg.seq)), retries := 0 }
    let d := d.pump s
    if s = tether then
      let d := match d.twin.joinSent with
        | some q => if 0 < serialDiff m.ack q then d.modTwin fun t => { t with joinSent := none, joinAcked := true } else d
        | none => d
      let d := d.releaseFwds m.ack
      if d.ttState = 1 then d.tryJoin else d
    else if x.pair && d.replicates then
      d.sendRaw tether { type := 0x41, session := 0, body := fwdBody s 1 m.ack m }
    else d

/-- Whether a received message comes from the peer of its session. -/
def Session.fromPeer (x : Session) (m : InMsg) : Bool := x.addr == m.src && x.udp == m.srcUdp

/-- Resend the unacknowledged messages of a session from a number onward (R413). -/
def Dev.resendFrom (d : Dev) (s : Nat) (n : W32) : Dev :=
  let us := (d.session s).unacked.filter fun u => decide (0 ≤ serialDiff u.msg.seq n)
  let d := d.modSession s fun x =>
    { x with unacked := x.unacked.map fun u => if 0 ≤ serialDiff u.msg.seq n then { u with sentAt := d.dt } else u }
  us.foldl (fun d u => (d.sendOn s { u.msg with flags := setField u.msg.flags 1 1 1 }).inc64 (aMt + rMtRetransmits) 1) d

/-! ### Receiving (R399, R401, R407, R412, R424) -/

/-- A datagram passes the filters of R399. -/
def Dev.frameAccepted (d : Dev) (f : Frame) : Bool :=
  !f.oddIp && f.dstPort == d.mbtUdp && f.checksumOk && d.answersFor f.port f.dst

/-- The message in a UDP payload, when R407 finds nothing wrong with it. -/
def mbtParse (bs : List Byte) : Option Mbt :=
  let rd := bytesAt bs
  let len := leNat rd 24 2
  if bs.length < 32 || leNat rd 0 1 ≠ 1 || bs.length ≠ 32 + len ||
      crc32c (bs.take 28 ++ leBytes 0 4 ++ bs.drop 32) ≠ leNat rd 28 4 then none
  else some
    { type := leNat rd 1 1, session := leNat rd 2 2, seq := BitVec.ofNat 32 (leNat rd 4 4), ack := BitVec.ofNat 32 (leNat rd 8 4),
      ref := BitVec.ofNat 32 (leNat rd 12 4), deadline := BitVec.ofNat 64 (leNat rd 16 8), flags := leNat rd 26 2, body := bs.drop 32 }

/-- Put a message into its receive queue (R424). -/
def Dev.enqueue (d : Dev) (m : InMsg) : Dev :=
  ({ d with net := { d.net with inbox := d.net.inbox ++ [m] } }).watermarks m.port

/-- Whether a message is a response. -/
def Mbt.response (m : Mbt) : Bool := bit m.flags 0

/-- Whether a header field that must be 0 is not (R405, R429): reserved flags, a deadline outside a SUBMIT, or a ref in a request. -/
def Mbt.badHeader (m : Mbt) : Bool :=
  decide (4 ≤ m.flags) || (m.type != 0x10 && m.deadline != 0) || (!m.response && m.ref != 0)

/-- Whether a message that no consumer reads has a length or a reserved field that its type does not allow (R429): VERDICT, DONE, ABORT, and the
responses of CREAD, CWRITE, DWRITE and MARK. -/
def Mbt.badAnswer (m : Mbt) : Bool :=
  let n := m.body.length
  let z (o k : Nat) : Bool := leNat (bytesAt m.body) o k == 0
  match m.type, m.response with
  | 0x11, _ => !(n == 68 && z 34 2)
  | 0x12, _ => !(n == 24 && z 6 2)
  | 0x13, _ => !(n == 24 && z 18 2)
  | 0x20, true => !(decide (8 ≤ n) && n == 8 + 4 * leNat (bytesAt m.body) 2 2 && z 4 4)
  | 0x21, true => !(n == 8 && z 4 4)
  | 0x23, true => !(n == 8 && z 2 2)
  | 0x30, true => !(n == 16 && z 2 2)
  | _, _ => false

/-- Whether a body is longer than the largest (R404, R405, R428): the Tether's messages carry whole messages, and R422 judges a DWRITE's. -/
def Dev.overlong (d : Dev) (m : Mbt) : Bool :=
  decide (8192 < m.body.length) || (decide (m.type < 0x40) && !(m.type == 0x23 && !m.response) && decide (64 * d.fld (aMt + rMtCfg) 23 16 < m.body.length))

/-- Whether an accepted message has work for a consumer: the device acts on no VERDICT, DONE, ABORT or TAKEOVER, and on no response but those
of DREAD. -/
def Mbt.consumed (m : Mbt) : Bool := !([0x11, 0x12, 0x13, 0x4A].contains m.type || (m.response && m.type != 0x22 && mbtKnown m.type))

/-- Send an ACK (R412). -/
def Dev.sendAck (d : Dev) (s : Nat) : Dev := d.sendUnseq s 4

/-- Replicate an accepted message of a pair session to the twin (R446): the session's ack waits for the twin's. -/
def Dev.forward (d : Dev) (s : Nat) (m : Mbt) : Dev :=
  let q := (d.session tether).txSeq
  let d := d.sendRaw tether { type := 0x41, session := 0, body := fwdBody s 0 m.seq m }
  { d with net := { d.net with fwdAcks := d.net.fwdAcks ++ [(q, s, (d.session s).rxExpect)] } }

/-- A sequenced message on an OPEN session from its peer (R412). -/
def Dev.sequenced (d : Dev) (m : InMsg) : Dev :=
  let s := m.msg.session
  let x := d.session s
  let diff := serialDiff m.msg.seq x.rxExpect
  if diff < 0 then d.sendAck s
  else if 0 < diff then
    let recent := match x.lastNak with | some (n, at_) => n == x.rxExpect && decide (d.dt.toNat < at_.toNat + 20000) | none => false
    if recent then d
    else ((d.modSession s fun x => { x with lastNak := some (x.rxExpect, d.dt) }).inc64 (aMt + rMtNaks) 1).sendUnseq s 5 (leBytes x.rxExpect.toNat 4)
  else
    let d := d.modSession s fun x => { x with rxExpect := x.rxExpect + 1 }
    let d := if m.msg.badHeader || m.msg.badAnswer || d.overlong m.msg then d.reject s m.msg.seq 0x6002 else if m.msg.consumed then d.enqueue m else d
    if s = tether then d.settleTetherAck
    else if x.pair && d.replicates then d.forward s m.msg
    else d.setAck s (x.rxExpect + 1)

/-- A message whose frame has passed every check reaches its session. -/
def Dev.deliver (d : Dev) (m : InMsg) : Dev :=
  let s := m.msg.session
  let x := d.session s
  if m.msg.type = 1 then d.enqueue m
  else if 4096 ≤ s then d
  else
    let mine := x.fromPeer m
    let d := if mine then d.modSession s fun x => { x with protect := m.protect } else d
    if mbtSequenced m.msg.type then
      if x.state ≠ 2 then
        let (v, d) := d.draw
        let peer := if mine then x.peerSession.toNat else v.toNat % 2 ^ 16
        d.rejectTo m.port m.src m.srcUdp.toNat peer m.msg.seq (if mine then x.ackNo else 0) 0x6003
      else if mine then (d.applyAck s m.msg).sequenced m
      else d
    else
      let d := if x.state = 2 && mine && m.msg.type ≠ 4 && m.msg.type ≠ 5 then d.applyAck s m.msg else d
      if m.msg.consumed then d.enqueue m else d

/-- A UDP datagram that a port has accepted (R399, R407, R424): it passes the filters of its headers, and its message enters the receive queue. -/
def Dev.datagramIn (d : Dev) (f : Frame) : Dev :=
  let a := aEt f.port
  if !d.frameAccepted f then d
  else match mbtParse f.data with
    | none => (d.inc64 (aMt + rMtCheckFails) 1).setBit (aMt + rMtSticky) 0
    | some m =>
      if rqSize < d.rqLevel f.port + 8 * ceilDiv m.body.length 8 then (d.inc64 (a + rEtRqDrops) 1).setBit (a + rEtSticky) 1
      else d.deliver { port := f.port, msg := m, left := ceilDiv m.body.length 8, arrived := d.dt, protect := f.sec.isSome,
                       src := f.src, srcUdp := f.srcPort, dst := f.dst }

/-! ### Messages in turn (R416) -/

/-- Act on the message at the head of the queues when it is of a given kind and its body has been taken: it leaves the queue. -/
def Dev.onMessage (d : Dev) (want : Mbt → Bool) (f : InMsg → Dev → Dev) : Dev :=
  match d.net.inbox with
  | [] => d
  | m :: ms => if want m.msg && m.left == 0 then (f m { d with net := { d.net with inbox := ms } }) else d

/-- Act on an unsequenced message of an OPEN session from its peer. -/
def onOpen (f : InMsg → Dev → Dev) (m : InMsg) (d : Dev) : Dev :=
  let x := d.session m.msg.session
  if x.state = 2 && x.fromPeer m then f m d else d

/-- The pending outgoing messages of a session are discarded (R410). -/
def Dev.dropOutgoing (d : Dev) (s : Nat) : Dev :=
  let x := d.session s
  (d.modSession s fun x => { x with unacked := [], waiting := [] }).countDiscarded (x.unacked.length + x.waiting.length)

/-- A session becomes CLOSED. -/
def Dev.closeSession (d : Dev) (s : Nat) : Dev :=
  (d.dropOutgoing s).modSession s fun x => { x with state := 0, ackOwed := none, lastNak := none, retries := 0, opens := 0, localOpen := false }

/-- The body of a TAKEOVER (R436). -/
def Dev.takeoverBody (d : Dev) : List Byte := leBytes d.epoch 4 ++ leBytes (d.rd (aTt + rTtLastTask)).toNat 4 ++ leBytes d.serialNo 8

/-- A session has become OPEN: it carries the TAKEOVER due on it (R450) and the messages that wait, and the Tether session JOIN (R441). -/
def Dev.sessionOpened (d : Dev) (s : Nat) : Dev :=
  let d := if (d.session s).takeover then (d.modSession s fun x => { x with takeover := false }).sendUnseq s 0x4A d.takeoverBody else d
  (if s = tether && (d.ttState = 1 || d.ttState = 4) then d.sendJoin else d).pump s

/-- The body of OPEN and OPEN_ACK (R411). -/
def openBody (own : Nat) (init resume : W32) : List Byte :=
  leBytes own 2 ++ leBytes 0 2 ++ leBytes init.toNat 4 ++ leBytes resume.toNat 4 ++ leBytes 0 4

/-- Send OPEN_ACK on a session. -/
def Dev.sendOpenAck (d : Dev) (s : Nat) (resume : Bool) : Dev :=
  let x := d.session s
  d.sendUnseq s 2 (openBody s x.nextSeq (if resume then x.rxExpect else 0))

/-- Whether MT_ALLOW admits a source address (R410). -/
def Dev.allowed (d : Dev) (ip : Ip) : Bool :=
  let entry (k : Nat) : Nat := aMt + rMtAllow + 32 * k
  let valid := (upto 16).filter fun k => d.flag (entry k + 16) 8
  valid.isEmpty || valid.any fun k =>
    let n := 128 - min 128 (d.fld (entry k + 16) 7 0)
    ip.toNat / 2 ^ n == (d.rd128 (entry k)).toNat / 2 ^ n

/-- The lowest closed session; 4,095 is never given to an OPEN for any session (R433). -/
def Dev.freeSession (d : Dev) : Option Nat := (upto 4095).find? fun s => (d.session s).state == 0

/-- A new session takes its peer from an OPEN and its first number from DT (R408, R411). -/
def Dev.bindSession (d : Dev) (s : Nat) (m : InMsg) (pair : Bool) (own init : Nat) : Dev :=
  ((d.dropOutgoing s).modSession s fun x =>
    { x with state := 2, home := m.port, localOpen := false, protect := m.protect, pair := pair, addr := m.src, udp := m.srcUdp,
             peerSession := BitVec.ofNat 16 own, txSeq := d.dt.setWidth 32, rxExpect := BitVec.ofNat 32 init, ackNo := BitVec.ofNat 32 init,
             ackOwed := none, lastNak := none, retries := 0, opens := 0 }).rehome (1 - m.port)

/-- OPEN (R410, R411, R433). -/
def Dev.openReceived (m : InMsg) (d : Dev) : Dev :=
  let rd := bytesAt m.msg.body
  let own := leNat rd 0 2
  let init := leNat rd 4 4
  let resume := bit m.msg.flags 2
  let want := m.msg.session
  let refuse (d : Dev) (st : Nat) : Dev := d.rejectTo m.port m.src m.srcUdp.toNat own 0 0 st
  if m.msg.body.length ≠ 16 then d
  else if !d.allowed m.src || (want == tether && d.pairMode != 0 && m.src != d.peerIp && m.src != d.peerIpAlt) then refuse d 0x6005
  else
    let pair := d.servesPair && m.dst == d.pairIp
    let s := if want = 0xFFFF then d.freeSession else if want < 4096 then some want else none
    match s with
    | none => if want = 0xFFFF then refuse d 0x6004 else d
    | some s =>
      let x := d.session s
      match x.state with
      | 0 => if resume then refuse d 0x6003 else ((d.bindSession s m pair own init).sendOpenAck s false).sessionOpened s
      | 1 =>
        if x.fromPeer m && (x.peerSession == 0xFFFF || x.peerSession.toNat == own) then
          ((d.modSession s fun x => { x with state := 2, protect := m.protect, peerSession := BitVec.ofNat 16 own, rxExpect := BitVec.ofNat 32 init,
                                             ackNo := BitVec.ofNat 32 init, opens := 0 }).sendOpenAck s false).sessionOpened s
        else d
      | 2 => if x.fromPeer m && !resume then ((d.bindSession s m x.pair own init).sendOpenAck s false).sessionOpened s else d
      | _ =>
        if x.fromPeer m && resume && x.peerSession.toNat == own then
          let from_ := BitVec.ofNat 32 (leNat rd 8 4)
          let d := d.modSession s fun x => { x with state := 2, protect := m.protect, retries := 0 }
          (((d.sendOpenAck s true).resendFrom s from_).applyAck s { m.msg with ack := from_ }).pump s
        else d

/-- OPEN. -/
def execOpenMsg (s : State) : Out := event (fun d => d.onMessage (fun m => m.type == 1) Dev.openReceived) s

/-- OPEN_ACK (R410): an OPENING session whose addressed peer answers becomes OPEN. -/
def Dev.openAcked (m : InMsg) (d : Dev) : Dev :=
  let s := m.msg.session
  let x := d.session s
  let rd := bytesAt m.msg.body
  let own := leNat rd 0 2
  if x.state = 1 && x.fromPeer m && m.msg.body.length == 16 && (x.peerSession == 0xFFFF || x.peerSession.toNat == own) then
    (d.modSession s fun x => { x with state := 2, protect := m.protect, peerSession := BitVec.ofNat 16 own, opens := 0,
                                      rxExpect := BitVec.ofNat 32 (leNat rd 4 4), ackNo := BitVec.ofNat 32 (leNat rd 4 4) }).sessionOpened s
  else d

/-- OPEN_ACK. -/
def execOpenAckMsg (s : State) : Out := event (fun d => d.onMessage (fun m => m.type == 2) Dev.openAcked) s

/-- CLOSE (R410). -/
def execCloseMsg (s : State) : Out := event (fun d => d.onMessage (fun m => m.type == 3) (onOpen fun m d => d.closeSession m.msg.session)) s

/-- ACK (R413). -/
def execAckMsg (s : State) : Out := event (fun d => d.onMessage (fun m => m.type == 4) (onOpen fun m d => d.applyAck m.msg.session m.msg)) s

/-- Where a NAK has resending begin (R413): at its number, or behind what its ack covers. -/
def nakStart (m : Mbt) : W32 :=
  let n := BitVec.ofNat 32 (ofBytes m.body)
  if 0 < serialDiff m.ack n then m.ack else n

/-- Retransmit the unacknowledged messages of an OPEN session from a number onward; after 8 retransmissions in a row without the ack advancing the
session is suspended (R410, R413). -/
def Dev.resendRound (d : Dev) (s : Nat) (n : W32) : Dev :=
  let x := d.session s
  if x.unacked.all fun u => decide (serialDiff u.msg.seq n < 0) then d
  else if 8 ≤ x.retries then (d.modSession s fun x => { x with state := 3, suspendedAt := d.dt, ackOwed := none }).setBit (aMt + rMtSticky) 1
  else (d.modSession s fun x => { x with retries := x.retries + 1 }).resendFrom s n

/-- NAK (R410, R413): its ack, when it advances, ends the retransmissions in a row. -/
def Dev.nakReceived (m : InMsg) (d : Dev) : Dev :=
  let s := m.msg.session
  let d := if (d.session s).unacked.any fun u => decide (0 < serialDiff m.msg.ack u.msg.seq) then d.modSession s fun x => { x with retries := 0 } else d
  let d := if m.msg.body.length = 4 then d.resendRound s (nakStart m.msg) else d
  d.applyAck s m.msg

/-- NAK. -/
def execNakMsg (s : State) : Out := event (fun d => d.onMessage (fun m => m.type == 5) (onOpen Dev.nakReceived)) s

/-- PING (R416): the response echoes the token and carries the arrival DT. -/
def Dev.pingReceived (m : InMsg) (d : Dev) : Dev :=
  if m.msg.body.length = 16 then d.sendUnseq m.msg.session 6 (m.msg.body.take 8 ++ leBytes m.arrived.toNat 8) 1 else d

/-- PING. -/
def execPingMsg (s : State) : Out := event (fun d => d.onMessage (fun m => m.type == 6) (onOpen Dev.pingReceived)) s

/-- REJECT: the session table lists no event for it (R410). -/
def execRejectMsg (s : State) : Out := event (fun d => d.onMessage (fun m => m.type == 7) fun _ d => d) s

/-- UNKNOWN_MESSAGE (R415, R436): a sequenced message of an unlisted type is rejected, an unsequenced one discarded. -/
def execUnknownMessage (s : State) : Out :=
  event (fun d => d.onMessage (fun m => !mbtKnown m.type)
    fun m d => if mbtSequenced m.msg.type then d.reject m.msg.session m.msg.seq 0x6002 else d) s

/-! ### Timers (R410, R412, R413) -/

/-- RETRANSMIT_TIMER: the oldest message has gone 20 µs without an ack; after 8 retransmissions in a row the session is suspended. -/
def Dev.retransmit (d : Dev) (s : Nat) : Dev :=
  let x := d.session s
  match x.unacked with
  | [] => d
  | u :: _ =>
    if x.state ≠ 2 || decide (d.dt.toNat < u.sentAt.toNat + 20000) then d else d.resendRound s u.msg.seq

/-- RETRANSMIT_TIMER. -/
def execRetransmitTimer (session : Fin 4096) (s : State) : Out := event (fun d => d.retransmit session) s

/-- ACK_TIMER: an advanced ack has gone 2 µs without a message to carry it. -/
def Dev.ackLate (d : Dev) (s : Nat) : Dev :=
  let x := d.session s
  match x.ackOwed with
  | none => d
  | some t => if x.state = 2 && decide (t.toNat + 2000 ≤ d.dt.toNat) then d.sendAck s else d

/-- ACK_TIMER. -/
def execAckTimer (session : Fin 4096) (s : State) : Out := event (fun d => d.ackLate session) s

/-- Send OPEN on an OPENING session. -/
def Dev.sendOpen (d : Dev) (s : Nat) : Dev :=
  let d := d.modSession s fun x => { x with opens := x.opens + 1, openAt := d.dt }
  let x := d.session s
  d.transmit x.home x.addr (.mbt x.udp.toNat { type := 1, session := x.peerSession.toNat, body := openBody s x.nextSeq 0 })

/-- OPEN_RETRY: every 20 µs, and CLOSED after 8 OPENs. -/
def Dev.openRetry (d : Dev) (s : Nat) : Dev :=
  let x := d.session s
  if x.state ≠ 1 || decide (d.dt.toNat < x.openAt.toNat + 20000) then d
  else if x.opens < 8 then d.sendOpen s
  else ((d.closeSession s).inc64 (aMt + rMtSessionFails) 1).setBit (aMt + rMtSticky) 1

/-- OPEN_RETRY. -/
def execOpenRetry (session : Fin 4096) (s : State) : Out := event (fun d => d.openRetry session) s

/-- SUSPEND_TIMEOUT: a session suspended for 2 ms closes. -/
def Dev.suspendEnd (d : Dev) (s : Nat) : Dev :=
  let x := d.session s
  if x.state = 3 && decide (x.suspendedAt.toNat + 2000000 ≤ d.dt.toNat) then (d.closeSession s).inc64 (aMt + rMtSessionFails) 1
  else d

/-- SUSPEND_TIMEOUT. -/
def execSuspendTimeout (session : Fin 4096) (s : State) : Out := event (fun d => d.suspendEnd session) s

/-! ### Commands (R410, R428) -/

/-- Open a session to a peer: OPENING. A home port without a link gives way to the other at once (R408). -/
def Dev.startOpen (d : Dev) (s home : Nat) (addr : Ip) (udp peer : BitVec 16) (pair : Bool) : Dev :=
  if (d.session s).state ≠ 0 then d
  else (d.modSession s fun x =>
    { x with state := 1, home := home, localOpen := true, pair := pair, addr := addr, udp := udp, peerSession := peer, txSeq := d.dt.setWidth 32,
             opens := 0, unacked := [], waiting := [] }).rehome (1 - home) |>.sendOpen s

/-- The session that MT_SEL selects. -/
def Dev.selected (d : Dev) : Nat := d.fld (aMt + rMtSel) 11 0

/-- A write of MT_CMD. -/
def Dev.mtCmd (d : Dev) (v : Nat) : Dev :=
  let s := d.selected
  let peer := d.rd (aMt + rMtOpenPeer)
  match v % 4 with
  | 1 => d.startOpen s (field v 2 2) (d.rd128 (aMt + rMtOpenAddr)) (peer.setWidth 16) ((peer >>> 16).setWidth 16) false
  | 2 => if (d.session s).state = 2 then (d.sendUnseq s 3).closeSession s else d
  | _ => d

/-- MT_CMD_OPEN. -/
def execMtCmdOpen (who : Requester) (port : Fin 2) (s : State) : Out :=
  event (fun d => d.asked who (aMt + rMtCmd) fun d => d.mtCmd (1 + 4 * port.val)) s
/-- MT_CMD_CLOSE. -/
def execMtCmdClose (who : Requester) (s : State) : Out := event (fun d => d.asked who (aMt + rMtCmd) fun d => d.mtCmd 2) s

end Sys2Proof.Machine
end

