-- ==== Sys2Proof/Machine/Data.lean ====
section
/-! DEFINITION. Data access over MBT: DREAD (R421), DWRITE (R258, R259, R422, R425, R437) and the segments of remote blocks (R423). -/

namespace Sys2Proof.Machine

/-- Whether the module is in Safe Hold (R475). -/
def Dev.safeHold (d : Dev) : Bool := d.fld (aPw + rPwState) 2 0 == 6
/-- The largest body in bytes (R428). -/
def Dev.maxBody (d : Dev) : Nat := 64 * d.fld (aMt + rMtCfg) 23 16
/-- Whether this module is the secondary of a Mirror or Standby pair (R435). -/
def Dev.isSecondary (d : Dev) : Bool := d.pairServes && !d.ttPrimary && (d.ttState == 2 || d.ttState == 3)

/-! ### DREAD (R421) -/

/-- A segment body of a DREAD response. -/
def segmentBody (st : Status) (off : Nat) (bs : List Byte) : List Byte := leBytes st.toNat 2 ++ leBytes 0 2 ++ leBytes off 4 ++ bs

/-- The access of a remote read that failed its retry at a pile's interface, if some bytes of it did (R311, R313). -/
def Dev.lostRefusal (d : Dev) (a n : Nat) : Refuse :=
  if inPile a && (d.pile (regionOf a)).lost.any fun x => decide (a ≤ x) && decide (x < a + n) then
    some (0x6008, fun _ d => d.modPile (regionOf a) fun p => { p with lost := p.lost.filter fun x => !(decide (a ≤ x) && decide (x < a + n)) })
  else none

/-- What the device finds when it reads `n` bytes at `a`, row by row: the first failing row decides (R421). -/
def Dev.readStatus (d : Dev) (a n : Nat) : Refuse :=
  firstRefusal ((upto ((a % 512 + n + 511) / 512)).map fun i =>
    let lo := if i = 0 then a else a / 512 * 512 + 512 * i
    let hi := min (a + n) (a / 512 * 512 + 512 * (i + 1))
    if !spanMapped lo (hi - lo) then some (0x6009, noPost)
    else match firstRefusal [d.dataRead lo (hi - lo) false, d.lostRefusal lo (hi - lo)] with
      | some (0x6001, p) => some (0x6001, p)
      | some (0x8003, p) => some (0x6008, p)
      | some (0x8004, p) => some (0x6008, p)
      | r => r)

/-- The response segments of a DREAD from offset `o`, at most `fuel` of them. -/
def Dev.readSegments (s : Nat) (ref : W32) (a len chunk : Nat) : Nat → Nat → Dev → Dev
  | 0, _, d => d
  | fuel + 1, o, d =>
    if len ≤ o then d
    else
      let n := min chunk (len - o)
      match d.readStatus (a + o) n with
      | some (st, post) => (post 0 d).respond s 0x22 ref (segmentBody st o [])
      | none => (d.respond s 0x22 ref (segmentBody 0 o (readBytes d.byte (a + o) n))).readSegments s ref a len chunk fuel (o + n)

/-- DREAD. -/
def Dev.dreadReceived (m : InMsg) (d : Dev) : Dev :=
  let s := m.msg.session
  let rd := bytesAt m.msg.body
  let a := leNat rd 0 8
  let len := leNat rd 8 4
  if m.msg.body.length ≠ 16 || leNat rd 12 4 ≠ 0 then d.reject s m.msg.seq 0x6002
  else if !m.poison.isEmpty then d.respond s 0x22 m.msg.seq (segmentBody 0x6001 0 [])
  else if a % 64 ≠ 0 || len % 64 ≠ 0 || len < 64 || 2 ^ 24 < len then d.respond s 0x22 m.msg.seq (segmentBody 0x600A 0 [])
  else d.readSegments s m.msg.seq a len ((d.maxBody - 8) / 64 * 64) (len / 64 + 1) 0

/-- DREAD (R421): a request. -/
def execDread (s : State) : Out := event (fun d => d.onMessage (fun m => m.type == 0x22 && !m.response) Dev.dreadReceived) s

/-! ### DWRITE (R422) -/

/-- The body of a DWRITE response: status and bytes accepted (log 16). -/
def dwriteBody (st : Status) (n : Nat) : List Byte := leBytes st.toNat 2 ++ leBytes 0 2 ++ leBytes n 4

/-- Answer a remote write: on its session, or, when a FWD brought it, by a FWD of kind 2, which reports refusals only (R437). -/
def Dev.answerWrite (d : Dev) (w : RemoteWrite) (st : Status) (n : Nat) : Dev :=
  if w.fwd.isSome then
    let d := if st = 0 || st = 0x6001 then d
      else
        let refusal : Mbt := { type := 0x23, session := w.session, ref := w.seq, flags := 1, body := dwriteBody st n }
        d.sendRaw tether { type := 0x41, session := 0, body := fwdBody w.session 2 w.seq refusal }
    d.settleTetherAck
  else d.respond w.session 0x23 w.seq (dwriteBody st n)

/-- The checks of R422 that come before the destination; a write that passes them is on its way. -/
def Dev.startWrite (d : Dev) (w : RemoteWrite) : Dev :=
  let n := w.data.length
  if w.addr % 4 ≠ 0 || n % 4 ≠ 0 || n = 0 || d.maxBody - 8 < n then d.answerWrite w 0x600A 0
  else if !inOneUnit w.addr n then d.answerWrite w 0x6009 0
  else { d with net := { d.net with writes := d.net.writes ++ [w] } }

/-- A DWRITE from its message: a twin write when it arrives on the Tether's session (R422). -/
def writeOf (m : InMsg) : RemoteWrite :=
  { session := m.msg.session, seq := m.msg.seq, addr := leNat (bytesAt m.msg.body) 0 8, data := m.msg.body.drop 8,
    poison := (m.poison.filter (0 < ·)).map (· - 1), twin := m.msg.session == tether }

/-- DWRITE. In Safe Hold it is refused (R475), as it is on the secondary of a pair, which performs replicated writes only (R435). -/
def Dev.dwriteReceived (m : InMsg) (d : Dev) : Dev :=
  let w := writeOf m
  if m.msg.body.length < 8 then d.reject w.session w.seq 0x6002
  else if d.safeHold then d.answerWrite w 0x100C 0
  else if d.isSecondary && !w.twin then d.answerWrite w 0x7005 0
  else if m.poison.contains 0 then d.answerWrite w 0x6001 0
  else d.startWrite w

/-- DWRITE (R422): a request. -/
def execDwrite (s : State) : Out := event (fun d => d.onMessage (fun m => m.type == 0x23 && !m.response) Dev.dwriteReceived) s

/-- Whether an enabled pile window admits a write (R422, R428). -/
def Dev.pwinAdmits (d : Dev) (w : RemoteWrite) : Bool :=
  (upto 16).any fun k =>
    let a := aMt + 32 * k
    let base := d.rd64 (a + rMtPwinBase)
    d.flag (a + rMtPwinCtl) 0 && decide (base ≤ w.addr) && decide (w.addr + w.data.length ≤ base + d.rd64 (a + rMtPwinLen)) &&
      (if w.twin then d.flag (a + rMtPwinCtl) 1 else d.fld (a + rMtPwinCtl) 31 16 == 0xFFFF || d.fld (a + rMtPwinCtl) 31 16 == w.session)

/-- The writer that a remote write is. -/
def RemoteWrite.writer (w : RemoteWrite) : Writer := if w.twin then .twin else .host w.session

/-- The checks at the destination (R422). -/
def Dev.arriveCheck (d : Dev) (w : RemoteWrite) : Refuse :=
  let n := w.data.length
  if inStore w.addr then
    firstRefusal [refuseIf (d.anyOff w.addr n) 0x5003, refuseIf (narrowRun w.addr n && d.anyFenced w.addr n) 0x5004,
      if (d.hitchCheck w.writer w.addr n).1 then none else some (0x500A, fun _ d => d.countDenied w.addr n)]
  else firstRefusal [refuseIf (!d.pwinAdmits w) 0x600B, refuseIf (d.pileFailed w.addr) 0x8005]

/-- Remove a remote write. -/
def Dev.dropWrite (d : Dev) (i : Nat) : Dev := { d with net := { d.net with writes := d.net.writes.eraseIdx i } }
/-- Change a remote write. -/
def Dev.modWrite (d : Dev) (i : Nat) (f : RemoteWrite → RemoteWrite) : Dev := { d with net := { d.net with writes := at_ d.net.writes i f } }

/-- REMOTE_WRITE_ARRIVE (R258): the first beat of remote write `i` reaches its store or pile. -/
def Dev.writeArrive (d : Dev) (i : Nat) : Dev :=
  match d.net.writes[i]? with
  | none => d
  | some w =>
    if w.checked then d
    else match d.arriveCheck w with
      | some (st, post) => ((post 0 d).dropWrite i).answerWrite w st 0
      | none =>
        let win := if inStore w.addr then (d.hitchCheck w.writer w.addr w.data.length).2.map fun k => (regionOf w.addr, k, d.winGen (regionOf w.addr) k) else none
        d.modWrite i fun w => { w with checked := true, win := win }

/-- REMOTE_WRITE_ARRIVE. -/
def execRemoteWriteArrive (i : Nat) (s : State) : Out := event (fun d => d.writeArrive i) s

/-- The data of a remote write reaches its bytes: poisoned words are marked, and the window that admitted it counts them while it is
open under the same generation (R259, R425). -/
def Dev.performWrite (d : Dev) (w : RemoteWrite) : Dev :=
  let d := d.writeBytes w.addr w.data
  let d := w.poison.foldl (fun d p => [2 * p, 2 * p + 1].foldl (fun d q => if 4 * q < w.data.length then d.setMark (w.addr + 4 * q) 1 else d) d) d
  let d := match w.win with
    | none => d
    | some (r, k, g) => if d.winOpen r k && d.winGen r k == g then d.countWindow r (some k) w.data.length else d
  d.notFresh

/-- Whether the twin has still to acknowledge the FWD of a write (R446). -/
def Dev.twinPending (d : Dev) (w : RemoteWrite) : Bool := d.net.fwdAcks.any fun e => e.2.1 == w.session && e.2.2 == w.seq + 1

/-- DWRITE_PERFORMED (R259, R446): the last row of remote write `i` has been written; the response follows once the twin has performed it too. -/
def Dev.writePerformed (d : Dev) (i : Nat) : Dev :=
  match d.net.writes[i]? with
  | none => d
  | some w =>
    if !w.checked then d
    else
      let d := if w.done then d else (d.performWrite w).modWrite i fun w => { w with done := true }
      if d.twinPending w then d
      else if w.status ≠ 0 then (d.dropWrite i).answerWrite w w.status 0
      else (d.dropWrite i).answerWrite w (if w.poison.isEmpty then 0 else 0x6001) w.data.length

/-- DWRITE_PERFORMED. -/
def execDwritePerformed (i : Nat) (s : State) : Out := event (fun d => d.writePerformed i) s

/-! ### Segments of remote blocks (R423) -/

/-- The channel and block that a response segment answers. -/
def Dev.blockOfSegment (d : Dev) (m : InMsg) : Option (Nat × RemoteBlock) :=
  d.chans.findSome? fun p => (p.2.remotes.find? fun r => r.session == m.msg.session && r.seq == m.msg.ref.toNat).map fun r => (p.1, r)

/-- DREAD_SEGMENT_RECEIVE: a segment of a failed or finished block is discarded and counted. -/
def Dev.segmentReceived (m : InMsg) (d : Dev) : Dev :=
  let rd := bytesAt m.msg.body
  let off := leNat rd 4 4
  let data := m.msg.body.drop 8
  if m.msg.body.length < 8 || leNat rd 2 2 ≠ 0 then d.reject m.msg.session m.msg.seq 0x6002
  else match d.blockOfSegment m with
  | none => d.inc64 (aMt + rMtDiscarded) 1
  | some (i, r) =>
    match (d.chan i).remote with
    | none => d.inc64 (aMt + rMtDiscarded) 1
    | some x =>
      let st := if m.poison.contains 0 then 0x6001 else leNat rd 0 2
      if (st = 0 && 2 ^ x.raw.u 12 1 < off + data.length) then d.inc64 (aMt + rMtDiscarded) 1
      else d.remoteSegment i x r st off data ((m.poison.filter (0 < ·)).flatMap fun p => [2 * (p - 1), 2 * (p - 1) + 1])

/-- DREAD_SEGMENT_RECEIVE. -/
def execDreadSegmentReceive (s : State) : Out := event (fun d => d.onMessage (fun m => m.type == 0x22 && m.response) Dev.segmentReceived) s

end Sys2Proof.Machine
end

