-- ==== Sys2Proof/Machine/Loader.lean ====
section
/-! DEFINITION. The loader (R120, R121, R369 to R377): the encodings of the four slots (R132 to R164), the control flow of a program (R99,
R140, R155, R167, R172), the timing record (R372 to R377), and the registration of images. -/

namespace Sys2Proof.Machine

/-! ### Encodings (R133, R137, R138, R142, R143, R150, R151, R163, R164) -/

/-- Bits `hi` to `lo` of a slot are 0. -/
def zeroIn (w hi lo : Nat) : Bool := field w hi lo == 0

/-- Whether a slot C value is a defined encoding. -/
def definedC (w : Nat) : Bool :=
  let op := field w 30 24
  if op = 0x00 || op = 0x36 || op = 0x3C || op = 0x3D then zeroIn w 23 0
  else if 0x01 ≤ op && op ≤ 0x11 then zeroIn w 5 0
  else if 0x20 ≤ op && op ≤ 0x23 then true
  else if 0x24 ≤ op && op ≤ 0x26 then zeroIn w 11 6
  else if op = 0x28 || op = 0x29 then true
  else if op = 0x30 || op = 0x35 then zeroIn w 23 14
  else if (0x31 ≤ op && op ≤ 0x34) || op = 0x37 then zeroIn w 17 14
  else if op = 0x38 then zeroIn w 17 4 && decide (field w 3 0 ≤ 10)
  else if op = 0x39 || op = 0x3A then zeroIn w 17 0
  else false

/-- Whether a slot V value is a defined encoding. -/
def definedV (w : Nat) : Bool :=
  let op := field w 31 24
  let ty := field w 1 0
  if op = 0x00 then zeroIn w 23 0
  else if (0x01 ≤ op && op ≤ 0x03) || op = 0x05 || op = 0x06 then true
  else if op = 0x04 || op = 0x10 then ty != 0
  else if op = 0x07 || op = 0x08 then zeroIn w 11 6
  else if (0x09 ≤ op && op ≤ 0x0E) || op = 0x19 then ty == 0
  else if 0x11 ≤ op && op ≤ 0x13 then zeroIn w 11 6 && ty != 0
  else if op = 0x18 then zeroIn w 11 6 && ty == 0
  else if op = 0x1A then zeroIn w 17 6 && ty == 0
  else if 0x20 ≤ op && op ≤ 0x22 then zeroIn w 19 18
  else if op = 0x28 then zeroIn w 17 12 && ty == 0
  else if op = 0x29 then zeroIn w 5 0
  else if op = 0x2A then zeroIn w 11 6 && ty == 0
  else if op = 0x2B then zeroIn w 11 6 && decide (ty ≤ 1)
  else if 0x30 ≤ op && op ≤ 0x33 then zeroIn w 7 0
  else if op = 0x34 then zeroIn w 19 12 && zeroIn w 5 0
  else if op = 0x35 || op = 0x36 then zeroIn w 17 16 && zeroIn w 11 0
  else if 0x40 ≤ op && op ≤ 0x76 then (op - 0x40) / 8 != op % 8 && op % 8 != 7 && ty != 3
  else if (0x80 ≤ op && op ≤ 0x85) || (0x88 ≤ op && op ≤ 0x8D) then ty != 3
  else if (0x90 ≤ op && op ≤ 0x92) || (0x94 ≤ op && op ≤ 0x96) then zeroIn w 11 0
  else if op = 0xA0 || op = 0xA2 then zeroIn w 12 12 && ty == 0
  else if op = 0xA1 || op = 0xA3 then zeroIn w 19 18 && zeroIn w 12 12 && ty == 0
  else false

/-- Whether a slot T value is a defined encoding. -/
def definedT (w : Nat) : Bool :=
  let op := field w 31 24
  if op = 0x00 then zeroIn w 23 0
  else if op = 0x10 then decide (field w 9 6 ≤ 12) && decide (field w 5 2 ≤ 12) && zeroIn w 1 0
  else if op = 0x11 then zeroIn w 0 0
  else if op = 0x12 then zeroIn w 4 0
  else if op = 0x13 then zeroIn w 10 0
  else if op = 0x14 then zeroIn w 20 0
  else if op = 0x18 || op = 0x19 then decide (field w 12 10 ≤ 6) && zeroIn w 3 0
  else if op = 0x1A then decide (field w 12 10 ≤ 6)
  else if op = 0x1C then zeroIn w 13 0
  else if 0x1D ≤ op && op ≤ 0x1F then zeroIn w 18 0
  else if op = 0x20 then zeroIn w 1 0
  else if op = 0x21 || op = 0x22 then zeroIn w 11 6
  else if op = 0x23 then decide (field w 1 0 ≤ 2)
  else if op = 0x28 || op = 0x29 then zeroIn w 1 0
  else if 0x24 ≤ op && op ≤ 0x27 then
    decide (field w 9 7 ≤ 4) && decide (1 ≤ field w 6 1) && decide (field w 6 1 < 4 * 2 ^ field w 9 7) && zeroIn w 0 0
  else if 0x30 ≤ op && op ≤ 0x32 then zeroIn w 5 0
  else if op = 0x33 || (0x38 ≤ op && op ≤ 0x3A) then zeroIn w 11 0
  else false

/-- Whether a slot M value is a defined encoding. -/
def definedM (w : Nat) : Bool :=
  let op := field w 31 24
  let mc := zeroIn w 19 18 && zeroIn w 5 0
  let mq := zeroIn w 20 18 && zeroIn w 11 0
  if op = 0x00 || op = 0x1A then zeroIn w 23 0
  else if (0x01 ≤ op && op ≤ 0x04) || op = 0x08 || op = 0x09 || op = 0x10 || op = 0x11 then true
  else if op = 0x0A || op = 0x0B then zeroIn w 1 0
  else if op = 0x0C || op = 0x0D then zeroIn w 18 18
  else if op = 0x12 then zeroIn w 23 18 && field w 3 0 != 14
  else if op = 0x18 then field w 3 0 != 14
  else if op = 0x19 || op = 0x1B || op = 0x1C then zeroIn w 3 0
  else if op = 0x20 || op = 0x25 || op = 0x26 || op = 0x28 || op = 0x2A then mc && zeroIn w 11 6
  else if op = 0x21 || op = 0x29 then mc && zeroIn w 17 6
  else if 0x22 ≤ op && op ≤ 0x24 then mc && zeroIn w 17 12
  else if op = 0x30 || op = 0x31 then mq
  else if op = 0x32 then mq && zeroIn w 17 12
  else if op = 0x33 then zeroIn w 23 18 && zeroIn w 5 0
  else if op = 0x34 || op = 0x35 then zeroIn w 20 16 && zeroIn w 7 0
  else if op = 0x36 then zeroIn w 23 6
  else if op = 0x37 then zeroIn w 23 12
  else if op = 0x3F then zeroIn w 23 18 && zeroIn w 11 0
  else false

/-- A bundle as the values of its four slots (R93). -/
structure Word4 where
  c : Nat
  v : Nat
  t : Nat
  m : Nat
  deriving DecidableEq, Repr

/-- The bundle of 128 bits. -/
def Word4.of (x : Nat) : Word4 := { c := field x 31 0, v := field x 63 32, t := field x 95 64, m := field x 127 96 }

/-- Whether a slot M operation or a slot T operation makes a word access that row_only forbids (R167). -/
def Word4.narrow (b : Word4) : Bool :=
  [0x01, 0x02, 0x03, 0x04, 0x08, 0x09, 0x0A, 0x0B, 0x0C, 0x0D].contains (field b.m 31 24) || [0x23, 0x28, 0x29].contains (field b.t 31 24)

/-- The checks of one bundle (R121, R167, R172). -/
def Word4.ok (b : Word4) (rowOnly : Bool) : Bool :=
  definedC b.c && definedV b.v && definedT b.t && definedM b.m && !(rowOnly && b.narrow) &&
    (field b.m 31 24 != 0x3F || (zeroIn b.c 30 0 && b.v == 0 && b.t == 0))

/-! ### Control flow (R99, R121, R140) -/

/-- The control-flow operation of slot C. -/
inductive Flow where
  | plain
  /-- a branch, conditional or not -/
  | branch (always : Bool) (target : Nat)
  | call (target : Nat)
  | ret
  | loop (target : Nat)
  | stop
  deriving DecidableEq, Repr

/-- The control flow of a slot C value. -/
def flowOf (w : Nat) : Flow :=
  let t := field w 13 0
  match field w 30 24 with
  | 0x30 => .branch true t
  | 0x31 => .branch false t
  | 0x32 => .branch false t
  | 0x33 => .branch false t
  | 0x34 => .branch false t
  | 0x35 => .call t
  | 0x36 => .ret
  | 0x37 => .loop t
  | 0x3D => .stop
  | _ => .plain

/-- Whether it is a branch, CALL or RET, which two bundles follow. -/
def Flow.jumps : Flow → Bool
  | .branch _ _ => true
  | .call _ => true
  | .ret => true
  | _ => false
/-- Whether it is a branch, CALL, RET or LOOP. -/
def Flow.moves : Flow → Bool
  | .loop _ => true
  | f => f.jumps
/-- Its target, for a branch or a CALL. -/
def Flow.goes : Flow → Option Nat
  | .branch _ t => some t
  | .call t => some t
  | _ => none

/-- The loops of a code section: index of the LOOP and last bundle of its body. -/
def loopsOf (fs : List Flow) : List (Nat × Nat) :=
  fs.zipIdx.filterMap fun p => match p.1 with | .loop t => some (p.2, t) | _ => none

/-- Whether bundle `j` lies in a loop's body. -/
def inBody (l : Nat × Nat) (j : Nat) : Bool := decide (l.1 < j) && decide (j ≤ l.2)

/-- The static rules of control flow, bundle by bundle. -/
def flowOk (fs : List Flow) : Bool :=
  let n := fs.length
  let at_ (j : Nat) : Flow := nth fs j .plain
  let ls := loopsOf fs
  (ls.all fun l => decide (l.1 < l.2) && decide (l.2 < n)) &&
  (ls.all fun a => ls.all fun b => !(decide (a.1 < b.1) && decide (b.1 < a.2) && decide (a.2 < b.2))) &&
  (ls.all fun l => (upto n).all fun j =>
    let inside := inBody l j
    (match at_ j with
      | .ret => !inside
      | .call t => !inside || inBody l t
      | .branch _ t => inside == inBody l t
      | _ => true) &&
    !(inside && decide (l.2 ≤ j + 1) && (at_ j).moves)) &&
  ((upto n).all fun j =>
    (match (at_ j).goes with | some t => decide (t < n) | none => true) &&
    (!(at_ j).jumps || (decide (j + 2 < n) && !(at_ (j + 1)).moves && !(at_ (j + 2)).moves)) &&
    decide ((ls.filter fun l => inBody l j).length ≤ 8))

/-- A point of a path through a program: the next bundle, the return indices, a redirection in progress, the issue cycles for which the
tensor array is still busy, and the format pair of the TOPEN last executed on each window set (R155). -/
structure PathAt where
  pc : Nat
  calls : List Nat := []
  turn : Option (Nat × Nat) := none
  wait : Nat := 0
  pairs : List (Option (Nat × Nat)) := List.replicate 8 none
  deriving DecidableEq, Repr

/-- What the tensor operation of a bundle does to a path; none where R155 forbids it. -/
def PathAt.tensor (x : PathAt) (t : Nat) : Option PathAt :=
  let w := field t 23 21
  match field t 31 24 with
  | 0x10 => some { x with pairs := put x.pairs w (some (field t 9 6, field t 5 2)), wait := x.wait - 1 }
  | 0x11 =>
    let n := field t 4 1 + 1
    if x.wait = 0 then some { x with wait := (match nth x.pairs w none with | some (a, b) => dotCycles a b n | none => 2 * n) - 1 } else none
  | 0x13 => if x.wait = 0 then some x else none
  | _ => some { x with wait := x.wait - 1 }

/-- The points that follow a point, for the control flow of its bundle; none where a RET has no call to return to or calls nest deeper
than 16. -/
def PathAt.after (x : PathAt) (ls : List (Nat × Nat)) (f : Flow) (root : Bool) : Option (List PathAt) :=
  match x.turn with
  | some (n, t) =>
    if f = .stop then some []
    else if n ≤ 1 then some [{ x with pc := t, turn := none }] else some [{ x with pc := x.pc + 1, turn := some (n - 1, t) }]
  | none =>
    let next := { x with pc := x.pc + 1 } :: (ls.filter fun l => l.2 == x.pc).map fun l => { x with pc := l.1 + 1 }
    let turned (t : Nat) : PathAt := { x with pc := x.pc + 1, turn := some (2, t) }
    match f with
    | .stop => some []
    | .branch always t => some (turned t :: if always then [] else next)
    | .call t => if x.calls.length < 16 then some [{ turned t with calls := (x.pc + 3) :: x.calls }] else none
    | .ret => match x.calls with
      | [] => if root then none else some []
      | r :: rs => some [{ turned r with calls := rs }]
    | .loop t => some ({ x with pc := t + 1 } :: next)
    | .plain => some next

/-- Whether every path from the points of a list keeps the rules: RET under a call, calls at most 16 deep and so no cycle of calls, and, from
the entries of the program, the spacing of R155. `fuel` bounds the number of distinct points. -/
def pathsOk (bs : List Word4) (fs : List Flow) (ls : List (Nat × Nat)) (root : Bool) : Nat → List PathAt → List PathAt → Bool
  | 0, _, _ => false
  | _ + 1, [], _ => true
  | fuel + 1, x :: work, seen =>
    if bs.length ≤ x.pc || seen.contains x then pathsOk bs fs ls root fuel work seen
    else
      match (if root then x.tensor (nth (bs.map fun b => b.t) x.pc 0) else some x) with
      | none => false
      | some y => match y.after ls (nth fs x.pc .plain) root with
        | none => false
        | some zs => pathsOk bs fs ls root fuel (zs ++ work) (x :: seen)

/-- A bound on the points that a search takes up. -/
def pathFuel : Nat := 2 ^ 400

/-- The checks of a code section whose program is entered at `roots`. -/
def codeOk (bs : List Word4) (rowOnly : Bool) (roots : List Nat) : Bool :=
  let fs := bs.map fun b => flowOf b.c
  let ls := loopsOf fs
  let called := fs.filterMap fun f => match f with | .call t => some t | _ => none
  (bs.all fun b => b.ok rowOnly) && flowOk fs &&
    pathsOk bs fs ls true pathFuel (roots.map fun r => { pc := r }) [] &&
    pathsOk bs fs ls false pathFuel (called.map fun r => { pc := r }) []

/-! ### The timing record (R372 to R377, R380, R381) -/

/-- The slot type that a term kind needs; 0 any (R379). -/
def slotTypeOf (kind : Nat) : Nat :=
  match kind with
  | 0x10 => 1 | 0x11 => 1 | 0x12 => 1 | 0x0C => 2 | 0x0D => 2 | 0x14 => 3 | 0x0A => 4 | 0x0B => 5 | _ => 0

/-- The term kinds of R380 and the stream kind. -/
def termKinds : List Nat := [0x01, 0x02, 0x03, 0x04, 0x05, 0x06, 0x07, 0x09, 0x0A, 0x0B, 0x0C, 0x0D, 0x0E, 0x10, 0x11, 0x12, 0x13, 0x14, 0x20]

/-- Bytes of a record are 0. -/
def TRec.zero (r : TRec) (o n : Nat) : Bool := r.u o n == 0

/-- The parameter ranges of R380. -/
def TRec.paramsOk (r : TRec) (t : Nat) : Bool :=
  let p := r.p t
  match r.tmKind t with
  | 0x03 => decide (1 ≤ p 1) && decide (p 1 ≤ 256) && decide (p 2 ≤ 2)
  | 0x04 => decide (1 ≤ p 1) && decide (p 1 ≤ 256) && decide (p 2 ≤ 2)
  | 0x06 => decide (p 2 ≤ 2)
  | 0x0C => decide (p 2 ≤ 2)
  | 0x0D => decide (p 2 ≤ 2)
  | 0x0E => [4, 16, 64, 128].contains (p 3)
  | 0x10 => decide (1 ≤ p 3) && decide (p 3 ≤ 32768)
  | 0x12 => decide (p 2 ≤ 24)
  | 0x13 => decide (p 1 ≤ 1)
  | 0x20 => decide (r.tmRes t < 2 ^ 28)
  | _ => true

/-- The checks of a term entry. -/
def TRec.termOk (r : TRec) (t : Nat) : Bool :=
  let k := r.tmKind t
  let slot := r.u (r.tm t + 2) 2
  termKinds.contains k && r.zero (r.tm t + 1) 1 && r.zero (r.tm t + 44) 4 && (decide (slot ≤ 63) || slot == 0xFFFF) &&
    (slot != 0xFFFF || !([0x10, 0x11, 0x12, 0x14].contains k)) &&
    decide (1 ≤ r.tmC t) && (k != 0x20 || r.tmC t == 1) && r.paramsOk t

/-- No slot is used by terms that need different types. -/
def TRec.slotsOk (r : TRec) (nt : Nat) : Bool :=
  let uses := (upto nt).filterMap fun t => match r.tmSlot t with
    | some s => if slotTypeOf (r.tmKind t) = 0 then none else some (s, slotTypeOf (r.tmKind t))
    | none => none
  (upto 64).all fun s => match uses.find? fun u => u.1 == s with
    | none => true
    | some u => uses.all fun v => v.1 != s || v.2 == u.2

/-- The checks of a footprint entry. -/
def TRec.fpOk (r : TRec) (i : Nat) : Bool :=
  decide (r.u (r.fp i + 72) 2 ≤ 43) && decide (r.u (r.fp i + 74) 2 ≤ 51) && r.zero (r.fp i + 76) 4

/-- The checks of a phase entry. -/
def TRec.phOk (r : TRec) (i nf nt : Nat) : Bool :=
  let c := r.u (r.ph i + 8) 2
  r.zero (r.ph i + 16) 16 && decide (c ≤ 256) && (c == 0 || decide (r.u (r.ph i + 4) 4 + c ≤ nt)) &&
    (match r.phFp i with | none => true | some f => decide (f < nf))

/-- The checks of a variant entry. -/
def TRec.varOk (r : TRec) (v nph bundles : Nat) : Bool :=
  let o := r.var v
  let first := r.u (o + 2) 2
  let count := r.u (o + 4) 2
  let cores := r.varCores v
  let ver := r.u (o + 64) 2
  let lanes := r.u (o + 66) 2
  let n := r.u (o + 68) 4
  let pro := r.u (o + 74) 2
  decide (r.varKind v ≤ 1) && r.zero (o + 1) 1 && r.zero (o + 6) 2 && r.zero (o + 52) 12 &&
    decide (1 ≤ count) && decide (count ≤ 4096) && decide (first + count ≤ nph) && r.u (o + 8) 36 != 0 &&
    ((r.varChannels v).all fun c => cores.any fun g => g / 36 == c / 8) &&
    (if r.varKind v = 0 then r.zero (o + 64) 64
     else r.zero (o + 76) 4 && r.zero (o + 96) 32 && ((lanes == 64 && ver == 2) || (lanes == 32 && ver == 1)) &&
       decide (1 ≤ n) && decide (n ≤ 288) && decide (r.u (o + 72) 2 < bundles) && decide (pro < nph) &&
       !(decide (first ≤ pro) && decide (pro < first + count)) && r.u (o + 80) 8 % 64 == 0 &&
       (ver != 2 || decide (imageLength n ≤ r.u (o + 88) 8)))

/-- The magic BXOATIM. -/
def magicTim : List Byte := magicBytes [0x42, 0x58, 0x4F, 0x41, 0x54, 0x49, 0x4D, 0]

/-- The checks of R377 for a program of `bundles` bundles. -/
def TRec.ok (r : TRec) (bundles : Nat) : Bool :=
  let nv := r.variants
  let nf := r.u 14 2
  let nph := r.u 16 4
  let nt := r.u 20 4
  let fits (o n e : Nat) : Bool := r.u o 4 % 8 == 0 && (n == 0 || decide (r.u o 4 + n * e ≤ r.length))
  decide (64 ≤ r.length) && r.take 8 == magicTim && r.u 8 2 == 1 && decide (r.u 10 2 ≤ 1) && r.zero 48 16 &&
    decide (1 ≤ nv) && decide (nv ≤ 16) && decide (nf ≤ 256) && decide (1 ≤ nph) && decide (nph ≤ 4096) && decide (nt ≤ 65536) &&
    fits 24 nv 128 && fits 28 nf 80 && fits 32 nph 32 && fits 36 nt 48 &&
    ((upto nt).all r.termOk) && r.slotsOk nt && ((upto nf).all r.fpOk) && ((upto nph).all fun i => r.phOk i nf nt) &&
    ((upto nv).all fun v => r.varOk v nph bundles)

/-! ### Images (R120, R121, R369, R370) -/

/-- The magic BXOAPRG. -/
def magicPrg : List Byte := magicBytes [0x42, 0x58, 0x4F, 0x41, 0x50, 0x52, 0x47, 0]

/-- The sections of an image header: offset and length of code, constants and timing record. -/
def imageSects (rd : Nat → Byte) (a : Nat) : List (Nat × Nat) :=
  [(leNat rd (a + 16) 8, 16 * leNat rd (a + 12) 4), (leNat rd (a + 24) 8, leNat rd (a + 32) 8), (leNat rd (a + 40) 8, leNat rd (a + 48) 8)]

/-- The checks of an image header (R121), before its sections are read. -/
def headerOk (rd : Nat → Byte) (a : Nat) : Bool :=
  let n := leNat rd (a + 12) 4
  let ss := (imageSects rd a).filter fun s => s.2 != 0
  readBytes rd a 8 == magicPrg && leNat rd (a + 8) 2 == 2 && decide (leNat rd (a + 10) 2 ≤ 1) && leNat rd (a + 56) 8 == 0 &&
    decide (1 ≤ n) && decide (n ≤ 16384) && leNat rd (a + 16) 8 % 16 == 0 && leNat rd (a + 24) 8 % 64 == 0 &&
    (ss.all fun s => decide (64 ≤ s.1)) &&
    ((upto 3).all fun i => (upto 3).all fun j => i == j ||
      (match (imageSects rd a)[i]?, (imageSects rd a)[j]? with | some s, some t => !overlap s.1 s.2 t.1 t.2 | _, _ => true))

/-- The image length (R120). -/
def programLength (rd : Nat → Byte) (a : Nat) : Nat :=
  ((imageSects rd a).foldl (fun m s => if s.2 = 0 then m else max m (s.1 + s.2)) 64) + 8

/-- Read and check the image at an address (R370): none when it is invalid, with what the read leaves in the records of errors. -/
def Dev.readImage (d : Dev) (a : Nat) : Option Image × Dev :=
  if a % 64 ≠ 0 || !spanMapped a 64 then (none, d)
  else match d.dataRead a 64 false with
    | some (_, post) => (none, post 0 d)
    | none =>
      if !headerOk d.byte a || !spanMapped a (programLength d.byte a) then (none, d)
      else
        let len := programLength d.byte a
        match d.dataRead a len false with
        | some (_, post) => (none, post 0 d)
        | none =>
          let n := leNat d.byte (a + 12) 4
          let code := a + leNat d.byte (a + 16) 8
          let rowOnly := bit (leNat d.byte (a + 10) 2) 0
          let r : TRec := readBytes d.byte (a + leNat d.byte (a + 40) 8) (leNat d.byte (a + 48) 8)
          let crc := crc64 (readBytes d.byte a (len - 8))
          let bs := (upto n).map fun i => Word4.of (leNat d.byte (code + 16 * i) 16)
          let roots := 0 :: ((upto r.variants).filter fun v => r.varKind v == 1).map fun v => r.u (r.var v + 72) 2
          if leNat d.byte (a + len - 8) 8 = crc && r.ok n && codeOk bs rowOnly roots then
            (some { addr := a, program := BitVec.ofNat 64 crc, rowOnly := rowOnly, bundles := n, codeOffset := leNat d.byte (a + 16) 8, record := r }, d)
          else (none, d)

/-- Whether a registration runs (LL_STATE.reg_busy). -/
def Dev.regBusy (d : Dev) : Bool := d.flag (aLl + rLlState) 0

/-- The bytes of timing records in the record store. -/
def Lamp.recordBytes (l : Lamp) : Nat := l.images.foldl (fun n p => match p.2 with | none => n | some m => n + m.record.length) 0

/-- Set LL_REG_RESULT and end the op. -/
def Dev.regResult (d : Dev) (handle : Nat) (st : Status) : Dev :=
  (d.wr (aLl + rLlRegResult) (BitVec.ofNat 32 (handle + st.toNat * 2 ^ 16))).clrBit (aLl + rLlState) 0

/-- Op 1 (R369): registration starts on the image at LL_REG_ADDR. -/
def Dev.regStart (d : Dev) : Dev :=
  if d.regBusy then d
  else { d with lamp := { d.lamp with job := some (d.rd64 (aLl + rLlRegAddr) % 2 ^ 48) } }.setBit (aLl + rLlState) 0

/-- REGISTRATION_DONE (R369, R370). A registered image makes the module no longer fresh (R441). -/
def Dev.regDone (d : Dev) : Dev :=
  match d.lamp.job with
  | none => d
  | some a =>
    let (im, d) := d.readImage a
    let d := { d with lamp := { d.lamp with job := none } }
    match im with
    | none => d.regResult 0 0x1004
    | some m =>
      match (upto 1024).find? fun h => (d.image? (h + 1)).isNone with
      | none => d.regResult 0 0x100D
      | some h =>
        if 2 ^ 25 < d.lamp.recordBytes + m.record.length then d.regResult 0 0x100D
        else
          let d := { d with lamp := { d.lamp with images := sset (fun _ => none) d.lamp.images (h + 1) (some m) } }
          (d.notFresh).regResult (h + 1) 0

/-- Op 2 (R370): the image of a handle is unregistered. LL_REG_RESULT keeps the handle of the last registration. -/
def Dev.unregister (d : Dev) (h : Nat) : Dev :=
  if d.regBusy then d
  else
    let old := d.fld (aLl + rLlRegResult) 15 0
    if (d.image? h).isNone then d.regResult old 0x1006
    else if d.tasks.any fun t => t.image == h then d.regResult old 0x100E
    else { d with lamp := { d.lamp with images := sset (fun _ => none) d.lamp.images h none } }.regResult old 0

/-- A write of LL_REG_CMD. -/
def Dev.regCmd (d : Dev) (v : Nat) : Dev :=
  match v % 4 with
  | 1 => d.regStart
  | 2 => d.unregister (field v 31 16)
  | _ => d

/-- LL_REG_REGISTER (R369). -/
def execLlRegRegister (who : Requester) (s : State) : Out := event (fun d => d.asked who (aLl + rLlRegCmd) fun d => d.regCmd 1) s
/-- LL_REG_UNREGISTER (R370). -/
def execLlRegUnregister (who : Requester) (handle : BitVec 16) (s : State) : Out :=
  event (fun d => d.asked who (aLl + rLlRegCmd) fun d => d.regCmd (2 + handle.toNat * 2 ^ 16)) s
/-- REGISTRATION_DONE. -/
def execRegistrationDone (s : State) : Out := event Dev.regDone s

end Sys2Proof.Machine
end

