-- ==== Sys2Proof/Machine/Admit.lean ====
section
/-! DEFINITION. Admission (R127, R128, R378 to R391, R444, R445): the metadata of a SUBMIT, the evaluation of its variants against the
accepted set, and the VERDICT. -/

namespace Sys2Proof.Machine

/-! ### What admission sees of the module, or of the worse of a Mirror pair (R442, R444) -/

/-- The STATE entries of this module and, on the primary of a READY Mirror pair, those of the twin's last STATE. -/
def Dev.views (d : Dev) : List (List Byte) :=
  d.stateEntries :: (if d.mirrorReady && d.ttPrimary then d.twin.stateGot.toList else [])

/-- The number of `n` bytes at offset `o` of the entry of region `r`. -/
def viewOf (v : List Byte) (r o n : Nat) : Nat := leNat (bytesAt v) (24 * r + o) n
/-- Whether a logical core is vacant. -/
def Dev.anyVacant (d : Dev) (g : Nat) : Bool := d.views.any fun v => bit (viewOf v (g / 36) 0 5) (g % 36)
/-- Whether a slice of a region is fenced, which puts the region on the row path (R243). -/
def Dev.onRowPath (d : Dev) (r : Nat) : Bool := d.views.any fun v => viewOf v r 5 1 % 16 != 0
/-- Whether a region is fenced, or in recovery, which counts as fenced (R466). -/
def Dev.regionShut (d : Dev) (r : Nat) : Bool := (d.region r).recovering || d.views.any fun v => bit (viewOf v r 5 1) 4
/-- Whether a pile has failed. -/
def Dev.pileShut (d : Dev) (n : Nat) : Bool := d.views.any fun v => bit (viewOf v n 5 1) 5
/-- Whether group `i` (72 * region + group) is powered down or busy. -/
def Dev.groupShut (d : Dev) (i : Nat) : Bool := d.views.any fun v => bit (viewOf v (i / 72) 10 9) (i % 72)
/-- The clock that prices a core set: the lowest of its regions, with any notch that is pending (R384, R394). -/
def Dev.lowestF (d : Dev) (cores : List Nat) : Nat :=
  (cores.map fun g => g / 36).foldl (fun f r => d.views.foldl (fun f v =>
    let p := viewOf v r 8 2
    min f (min (viewOf v r 6 2) (if p = 0 then 1600 else p))) f) 1600

/-! ### Metadata (R379) -/

/-- A read of the Lamplighter: unmapped, misaligned, off, uncorrectable or poisoned metadata is invalid. -/
def Dev.metaRead (d : Dev) (a n al : Nat) : Refuse :=
  if a % al ≠ 0 || !spanMapped a n then some (0x1008, noPost)
  else (d.dataRead a n false).map fun r => (0x1008, r.2)

/-- A read of some fields, by offset and length, of a structure of `n` bytes: its address is judged whole, and the fields alone are read. -/
def Dev.metaFields (d : Dev) (a n al : Nat) (fs : List (Nat × Nat)) : Refuse :=
  if a % al ≠ 0 || !spanMapped a n then some (0x1008, noPost)
  else firstRefusal (fs.map fun f => d.metaRead (a + f.1) f.2 1)

/-- Whether a layer record is valid (R213). -/
def Raw.layerOk (x : Raw) : Bool :=
  let n := x.u 8 4
  let stride := x.u 12 4
  let gate := x.u 16 4
  let updown := x.u 20 4
  let tau := x.u 28 4
  let cfg := x.u 32 1
  x.u 0 8 % 64 == 0 && mapped (x.u 0 8) && decide (1 ≤ n) && decide (n ≤ 2 ^ 24) && stride % 64 == 0 && decide (gate + updown ≤ stride) &&
    gate % 64 == 0 && updown % 64 == 0 && decide (64 ≤ updown) && decide (1 ≤ x.u 24 4) && decide (x.u 24 4 ≤ n) &&
    (!bit tau 31 || tau == 2 ^ 31) && field tau 30 23 != 255 && decide (cfg ≤ 2) && decide (x.u 33 1 ≤ 1) &&
    decide (3 ≤ x.u 34 1) && decide (x.u 34 1 ≤ 10) && decide (x.u 35 1 < 4) && decide (1 ≤ x.u 38 2) &&
    !((cfg == 1 || (cfg == 2 && x.u 33 1 == 1)) && gate == 0)

/-- n_c of a layer snapshot (R227). -/
def Raw.neuronsCharged (x : Raw) : Nat :=
  let n := x.u 8 4
  if x.layerMode = 2 then min n (x.u 24 4 + ceilDiv n (2 ^ x.u 34 1)) else n

/-- The checks of a slot of a type at an address, whatever terms use it. -/
def Dev.slotCheck (d : Dev) (type a : Nat) : Refuse :=
  match type with
  | 1 => d.metaRead a 64 64
  | 2 => d.metaFields a 2312 512 [(2304, 4)]
  | 3 => firstRefusal [d.metaRead a 64 64, refuseIf (!(d.rawAt a).layerOk) 0x1008]
  | 4 => firstRefusal [d.metaFields a 64 64 [(8, 4), (52, 4), (24, 4), (56, 4)],
      refuseIf (decide (leNat d.byte (a + 8) 4 < leNat d.byte (a + 52) 4) || decide (leNat d.byte (a + 24) 4 < leNat d.byte (a + 56) 4)) 0x1008]
  | 5 => d.metaFields a 64 64 [(8, 4)]
  | 6 => d.metaRead a 8 8
  | _ => some (0x1008, noPost)

/-- The quantity q of a slot. -/
def Dev.slotQ (d : Dev) (type a : Nat) : Nat :=
  match type with
  | 1 => leNat d.byte (a + 48) 8
  | 2 => leNat d.byte (a + 2304) 4
  | 3 => (d.rawAt a).neuronsCharged
  | 4 => leNat d.byte (a + 8) 4 - leNat d.byte (a + 52) 4 + (leNat d.byte (a + 24) 4 - leNat d.byte (a + 56) 4)
  | 5 => leNat d.byte (a + 8) 4
  | _ => leNat d.byte a 8

/-- The slots of a SUBMIT body: type, bytes 1 to 7, and address. -/
def submitSlots (rd : Nat → Byte) (n : Nat) : List (Nat × Nat × Nat) :=
  (upto n).map fun i => (leNat rd (64 + 16 * i) 1, leNat rd (65 + 16 * i) 7, leNat rd (72 + 16 * i) 8)

/-- Check 4 of R389. -/
def Dev.slotsCheck (d : Dev) (n : Nat) (ss : List (Nat × Nat × Nat)) : Refuse :=
  if 64 < n then some (0x1009, noPost)
  else firstRefusal (ss.flatMap fun s => [refuseIf (s.2.1 != 0) 0x1008, d.slotCheck s.1 s.2.2])

/-- The phases of a variant that run, the reshape prologue included. -/
def TRec.varAll (r : TRec) (v : Nat) : List Nat := r.varPrologue v ++ r.varPhases v
/-- The terms of those phases. -/
def TRec.varTerms (r : TRec) (v : Nat) : List Nat := (r.varAll v).flatMap r.phTerms

/-- Check 1 of R390: what the terms of a variant ask of the slots. -/
def Dev.termsCheck (d : Dev) (r : TRec) (v n : Nat) (ss : List (Nat × Nat × Nat)) : Refuse :=
  let ts := r.varTerms v
  let slot (t : Nat) : Nat × Nat × Nat := nth ss ((r.tmSlot t).getD 0) (0, 0, 0)
  let named (t : Nat) : Bool := (r.tmSlot t).isSome
  firstRefusal ([refuseIf (ts.any fun t => match r.tmSlot t with | some s => decide (n ≤ s) | none => false) 0x1009,
    refuseIf (decide (32768 < ((ts.filter fun t => r.tmKind t == 0x10).map fun t => r.p t 3).sum)) 0x1009,
    refuseIf (ts.any fun t => named t && slotTypeOf (r.tmKind t) != 0 && slotTypeOf (r.tmKind t) != (slot t).1) 0x1008] ++
    (ts.filter fun t => r.tmKind t == 0x12).flatMap (fun t =>
      let a := (slot t).2.2
      let rp := leNat d.byte (a + 16) 8 + 8 * leNat d.byte (a + 40) 4
      [d.metaRead rp 8 8, refuseIf (leNat d.byte rp 8 != leNat d.byte (a + 48) 8) 0x1008]) ++
    (ts.filter fun t => r.tmKind t == 0x10).flatMap fun t =>
      let dir := leNat d.byte (slot t).2.2 8
      (upto (r.p t 3)).flatMap fun i =>
        let h := dir + 16 * (r.p t 2 + i)
        [d.metaRead h 16 16, refuseIf (decide (4096 < leNat d.byte h 2)) 0x1008])

/-- The slots as a variant's terms use them. -/
def Dev.slotVals (d : Dev) (r : TRec) (v : Nat) (ss : List (Nat × Nat × Nat)) : List SlotVal :=
  ss.zipIdx.map fun s =>
    let a := s.1.2.2
    let tiles := ((r.varTerms v).filter fun t => r.tmKind t == 0x10 && r.tmSlot t == some s.2).flatMap fun t => (upto (r.p t 3)).map (r.p t 2 + ·)
    { type := s.1.1, q := d.slotQ s.1.1 a, rpLast := d.slotQ s.1.1 a
      pops := tiles.foldl (fun m i => sset (fun _ => 0) m i (leNat d.byte (leNat d.byte a 8 + 16 * i) 2)) [] }

/-! ### Restoring SUBMITs (R127, R128) -/

/-- The check of a context image (R127). -/
def Dev.restoreCheck (d : Dev) (a : Nat) (program : W64) : Refuse :=
  let rd := d.byte
  let len := leNat rd (a + 24) 8
  let ver := leNat rd (a + 8) 2
  let lanes := leNat rd (a + 10) 2
  let n := leNat rd (a + 12) 4
  let windows := 128 + 17280 * n
  if !spanMapped a 128 then some (0x1004, noPost)
  else match d.dataRead a 128 false with
    | some (_, post) => some (0x1004, post)
    | none =>
      if len < 8 || !spanMapped a len then some (0x1004, noPost)
      else match d.dataRead a len false with
        | some (_, post) => some (0x1004, post)
        | none => refuseIf
            (readBytes rd a 8 != magicCtx || !((ver == 2 && lanes == 64) || (ver == 1 && lanes == 32)) ||
             leNat rd (a + len - 8) 8 != crc64 (readBytes rd a (len - 8)) || leNat rd (a + 16) 8 != program.toNat ||
             (ver == 2 && len != imageLength n) ||
             (ver == 2 && (upto (512 * n)).any fun i => (Window.ofRecordBits (leNat rd (a + windows + 32 * i) 32)).isOpen)) 0x1004

/-- The variants that a SUBMIT may use (R128, R389). -/
def Dev.eligible (d : Dev) (r : TRec) (restore : Option Nat) : List Nat :=
  (upto r.variants).filter fun v =>
    match restore with
    | none => r.varKind v == 0
    | some a =>
      let ver := leNat d.byte (a + 8) 2
      let lanes := leNat d.byte (a + 10) 2
      let n := leNat d.byte (a + 12) 4
      if r.varKind v = 0 then ver == 2 && lanes == 64 && n == (r.varCores v).length
      else r.u (r.var v + 64) 2 == ver && r.u (r.var v + 66) 2 == lanes && r.u (r.var v + 68) 4 == n &&
        decide (leNat d.byte (a + 24) 8 ≤ r.u (r.var v + 88) 8)

/-! ### The accepted set (R383 to R387) -/

/-- Whether an accepted task's window overlaps the window from `s` to `e` (R384). -/
def Task.overlaps (t : Task) (s e : Nat) : Bool := decide (t.start.toNat < e) && decide (s < t.deadline.toNat)

/-- Add the requesters of the phases of a task to k and w of a phase whose footprint is `m` (R383). -/
def TRec.joinLoad (r : TRec) (v m : Nat) (kw : Nat × Nat) : Nat × Nat :=
  (r.varAll v).foldl (fun kw p => match r.phFp p with
    | none => (43, 51)
    | some f => if r.u (r.fp f) 72 &&& m = 0 then kw else (kw.1 + r.u (r.fp f + 72) 2, kw.2 + r.u (r.fp f + 74) 2)) kw

/-- The caps of R383. -/
def capLoad (kw : Nat × Nat) : Nat × Nat := (min 43 kw.1, min 51 kw.2)

/-- k and w of a phase beside other tasks. -/
def TRec.load (r : TRec) (p : Nat) (others : List Task) : Nat × Nat :=
  match r.phFp p with
  | none => (43, 51)
  | some f => capLoad (others.foldl (fun kw t => TRec.joinLoad t.adm.record t.variant (r.u (r.fp f) 72) kw)
      (r.u (r.fp f + 72) 2, r.u (r.fp f + 74) 2))

/-- Every value of B_w that governs or is pending at a region (R240, R380). -/
def Dev.bwAt (d : Dev) (n : Nat) : List Nat :=
  (d.fld (aArRn n + 4) 7 0 + 1) :: if d.flag (aArRn n + 4) 8 then [d.fld (aArRn n) 7 0 + 1] else []

/-- B_w for a phase: the regions that its footprint names, or every region. -/
def Dev.bwFor (d : Dev) (r : TRec) (p : Nat) : List Nat :=
  let m := match r.phFp p with | none => 0 | some f => r.u (r.fp f) 72
  ((upto 8).filter fun n => m == 0 || m / 2 ^ (72 * n) % 2 ^ 72 != 0).flatMap d.bwAt

/-- B_X of an arbiter: the larger of the governing and the pending limit (R486). -/
def Dev.bxAt (d : Dev) (a : Nat) : Nat := max (d.fld (a + 4) 7 0) (if d.flag (a + 4) 8 then d.fld a 7 0 else 0) + 1

/-- The arbiters of a stream resource (R381, R489). -/
def Dev.resArbiters (d : Dev) (x : Nat) (cores : List Nat) : List Nat :=
  if x < 8 then [aArRn x + 0x400]
  else if x < 16 then [aArRn (x - 8) + 0xC00]
  else if x < 24 then [aArRn (x - 16) + 0x800]
  else if x = 24 then [aArHb, aArHb + 0x200]
  else if x = 25 then [aArHb + 0x400, aArHb + 0x600]
  else if x = 26 then [aArHb + 0x800, aArHb + 0xA00]
  else cores.filterMap fun g => (d.physOf g).map fun p => aCo p.1 p.2 + 0x3100

/-- B_X of a stream resource (R382). -/
def Dev.bx (d : Dev) (x : Nat) (cores : List Nat) : Nat := (d.resArbiters x cores).foldl (fun m a => max m (d.bxAt a)) 0

/-- The surroundings of a phase with given k and w. -/
def Dev.envAt (d : Dev) (r : TRec) (p : Nat) (rowOnly : Bool) (kw : Nat × Nat) (cores : List Nat) (slots : List SlotVal) : EvalEnv :=
  { rowOnly := rowOnly, bw := d.bwFor r p, k := kw.1, w := kw.2, cores := cores, slots := slots }

/-- The bytes that a variant moves over a resource. -/
def TRec.bytesOn (r : TRec) (v x : Nat) (slots : List SlotVal) : Nat :=
  let e : EvalEnv := { rowOnly := false, bw := [], k := 0, w := 0, cores := [], slots := slots }
  (r.varTerms v).foldl (fun n t => if r.tmKind t = 0x20 && bit (r.tmRes t) x then n + r.bytes t e else n) 0

/-- Whether an accepted task's program carries row_only. -/
def Dev.rowOnlyOf (d : Dev) (t : Task) : Bool := match d.image? t.image with | some m => m.rowOnly | none => t.rowOnly

/-- The growth of a task's bank-group charges when another's requesters join one of its phases (R387). -/
def Dev.bankGrowth (d : Dev) (t : Task) (r : TRec) (v : Nat) (l : PhaseLoad) : Nat :=
  let q : TRec := t.adm.record
  match q.phFp l.phase with
  | none => 0
  | some f =>
    let kw := capLoad (r.joinLoad v (q.u (q.fp f) 72) (l.k, l.w))
    let e0 := d.envAt q l.phase (d.rowOnlyOf t) (l.k, l.w) t.cores t.adm.slots
    let e1 := d.envAt q l.phase (d.rowOnlyOf t) kw t.cores t.adm.slots
    (q.phTerms l.phase).foldl (fun n x =>
      if [0x02, 0x03, 0x04].contains (q.tmKind x) then n + (q.charge x e1 - q.charge x e0)
      else if q.tmKind x = 0x20 then n + (istCharge e1 (q.u (q.tm x + 36) 4) - istCharge e0 (q.u (q.tm x + 36) 4)).toNat
      else n) 0

/-- A candidate under evaluation. -/
structure Evaluated where
  variant : Nat
  start : Nat
  cyc : Nat
  bound : Nat
  adm : Adm
  deadline : Nat
  cores : List Nat

/-- Whether a stream resource of one core set is that of another (R381): bit 27 names the staging ports of the task's own cores. -/
def sharesRes (x : Nat) (cores others : List Nat) : Bool := x != 27 || cores.any others.contains

/-- Δ_σ (R387): by how much admitting a candidate raises B_cyc of an accepted task. -/
def Dev.raiseOf (d : Dev) (c : Evaluated) (t : Task) : Nat :=
  if !t.overlaps c.start c.deadline then 0
  else
    let r : TRec := c.adm.record
    let q : TRec := t.adm.record
    let core :=
      if c.cores.any t.cores.contains then
        (if c.deadline ≤ t.deadline.toNat then c.adm.active + 128 * (c.adm.points + 1) else c.adm.seg + 64 - t.adm.beta) +
          if t.adm.shared then 0 else 128 * t.adm.points
      else 0
    let streams := (upto 28).foldl (fun n x =>
      let phases := (q.varAll t.variant).filter fun p => (q.phTerms p).any fun y => q.tmKind y == 0x20 && bit (q.tmRes y) x && sharesRes x c.cores t.cores
      n + phases.length * ceilDiv (r.bytesOn c.variant x c.adm.slots) (resRate x)) 0
    core + streams + (t.adm.loads.map (d.bankGrowth t r c.variant)).sum

/-- B_ns of a task with a raised B_cyc: the clock that prices it now, and the compare allowance of its admission. -/
def Dev.boundOf (d : Dev) (t : Task) (cyc : Nat) : Nat := boundNs cyc (d.lowestF t.cores) + t.adm.extra

/-- An accepted task after a candidate has been admitted beside it (R387). -/
def Dev.raised (d : Dev) (c : Evaluated) (t : Task) : Task :=
  if !t.overlaps c.start c.deadline then t
  else
    let cyc := t.adm.cyc + d.raiseOf c t
    let b := d.boundOf t cyc
    let share := c.cores.any t.cores.contains
    let q : TRec := t.adm.record
    let r : TRec := c.adm.record
    { t with
      bound := b, stop := t.start + BitVec.ofNat 64 b
      adm := { t.adm with
        cyc := cyc
        shared := t.adm.shared || share
        beta := if share && decide (t.deadline.toNat < c.deadline) then max t.adm.beta (c.adm.seg + 64) else t.adm.beta
        loads := t.adm.loads.map fun l => match q.phFp l.phase with
          | none => l
          | some f => let kw := capLoad (r.joinLoad c.variant (q.u (q.fp f) 72) (l.k, l.w)); { l with k := kw.1, w := kw.2 } } }

/-! ### The checks of a variant (R390) -/

/-- Whether a variant needs the die link in recovery (R469). -/
def Dev.linkShut (d : Dev) (cores : List Nat) (res : Nat) : Bool :=
  let die (x : Nat) : Bool := cores.any fun g => g / 144 == x
  let resDie (x : Nat) : Bool := (upto 24).any fun i => i % 8 / 4 == x && bit res i
  match d.links.recovering with
  | some 0 => (die 0 && die 1) || (resDie 0 && resDie 1) || bit res 24
  | some 1 => die 0 || bit res 25
  | some _ => die 1 || bit res 26
  | none => false

/-- Check 3 of R390. -/
def Dev.resourceOff (d : Dev) (r : TRec) (v : Nat) (rowOnly : Bool) : Bool :=
  let cores := r.varCores v
  let regions := (cores.map fun g => g / 36).eraseDups
  let res := (r.varTerms v).foldl (fun m t => if r.tmKind t = 0x20 then m ||| r.tmRes t else m) 0
  ((r.varAll v).any fun p => match r.phFp p with
    | none => false
    | some f => (upto 576).any fun i => r.fpGroup f i && d.groupShut i) ||
  ((upto 8).any fun n => bit res n && d.pileShut n) ||
  (regions.any fun n => d.regionShut n || (d.onRowPath n && !rowOnly)) ||
  d.linkShut cores res

/-- The pages that accepted tasks and a new one need on a core (R122): those of each image once. -/
def Dev.pagesOn (d : Dev) (g image : Nat) (s e : Nat) : Nat :=
  let hs := (image :: (d.tasks.filter fun t => t.cores.contains g && t.overlaps s e).map fun t => t.image).eraseDups
  hs.foldl (fun n h => n + match d.image? h with | some m => m.pages | none => 0) 0

/-- The end of the time for which a core is busy (R31, R465): a substitution, or an open handling window. -/
def Dev.busyUntil (d : Dev) (g : Nat) : List Nat :=
  (if d.remapBusy g then [(sget (fun _ => 0) (d.region (g / 36)).snuffedAt (g % 36)).toNat + 2000000] else []) ++
  match d.physOf g with
  | none => []
  | some (r, k) => match sget (fun _ => none) d.coreOpen (r * 40 + k) with
    | none => []
    | some x => [x.toNat + 50000]

/-- The effective throttle mask (R512). -/
def Dev.throttleMask (d : Dev) : BitVec 8 :=
  (if d.power.throttled then BitVec.ofNat 8 (d.fld (aPw + rPwThrottle) 7 0) else 0) ||| d.power.hotMask

/-- Whether a core holds fewer than 12 reservations at every instant from `s` to `e` (R385). -/
def Dev.roomOn (d : Dev) (g s e : Nat) : Bool :=
  let ts := d.tasks.filter fun t => t.cores.contains g
  let busyAt (x : Nat) : Bool := decide (12 ≤ (ts.filter fun t => decide (t.start.toNat ≤ x) && decide (x < t.deadline.toNat)).length)
  !(d.throttleMask).getLsbD (g / 36) && !busyAt s && ts.all fun t => !(decide (s < t.start.toNat) && decide (t.start.toNat ≤ e) && busyAt t.start.toNat)

/-- The planned start of a candidate (R385), for a SUBMIT that arrived at `at_`. -/
def Dev.plannedStart (d : Dev) (cores : List Nat) (at_ deadline : Nat) : Option Nat :=
  let busy := cores.flatMap d.busyUntil
  let ends := d.tasks.map fun t => t.deadline.toNat + 2000
  let copied := if d.flag (aHb + rHbFlkState) 0 then ends.foldl max 0 else 0
  let floor := (copied :: busy).foldl max (at_ + 3000)
  let good := ((at_ + 3000) :: busy ++ ends).filter fun s => decide (floor ≤ s) && cores.all fun g => d.roomOn g s deadline
  good.foldl (fun (m : Option Nat) s => some (match m with | none => s | some x => min x s)) none

/-- B_cyc, B_ns and what the Lamplighter keeps of a variant that starts at `s` (R382 to R386). -/
def Dev.priced (d : Dev) (h : Nat) (m : Image) (v s deadline tImg : Nat) (slots : List SlotVal) : Evaluated :=
  let r : TRec := m.record
  let cores := r.varCores v
  let others := d.tasks.filter fun t => t.overlaps s deadline
  let on (g : Nat) : List Task := others.filter fun t => t.cores.contains g
  let shared := cores.any fun g => !(on g).isEmpty
  let phases := r.varAll v
  let env (p : Nat) : EvalEnv := d.envAt r p m.rowOnly (r.load p others) cores slots
  let O (x : Nat) : Nat := (others.filter fun t => sharesRes x cores t.cores).foldl (fun n t => n + TRec.bytesOn t.adm.record t.variant x t.adm.slots) 0
  let lacking : Nat := cores.foldl (fun (n : Nat) g => match d.physOf g with
    | none => n
    | some (a, k) => max n ((d.core a k).lacks h m).length) 0
  let betaOn (g : Nat) : Nat :=
    let ls := ((on g).filter fun t => decide (deadline < t.deadline.toNat)).map fun t => t.adm.seg
    if ls.isEmpty then 0 else ls.foldl max 0 + 64
  let early (g : Nat) : Nat :=
    (((on g).filter fun t => decide (t.deadline.toNat ≤ deadline)).map fun t => t.adm.active + 128 * (t.adm.points + 1)).sum
  let I := cores.foldl (fun n g => max n (early g + betaOn g)) 0
  let cyc := (if lacking = 0 then 0 else 180 + 32 * lacking) + tImg +
    (phases.map fun p => r.phBound p (env p) shared O (fun x => d.bx x cores)).sum + (r.dMax + 40) + I
  let extra := if d.mirrorReady && d.ttPrimary then d.fld (aTt + rTtCfg) 15 0 else 0
  { variant := v, start := s, cyc := cyc, bound := boundNs cyc (d.lowestF cores) + extra, deadline := deadline, cores := cores
    adm := { cyc := cyc, active := (phases.map fun p => r.phCompute p (env p)).sum, points := (phases.map fun p => r.u (r.ph p + 12) 4).sum
             shared := shared, beta := cores.foldl (fun n g => max n (betaOn g)) 0, seg := r.segMax
             loads := phases.map fun p => { phase := p, k := (env p).k, w := (env p).w }
             slots := slots, record := r, extra := extra } }

/-- t_img of R384. -/
def TRec.restoreCyc (r : TRec) (v : Nat) (restore : Bool) : Nat :=
  if !restore then 0 else if r.varKind v = 0 then 298 else 522 + ceilDiv (r.u (r.var v + 88) 8) 512

/-- What the checks of a variant find: a refusal, or a variant that may be accepted. -/
abbrev Checked := Except (Status × Post) Evaluated

/-- The checks of R390 in order, for a SUBMIT that arrived at `at_`; `n` slots `ss`. -/
def Dev.checkVariant (d : Dev) (h : Nat) (m : Image) (v n : Nat) (ss : List (Nat × Nat × Nat)) (restore : Bool) (at_ deadline : Nat) : Checked :=
  let r : TRec := m.record
  let cores := r.varCores v
  match d.termsCheck r v n ss with
  | some x => .error x
  | none =>
    if cores.any d.anyVacant then .error (0x1003, noPost)
    else if d.resourceOff r v m.rowOnly then .error (0x100A, noPost)
    else if cores.any fun g => decide (16 < d.pagesOn g h (at_ + 3000) deadline) then .error (0x1007, noPost)
    else match d.plannedStart cores at_ deadline with
      | none => .error (0x1001, noPost)
      | some s =>
        let c := d.priced h m v s deadline (r.restoreCyc v restore) (d.slotVals r v ss)
        if deadline < s + c.bound then .error (0x1001, noPost)
        else if d.tasks.any fun t => decide (t.deadline.toNat < t.start.toNat + d.boundOf t (t.adm.cyc + d.raiseOf c t)) && t.overlaps s deadline
        then .error (0x1002, noPost)
        else .ok c

/-! ### The VERDICT (R389, R391, R417) -/

/-- The body of a VERDICT: `reasons` gives the status of each variant that was checked. -/
def verdictBody (st : Status) (variant : Nat) (id : W32) (start bound stop : Nat) (reasons : List (Nat × Status)) : List Byte :=
  leBytes st.toNat 2 ++ leBytes variant 2 ++ leBytes id.toNat 4 ++ leBytes start 8 ++ leBytes bound 8 ++ leBytes stop 8 ++
  leBytes (reasons.foldl (fun m p => m + 2 ^ p.1) 0) 2 ++ leBytes 0 2 ++
  (upto 16).flatMap fun v => leBytes (((reasons.find? fun p => p.1 == v).map fun p => p.2.toNat).getD 0) 2

/-- Send a VERDICT. -/
def Dev.sendVerdict (d : Dev) (s : Nat) (seq : W32) (body : List Byte) : Dev := d.sendSeq s 0x11 body seq

/-- Refuse a SUBMIT (R391, R395). -/
def Dev.refuseSubmit (d : Dev) (s : Nat) (seq : W32) (st : Status) (reasons : List (Nat × Status) := []) : Dev :=
  let d := (d.inc64 (aLl + rLlRefusals) 1).wr (aLl + rLlLastRefusal) (BitVec.ofNat 32 (st.toNat + s % 4096 * 2 ^ 16))
  let d := if st = 0x100B then d.setBit (aLl + rLlSticky) 1 else d
  d.sendVerdict s seq (verdictBody st 0xFFFF 0 0 0 0 reasons)

/-- The layer records that the metadata names, as snapshots (R214). -/
def Dev.layerSnaps (d : Dev) (ss : List (Nat × Nat × Nat)) : List (Nat × Raw) :=
  (ss.filter fun s => s.1 == 3).map fun s => (s.2.2, d.rawAt s.2.2)

/-- A task accepted under a variant, from its SUBMIT body. -/
def Dev.taskOf (d : Dev) (id : W32) (s : Nat) (seq : W32) (m : Image) (body : List Byte) (c : Evaluated) : Task :=
  let rd := bytesAt body
  let r : TRec := m.record
  { id := id, session := s, seq := seq, image := leNat rd 0 2, variant := c.variant, program := m.program,
    start := BitVec.ofNat 64 c.start, bound := c.bound, stop := BitVec.ofNat 64 (c.start + c.bound), deadline := BitVec.ofNat 64 c.deadline,
    cores := c.cores, seed := BitVec.ofNat 128 (leNat rd 16 16), stream := BitVec.ofNat 32 (leNat rd 32 4), step := BitVec.ofNat 64 (leNat rd 8 8),
    args := leNat rd 40 8, restore := if bit (leNat rd 2 2) 0 then some (leNat rd 48 8) else none, strict := r.strict, rowOnly := m.rowOnly,
    bundles := m.bundles, channels := r.varChannels c.variant, layers := d.layerSnaps (submitSlots rd (leNat rd 4 2)), adm := c.adm,
    mirrored := d.mirrorReady && d.ttPrimary }

/-- The identifier after `id` (R391). -/
def nextTask (id : W32) : W32 := if id + 1 = 0 then 1 else id + 1

/-- The body of a TASK (R436). -/
def taskBody (t : Task) (body : List Byte) : List Byte :=
  leBytes t.id.toNat 4 ++ leBytes t.variant 2 ++ leBytes t.session 2 ++ leBytes t.seq.toNat 4 ++ leBytes 0 4 ++ leBytes t.program.toNat 8 ++
  leBytes t.start.toNat 8 ++ leBytes t.bound 8 ++ leBytes t.deadline.toNat 8 ++ body

/-- Note a task identifier that was replicated (R455). -/
def Dev.noteLast (d : Dev) (id : W32) : Dev := if d.rd (aTt + rTtLastTask) < id then d.wr (aTt + rTtLastTask) id else d

/-- Take a task into the accepted set (R387). -/
def Dev.addTask (d : Dev) (t : Task) (c : Evaluated) : Dev := { d with tasks := d.tasks.map (d.raised c) ++ [t] }

/-- Accept a variant: the task is admitted, the VERDICT and the TASK for the twin are sent (R391, R445, R448). -/
def Dev.acceptSubmit (d : Dev) (s : Nat) (seq : W32) (m : Image) (body : List Byte) (c : Evaluated) (reasons : List (Nat × Status)) : Dev :=
  let t := d.taskOf d.lamp.next s seq m body c
  let d := (d.addTask t c).inc64 (aLl + rLlAccepts) 1
  let d := ({ d with lamp := { d.lamp with next := nextTask d.lamp.next } }).notFresh
  let d := d.sendVerdict s seq (verdictBody 0 c.variant t.id c.start c.bound (c.start + c.bound) reasons)
  if d.replicates then (d.sendRaw tether { type := 0x42, session := 0, body := taskBody t body }).noteLast t.id else d

/-- Try the eligible variants in order (R389 check 5): the variant that passes, the statuses found, and what failed reads left. -/
def Dev.tryVariants (h : Nat) (m : Image) (n : Nat) (ss : List (Nat × Nat × Nat)) (restore : Bool) (at_ deadline : Nat) :
    List Nat → Dev → List (Nat × Status) → Option Evaluated × Dev × List (Nat × Status)
  | [], d, rs => (none, d, rs)
  | v :: vs, d, rs =>
    match d.checkVariant h m v n ss restore at_ deadline with
    | .ok c => (some c, d, rs ++ [(v, 0)])
    | .error (st, post) => tryVariants h m n ss restore at_ deadline vs (post 0 d) (rs ++ [(v, st)])

/-- The roles of R435, R443 and R453 that refuse a SUBMIT before it is evaluated. -/
def Dev.twinRefusal (d : Dev) (s : Nat) : Option Status :=
  if d.ttState = 5 then some 0x7007
  else if d.isSecondary then some 0x7005
  else if (d.session s).pair && d.ttState != 3 && d.ttState != 4 then some 0x7004
  else none

/-- Whether new work is admitted: the device is Lit and does not await Pilot (R389, R502). -/
def Dev.admitsWork (d : Dev) : Bool := d.lit && !d.flag (aPw + rPwState) 6

/-- What an evaluation finds: a refusal with the statuses of the variants checked, or the image and the variant that may be accepted. -/
inductive Judged where
  | refused (st : Status) (reasons : List (Nat × Status))
  | fits (im : Image) (c : Evaluated) (reasons : List (Nat × Status))

/-- The checks of R389 in order, once an evaluator has the SUBMIT: the device with what failed reads left, and what they find. -/
def Dev.judge (d : Dev) (m : InMsg) : Dev × Judged :=
  let s := m.msg.session
  let rd := bytesAt m.msg.body
  let n := leNat rd 4 2
  let ss := submitSlots rd n
  let restore := if bit (leNat rd 2 2) 0 then some (leNat rd 48 8) else none
  if !d.admitsWork then (d, .refused 0x100C [])
  else match d.twinRefusal s with
    | some st => (d, .refused st [])
    | none => match d.image? (leNat rd 0 2) with
      | none => (d, .refused 0x1006 [])
      | some im =>
        match restore.bind fun a => d.restoreCheck a im.program with
        | some (st, post) => (post 0 d, .refused st [])
        | none =>
          match d.eligible im.record restore with
          | [] => (d, .refused 0x1005 [])
          | v :: vs =>
            match d.slotsCheck n ss with
            | some (st, post) => (post 0 d, .refused st [])
            | none =>
              match Dev.tryVariants (leNat rd 0 2) im n ss restore.isSome m.arrived.toNat m.msg.deadline.toNat (v :: vs) d [] with
              | (some c, d, rs) => (d, .fits im c rs)
              | (none, d, rs) => (d, .refused ((rs.head?.map fun p => p.2).getD 0x1001) rs)

/-- Evaluate a SUBMIT and answer it (R389, R391). -/
def Dev.evaluate (d : Dev) (m : InMsg) : Dev :=
  match d.judge m with
  | (d, .refused st rs) => d.refuseSubmit m.msg.session m.msg.seq st rs
  | (d, .fits im c rs) => d.acceptSubmit m.msg.session m.msg.seq im m.msg.body c rs

/-- Whether a SUBMIT body has its layout (R378): reserved fields 0, and the length that nslots gives. -/
def submitOk (body : List Byte) : Bool :=
  let rd := bytesAt body
  let n := leNat rd 4 2
  decide (64 ≤ body.length) && (decide (64 < n) || body.length == 64 + 16 * n) && decide (leNat rd 2 2 ≤ 1) && leNat rd 6 2 == 0 &&
    leNat rd 36 4 == 0 && leNat rd 56 8 == 0

/-- SUBMIT (R388, R389, R417): `busy` says that no evaluator is free, `ns` is the time from its last byte to its VERDICT leaving. -/
def Dev.submitReceived (busy : Bool) (ns : BitVec 32) (m : InMsg) (d : Dev) : Dev :=
  let s := m.msg.session
  if !m.poison.isEmpty then d.sendVerdict s m.msg.seq (verdictBody 0x6001 0xFFFF 0 0 0 0 [])
  else if !submitOk m.msg.body then d.reject s m.msg.seq 0x6002
  else
    let d := if d.rd (aLl + rLlEvalMax) < ns then d.wr (aLl + rLlEvalMax) ns else d
    if busy && d.admitsWork then d.refuseSubmit s m.msg.seq 0x100B else d.evaluate m

/-- SUBMIT. -/
def execSubmit (busy : Bool) (ns : BitVec 32) (s : State) : Out :=
  event (fun d => d.onMessage (fun m => m.type == 0x10 && !m.response) (Dev.submitReceived busy ns)) s

end Sys2Proof.Machine
end

