-- ==== Sys2Proof/Machine/Keep.lean ====
section
/-! DEFINITION. How accepted contracts are kept (R31, R392 to R394): overruns, and the tasks that an event makes late. -/

namespace Sys2Proof.Machine

/-! ### Overruns (R392) -/

/-- Whether DT has reached a time, less 2,000 ns. -/
def Dev.due (d : Dev) (t : W64) : Bool := decide (t.toNat ≤ d.dt.toNat + 2000)

/-- Whether a task overruns: DT has reached E - 2,000 ns and its results and digest are not written. -/
def Dev.late (d : Dev) (t : Task) : Bool := t.written.isNone && d.due t.stop

/-- Mark every task that overruns. -/
def Dev.markOverruns (d : Dev) : Dev := { d with tasks := d.tasks.map fun t => { t with overrun := t.overrun || d.late t } }

/-- The tasks that overrun, oldest first: those whose results and digest are written have ended. -/
def Dev.overrunning (d : Dev) : List Task := d.tasks.filter fun t => t.overrun && t.written.isNone

/-- Abort an overrunning task. -/
def Dev.abortOverrun (d : Dev) (id : W32) : Dev :=
  ({ d with lamp := { d.lamp with lastOverrun := some d.dt } }).abortTask id 0x100F

/-- Abort the task that was accepted last among those that overrun. -/
def Dev.abortYoungest (d : Dev) : Dev :=
  match d.overrunning.getLast? with
  | none => d
  | some t => d.abortOverrun t.id

/-- OVERRUN_CHECK (step 1 of R392): a task has come to overrun. -/
def Dev.overrunCheck (d : Dev) (id : W32) : Dev :=
  match d.task? id with
  | none => d
  | some t => if d.late t && !t.overrun then d.markOverruns.abortYoungest else d

/-- OVERRUN_CHECK. -/
def execOverrunCheck (id : W32) (s : State) : Out := event (fun d => d.overrunCheck id) s

/-- OVERRUN_NEXT_ABORT (step 2 of R392): 8 µs after the previous abort. -/
def Dev.overrunNext (d : Dev) : Dev :=
  match d.lamp.lastOverrun with
  | none => d
  | some at_ => if at_.toNat + 8000 ≤ d.dt.toNat then d.abortYoungest else d

/-- OVERRUN_NEXT_ABORT. -/
def execOverrunNextAbort (s : State) : Out := event Dev.overrunNext s

/-- OVERRUN_DEADLINE_ABORT (step 3 of R392). -/
def Dev.overrunDeadline (d : Dev) (id : W32) : Dev :=
  match d.task? id with
  | none => d
  | some t => if d.late t && d.due t.deadline then d.markOverruns.abortOverrun id else d

/-- OVERRUN_DEADLINE_ABORT. -/
def execOverrunDeadlineAbort (id : W32) (s : State) : Out := event (fun d => d.overrunDeadline id) s

/-! ### Re-validation (R31, R393) -/

/-- An accepted task whose start an event puts off to `until_`. -/
def Task.putOff (t : Task) (until_ : Nat) : Task :=
  { t with start := BitVec.ofNat 64 until_, stop := BitVec.ofNat 64 (until_ + t.bound) }

/-- Re-validate one task that holds no slot: it keeps its place when its bound still meets its deadline. -/
def Dev.revalidateTask (d : Dev) (t : Task) (until_ : Nat) : Dev :=
  if t.started || decide (until_ ≤ t.start.toNat) then d
  else if t.deadline.toNat < until_ + t.bound then d.abortTask t.id 0x1010
  else d.modTask t.id fun t => t.putOff until_

/-- Re-validate every task that a test picks against the end of an event. -/
def Dev.revalidate (d : Dev) (pick : Task → Bool) (until_ : Nat) : Dev :=
  (d.tasks.filter pick).foldl (fun d t => d.revalidateTask t until_) d

/-- Re-validate the tasks with a global logical core against its return to service. -/
def Dev.revalidateCore (d : Dev) (g until_ : Nat) : Dev := d.revalidate (fun t => t.cores.contains g) until_

end Sys2Proof.Machine
end

