-- ==== Sys2Proof/Machine/Faults.lean ====
section
/-! DEFINITION. Faults, fencing and Safe Hold (R25, R29 to R34, R40, R463 to R476): what each detected event enters and how it is handled. -/

namespace Sys2Proof.Machine

/-! ### Entering an event (R457 to R462, R471) -/

/-- One day of DT in ns. -/
def dayNs : Nat := 86400000000000
/-- Of a list of DTs, those within 24 h of now. -/
def Dev.withinDay (d : Dev) (l : List W64) : List W64 := l.filter fun x => decide (d.dt.toNat < x.toNat + dayNs)

/-- The task that an entry names when an event ends several: the one with the smallest identifier; 0 when none. -/
def smallest (ids : List W32) : Nat := (ids.foldl (fun (m : Option Nat) i => some (match m with | none => i.toNat | some x => min x i.toNat)) none).getD 0

/-- Of a list of tasks, those that an event ends: a task whose results and digest are written ends with DONE (R53). -/
def openIds (ts : List Task) : List W32 := (ts.filter fun t => t.written.isNone).map fun t => t.id

/-- Enter an event that passes to the level above (R471): its entry and its record show escalated. -/
def Dev.enterEscalated (d : Dev) (base n status source unit detail task : Nat) : Dev :=
  (d.enterError base n status source unit detail task 1).setBit (base + rErState) 2

/-- Abort the tasks of a list that hold a slot on a core (R118, R465): the core records the position of each one's context. -/
def Dev.abortOnCore (d : Dev) (r : Fin 8) (k : Fin 40) (ids : List W32) (status : Status) : Dev :=
  ids.foldl (fun d id => d.abortTask id status
    (((upto 12).find? fun i => match nth (d.core r k).slots i none with | none => false | some c => c.task == id).map fun i =>
      d.faultAt { region := r, core := k, slot := Fin.ofNat 12 i })) d

/-- Enter an event that arrives from the level below, when `esc` says that it does (R471): its entry shows during_handling. -/
def Dev.enterFrom (d : Dev) (esc : Bool) (base n status source unit detail task : Nat) : Dev :=
  d.enterError base n status source unit detail task (if esc then 2 else 0)

/-- Whether the unit of a record is inside a handling window (R464). -/
def Dev.handling (d : Dev) (base : Nat) : Bool := d.flag (base + rErState) 0
/-- Open or close the handling window of the unit of a record. -/
def Dev.setHandling (d : Dev) (base : Nat) (v : Bool) : Dev := d.putBit (base + rErState) 0 v

/-- Whether errors of a core are still recorded (R472): it is neither snuffed nor in a fenced region. -/
def Dev.watched (d : Dev) (r k : Nat) : Bool := !d.regionFenced r && !d.snuffed r k

/-- The tasks with a context slot on a core. -/
def Dev.slotTasks (d : Dev) (r k : Nat) : List Task :=
  d.tasks.filter fun t => (d.core r k).slots.any fun s => match s with | none => false | some c => c.task == t.id

/-- The task whose context runs on a core; 0 when none does. -/
def Dev.runningTask (d : Dev) (r k : Nat) : Nat :=
  match (d.core r k).running.bind fun i => nth (d.core r k).slots i none with
  | none => 0
  | some c => c.task.toNat

/-! ### The core map (R29 to R37, R474) -/

/-- The word of a logical index in RN_LMAP. -/
def lmapAt (r l : Nat) : Nat := aRn r + rRnLmap + 4 * l

/-- RN_STATE's counts after a change of the map (R35). -/
def Dev.countMap (d : Dev) (r : Nat) : Dev :=
  let spares := ((upto 40).filter fun k => bit (d.rd64 (aRn r + rRnSpare)) k).length
  let vacant := ((upto 36).filter fun l => d.flag (lmapAt r l) 6).length
  ((d.setFld (aRn r + rRnState) 2 0 spares).putBit (aRn r + rRnState) 3 (decide (0 < vacant))).setFld (aRn r + rRnState) 13 8 vacant

/-- Make a logical index vacant (R34). -/
def Dev.vacate (d : Dev) (r l : Nat) : Dev := ((d.setFld (lmapAt r l) 5 0 0x3F).setBit (lmapAt r l) 6).clrBit (lmapAt r l) 7

/-- The spare that substitutes for a core (step 2 of R29). -/
def Dev.pickSpare (d : Dev) (r k : Nat) : Option Nat :=
  let idle := (upto 40).filter fun s => bit (d.rd64 (aRn r + rRnSpare)) s
  match idle.find? fun s => s / 10 == k / 10 with
  | some s => some s
  | none => idle.head?

/-- Choose a spare for a logical index whose core `k` was snuffed and begin its test; with none left the index becomes vacant, and the tasks
whose set holds it are aborted (R34). -/
def Dev.substitute (d : Dev) (r l k : Nat) : Dev :=
  match d.pickSpare r k with
  | some s =>
    let d := d.wr64 (aRn r + rRnSpare) (setField (d.rd64 (aRn r + rRnSpare)) s s 0)
    ((d.modRegion r fun g => { g with substs := ⟨l, k, s⟩ :: g.substs }).modCore r s fun co => { co with fixedPipe := true }).countMap r
  | none =>
    let g := 36 * r + l
    let d := ((d.vacate r l).modRegion r fun x => { x with snuffedAt := sset (fun _ => 0) x.snuffedAt l 0 }).countMap r
    d.abortAll (openIds (d.tasks.filter fun t => t.cores.contains g)) 0x1010

/-- The handling window of a core ends (R472), and with it those of its lanes. -/
def Dev.endCoreWindow (d : Dev) (r k : Nat) : Dev :=
  let d := (upto 64).foldl (fun d l => d.setHandling (aErLane r k l) false) (d.setHandling (aErCo r k) false)
  { d with coreOpen := sset (fun _ => none) d.coreOpen (r * 40 + k) none }

/-- Snuff a core (R29, R32): it is recorded, its tasks are aborted, and a spare is chosen for its logical index. -/
def Dev.snuff (d : Dev) (r k : Nat) (esc : Bool) : Dev :=
  if !d.watched r k then d
  else
    let l? := (upto 36).find? fun l => d.fld (lmapAt r l) 5 0 == k && !d.flag (lmapAt r l) 6
    let test := (d.region r).substs.find? fun s => s.spare == k
    let ids := openIds (d.slotTasks r k)
    let d := d.wr64 (aRn r + rRnFence) (setField (d.rd64 (aRn r + rRnFence)) k k 1)
    let d := ((d.wr64 (aRn r + rRnSpare) (setField (d.rd64 (aRn r + rRnSpare)) k k 0)).fenceCore r k).endCoreWindow r k
    let index := match l?, d.pickSpare r k with | some l, some _ => l | _, _ => 0xFF
    let d := d.enterFrom esc (aErRn r) 128 0x8002 0x24 k index (smallest ids)
    let d := (d.abortOnCore (Fin.ofNat 8 r) (Fin.ofNat 40 k) ids 0x8002).countMap r
    match l?, test with
    | some l, _ =>
      let d := (d.setBit (lmapAt r l) 7).modRegion r fun g => { g with snuffedAt := sset (fun _ => 0) g.snuffedAt l d.dt }
      (d.substitute r l k).revalidateCore (36 * r + l) (d.dt.toNat + 2000000)
    | none, some s => (d.modRegion r fun g => { g with substs := g.substs.filter fun x => x.spare != k }).substitute r s.index s.snuffed
    | none, none => d

/-- A core fails its built-in test: source 0x13, and the core is snuffed (R29, R463, R474). No command tells the test step, so the detail is a
free value (log 1). -/
def Dev.failsTest (d : Dev) (r k : Nat) : Dev :=
  let (v, d) := d.draw
  (d.enterEscalated (aErCo r k) 16 0x8002 0x13 0 v.toNat 0).snuff r k true

/-- SPARE_TEST_DONE (R29, R474): the spare under test takes the logical index, or is snuffed and the next is tried. -/
def Dev.spareTested (d : Dev) (r l : Nat) (passed : Bool) : Dev :=
  match (d.region r).substs.find? fun s => s.index == l with
  | none => d
  | some s =>
    if passed then
      let d := d.modRegion r fun g => { g with substs := g.substs.filter fun x => x.index != l }
      let d := d.modCore r s.spare fun co => { Core.initial with windows := co.windows, fixedPipe := (d.region r).recovering }
      let n := satTo 8 (d.fld (lmapAt r l) 15 8 + 1)
      ((d.setFld (lmapAt r l) 5 0 s.spare).clrBit (lmapAt r l) 7).setFld (lmapAt r l) 15 8 n
    else d.failsTest r s.spare

/-- SPARE_TEST_DONE. -/
def execSpareTestDone (region : Fin 8) (index : Fin 36) (passed : Bool) (s : State) : Out := event (fun d => d.spareTested region index passed) s

/-- REMAP_BUSY_END (R31): 2 ms after the snuff, the substitution over, nothing of it is left. -/
def Dev.remapEnd (d : Dev) (r l : Nat) : Dev :=
  let at_ := sget (fun _ => 0) (d.region r).snuffedAt l
  if at_ ≠ 0 && decide (at_.toNat + 2000000 ≤ d.dt.toNat) && !d.flag (lmapAt r l) 7 then
    d.modRegion r fun g => { g with snuffedAt := sset (fun _ => 0) g.snuffedAt l 0 }
  else d

/-- REMAP_BUSY_END. -/
def execRemapBusyEnd (region : Fin 8) (index : Fin 36) (s : State) : Out := event (fun d => d.remapEnd region index) s

/-! ### Lanes and cores (R25, R463 to R465, R470, R471) -/

/-- LANE_SINGLE_BIT. -/
def execLaneSingleBit (region : Fin 8) (core : Fin 40) (lane : Fin 64) (item : W64) (s : State) : Out :=
  event (fun d => if d.watched region core
    then d.enterError (aErLane region core lane) 1 0x800A 0x01 0 item.toNat (d.runningTask region core) 0 else d) s

/-- CORE_SINGLE_BIT. -/
def execCoreSingleBit (region : Fin 8) (core : Fin 40) (unit : W32) (item : W64) (s : State) : Out :=
  event (fun d => if d.watched region core then d.enterError (aErCo region core) 16 0x800A 0x10 unit.toNat item.toNat (d.runningTask region core) 0 else d) s

/-- An uncorrectable error of a core, or an escalation from a lane (R465, R470): it is only entered during a recovery of its region (R472). -/
def Dev.coreFault (d : Dev) (r k source unit detail : Nat) : Dev :=
  let base := aErCo r k
  let ids := openIds (d.slotTasks r k)
  let enter (d : Dev) (st : Nat) (up : Bool) : Dev :=
    let d := d.enterError base 16 st source unit detail (smallest ids) (up.toNat + 2 * (source == 0x12).toNat)
    if up then d.setBit (base + rErState) 2 else d
  if d.sameCycle base source unit detail then d.enterError base 16 0x8001 source unit detail 0 0
  else if !d.watched r k then d
  else if (d.region r).recovering then enter d 0x8001 false
  else if d.handling base then (enter d 0x8002 true).snuff r k true
  else
    let now := d.dt :: d.withinDay (d.core r k).windows
    let d := d.modCore r k fun co => { co with windows := now }
    if 3 ≤ now.length then (enter d 0x8002 true).snuff r k true
    else
      let d := ((enter d 0x8001 false).setHandling base true).abortOnCore (Fin.ofNat 8 r) (Fin.ofNat 40 k) ids 0x8001
      let d := { d with coreOpen := sset (fun _ => none) d.coreOpen (r * 40 + k) (some d.dt) }
      match d.logicalOf r k with
      | none => d
      | some g => d.revalidateCore g (d.dt.toNat + 50000)

/-- CORE_ERROR (R465). -/
def execCoreError (region : Fin 8) (core : Fin 40) (unit : W32) (item : W64) (s : State) : Out :=
  event (fun d => d.coreFault region core 0x11 unit.toNat item.toNat) s

/-- CORE_SELF_CHECK_DONE (R465): the core returns to service, or asks the region to snuff it. -/
def Dev.selfChecked (d : Dev) (r k : Nat) (passed : Bool) : Dev :=
  if d.handling (aErCo r k) then
    let d := { d.setHandling (aErCo r k) false with coreOpen := sset (fun _ => none) d.coreOpen (r * 40 + k) none }
    if passed then d else (d.setBit (aErCo r k + rErState) 2).snuff r k true
  else d

/-- CORE_SELF_CHECK_DONE. -/
def execCoreSelfCheckDone (region : Fin 8) (core : Fin 40) (passed : Bool) (s : State) : Out := event (fun d => d.selfChecked region core passed) s

/-- The error replay of one lane of an open chunk (R25, R75, R76): the lane runs the logged operations again under the chunk's anchor, or
under that of R74 when replay_due is set, and the context is held until REPLAY_DONE. -/
def Dev.laneReplay (d : Dev) (k : Ctx) (h : Chunk) (lane : Nat) : Dev :=
  let c := d.ctx k
  let ws := c.getW h.w
  let w := nth ws lane Window.zero
  let again (l : Nat) : Option (Int × Bool) :=
    if l = lane then some (if w.replayDue then (w.replayAnchor h.anchor, true) else (w.anchor.toInt, false)) else none
  let ws := replayWindows (d.core k.region k.core).stageByte h ws again
  let a := aCo k.region k.core
  let d := (((d.inc64 (a + rCoReplaysError) 1).setBit (a + rCoArithSticky) 4).inc64 (a + rCoPfTarray) h.cycles).inc64 (a + rCoPfProducts) (h.laneProducts lane)
  let d := d.modCtx k fun c =>
    ((c.setW h.w ws).putChunk { h with errReplayed := h.errReplayed ||| (1 <<< lane) }).later 2 1 (.s 0 0) 5 h.w
  (d.modCore k.region k.core fun co => { co with replaying := some k.slot }).addHold k { why := .replay h.w, kind := 5, slot := 2 }

/-- LANE_UNCORRECTABLE (R25, R470): the first error of a lane in an open chunk is replayed; any other passes to the core. -/
def Dev.laneError (d : Dev) (k : Ctx) (w : Fin 8) (lane : Nat) : Dev :=
  let base := aErLane k.region k.core lane
  let c := d.ctx k
  let escalate (d : Dev) : Dev :=
    ((d.enterEscalated base 1 0x8001 0x02 0 w c.task.toNat).setHandling base false).coreFault k.region k.core 0x12 lane w
  if d.sameCycle base 0x02 0 w then d.enterError base 1 0x800A 0x02 0 w 0 0
  else if !d.watched k.region k.core || (d.ctx? k).isNone then d
  else match c.chunk? w with
    | none => escalate d
    | some h =>
      if h.errReplayed.getLsbD lane then escalate d
      else ((d.enterError base 1 0x800A 0x02 0 w c.task.toNat 0).setHandling base true).laneReplay k h lane

/-- LANE_UNCORRECTABLE. -/
def execLaneUncorrectable (k : Ctx) (w : Fin 8) (lane : Fin 64) (s : State) : Out := event (fun d => d.laneError k w lane) s

/-! ### Region fences (R466 to R468) -/

/-- The stream resources that a task's variant names (R381). -/
def Task.resMask (t : Task) : Nat :=
  let r : TRec := t.adm.record
  (r.varTerms t.variant).foldl (fun m x => if r.tmKind x = 0x20 then m ||| r.tmRes x else m) 0

/-- Whether a bound task has a core, a channel, a coil or an open window in a region (R466). -/
def Dev.usesRegion (d : Dev) (t : Task) (r : Nat) : Bool :=
  t.started && (t.inRegion r || t.places.any fun k => match d.ctx? k with
    | none => false
    | some c => c.task == t.id && (c.coils.any (fun x => x.1 == r) || c.wins.any fun x => x.1 == r))

/-- Pile failure (R323): the pile powers down, and the tasks whose resource mask names it are aborted with `status`. -/
def Dev.pileFails (d : Dev) (n : Nat) (status : Status) : Dev :=
  let d := d.wr (aPl n + rPlState) (BitVec.ofNat 32 (setField (setField (d.rd (aPl n + rPlState)).toNat 5 3 0) 2 0 5))
  let d := (d.modPile n fun p => { p with neighbours := [], writebacks := [], nmo := none })
  d.abortAll (openIds (d.tasks.filter fun t => bit t.resMask n)) status

/-- Gate or ungate some of the clock domains of R508. -/
def Dev.setDomains (d : Dev) (ds : List Nat) (on : Bool) : Dev :=
  d.wr64 (aCk + rCkDomainOn) (ds.foldl (fun v i => setField v i i on.toNat) (d.rd64 (aCk + rCkDomainOn)))

/-- Fence a region (R468) on account of the event with source `cause`; `esc` says that the event passes up from the region. -/
def Dev.fenceRegion (d : Dev) (r cause : Nat) (esc : Bool) : Dev :=
  if d.regionFenced r then d
  else
    let ids := openIds (d.tasks.filter fun t => d.usesRegion t r || bit t.resMask r)
    let d := d.abortAll ids 0x8007
    let d := d.setBit (aRn r + rRnState) 4
    let d := ((upto 36).foldl (fun d l => d.vacate r l) d).countMap r
    let d := (upto 256).foldl (fun d k => d.closeWindow r k) d
    let d := (upto 72).foldl (fun d g => ((d.eraseGroup r g).setBgOff r g true).setBgBusy r g false) d
    let d := (upto 40).foldl (fun d k => (d.endCoreWindow r k).modCore r k fun co => { Core.initial with windows := co.windows }) d
    let d := (upto 8).foldl (fun d c => d.modChan (8 * r + c) fun ch => { generation := ch.generation }) d
    let d := (((d.clrBit (aTp r + rTpState) 8).clrBit (aTp r + rTpState) 7).setHandling (aErRn r) false).modRegion r fun g =>
      { g with shorts := [], queues := [], crossbar := [], winOwner := [], substs := [], snuffedAt := [], recovering := false, writebacks := [], taperPhase := 0,
               taperDue := false, gated := true }
    let d := ((d.setDomains [3 * r, 3 * r + 1, 3 * r + 2, 24 + r] false).fenceWhole r).pileFails r 0x8007
    let d := d.enterFrom esc aErDv 256 0x8007 0x42 r cause (smallest ids)
    d.abortAll (openIds (d.tasks.filter fun t => t.inRegion r)) 0x1010

/-- A second error inside a region's handling window, or its third recovery in 24 h: the region is fenced (R466, R470). -/
def Dev.regionGivesUp (d : Dev) (r source unit : Nat) : Dev :=
  let ids := openIds (d.tasks.filter fun t => d.usesRegion t r || bit t.resMask r)
  (d.enterEscalated (aErRn r) 128 0x8007 source unit 0 (smallest ids)).fenceRegion r source true

/-- REGION_UNIT_FAULT (R466, R470): a region recovery begins. -/
def Dev.unitFault (d : Dev) (r unit : Nat) : Dev :=
  if d.sameCycle (aErRn r) 0x23 unit 0 then d.enterError (aErRn r) 128 0x8006 0x23 unit 0 0 0
  else if d.regionFenced r then d
  else if d.handling (aErRn r) then d.regionGivesUp r 0x23 unit
  else
    let now := d.dt :: d.withinDay (d.region r).recoveries
    let d := d.modRegion r fun g => { g with recoveries := now }
    if 3 ≤ now.length then d.regionGivesUp r 0x23 unit
    else
      let ids := openIds (d.tasks.filter fun t => d.usesRegion t r)
      let d := ((d.enterError (aErRn r) 128 0x8006 0x23 unit 0 (smallest ids) 0).setHandling (aErRn r) true).abortAll ids 0x8006
      let d := d.revalidate (fun t => t.inRegion r) (d.dt.toNat + 40000000)
      let d := (upto 40).foldl (fun d k => d.modCore r k fun co => { Core.initial with windows := co.windows, fixedPipe := true }) d
      let d := (upto 8).foldl (fun d c => d.modChan (8 * r + c) fun ch => { generation := ch.generation }) d
      d.modRegion r fun g => { g with shorts := [], queues := [], crossbar := [], recovering := true, fixedPipe := true }

/-- REGION_UNIT_FAULT. -/
def execRegionUnitFault (region : Fin 8) (unit : W32) (s : State) : Out := event (fun d => d.unitFault region unit.toNat) s

/-- A slice is fenced (R243, R467); with the fourth the region is. -/
def Dev.fenceQuadrant (d : Dev) (r q : Nat) (ids : List W32) : Dev :=
  let d := ((d.abortAll ids 0x5004).setBit (aRs r + rRnStSlice) q).fenceSlice r q
  if d.fld (aRs r + rRnStSlice) 3 0 = 15 then d.fenceRegion r 0x22 false else d

/-- SLICE_FAULT (R467, R470). -/
def Dev.sliceFault (d : Dev) (r q : Nat) : Dev :=
  if d.sameCycle (aErRn r) 0x22 q 0 then d.enterError (aErRn r) 128 0x800B 0x22 q 0 0 0
  else if d.regionFenced r || d.flag (aRs r + rRnStSlice) q then d
  else if d.handling (aErRn r) then d.regionGivesUp r 0x22 q
  else
    let ids := openIds (d.tasks.filter fun t => t.inRegion r && !d.rowOnlyOf t)
    ((d.enterError (aErRn r) 128 0x800B 0x22 q 0 (smallest ids) 0).setHandling (aErRn r) true).fenceQuadrant r q ids

/-- SLICE_FAULT. -/
def execSliceFault (region : Fin 8) (slice : Fin 4) (s : State) : Out := event (fun d => d.sliceFault region slice) s

/-- SLICE_FENCE_DONE (R464): the window that a slice fault opened closes. -/
def execSliceFenceDone (region : Fin 8) (s : State) : Out :=
  event (fun d => if (d.region region).recovering then d else d.setHandling (aErRn region) false) s

/-! ### Safe Hold (R470, R475) -/

/-- The entry of a record with the given status, source, unit and detail: its 32 bytes; those of a new entry when the record is full. -/
def Dev.entryFor (d : Dev) (base n status source unit detail task : Nat) : List Byte :=
  match (upto n).find? fun i => d.erValid base i && d.fld (erEntry base i 0) 23 0 == status + source * 2 ^ 16 &&
      (d.rd (erEntry base i 1)).toNat == unit % 2 ^ 32 && d.rd64 (erEntry base i 2) == detail % 2 ^ 64 with
  | some i => (upto 8).flatMap fun w => leBytes (d.rd (erEntry base i w)).toNat 4
  | none => entryBytes status source 1 unit detail d.dt.toNat task 1

/-- What Safe Hold keeps powered (R501): the hub, the region stores and the piles. From Pilot and from the first steps of a cold start they are
powered up, with the die links that carry their accesses and the main PLL that clocks them; cores and stream channels stay as they were. -/
def Dev.holdPower (d : Dev) : Dev :=
  let ds := [32, 33, 34, 35, 36, 37, 38] ++ ((upto 8).filter fun r => !d.regionFenced r).flatMap fun r => [3 * r + 1, 24 + r]
  let d := (d.setDomains ds true).setBit (aCk + rCkState) 0
  d.wr64 (aCk + rCkDomainRst) (ds.foldl (fun v i => setField v i i 0) (d.rd64 (aCk + rCkDomainRst)))

/-- Enter Safe Hold on a device event (R475); in Safe Hold the event is only recorded (R472). -/
def Dev.safeHoldOn (d : Dev) (source unit detail : Nat) : Dev :=
  let ids := openIds d.tasks
  let d := d.enterError aErDv 256 0x8009 source unit detail (smallest ids) 0
  if d.safeHold || d.fld (aPw + rPwState) 2 0 = 0 then d
  else
    let d := (d.abortAll ids 0x8009).holdPower.wr (aPw + rPwState) 6
    let d := { d with power := { d.power with cold := none, wake := none } }
    d.saveHold (d.entryFor aErDv 256 0x8009 source unit detail (smallest ids)) aErDv

/-- HUB_FAULT. -/
def execHubFault (unit : W32) (s : State) : Out := event (fun d => d.safeHoldOn 0x43 unit.toNat 0) s

/-- PLL_UNLOCK (R507). -/
def execPllUnlock (s : State) : Out :=
  event (fun d => ((d.setBit (aCk + rCkSticky) 0).safeHoldOn 0x44 0 0).clrBit (aCk + rCkState) 0) s

/-- POWER_STAGE_FAULT. -/
def execPowerStageFault (value : W64) (s : State) : Out := event (fun d => d.safeHoldOn 0x44 0 value.toNat) s

/-! ### Die links (R40, R469) -/

/-- LINK_REPLAY (R40). -/
def execLinkReplay (link : Fin 3) (s : State) : Out := event (fun d => d.enterError aErDv 256 0x800A 0x40 link 0 0 0) s

/-- The dies, 0 and 1, of a task's cores and stream resources. -/
def Task.onDie (t : Task) (x : Nat) : Bool := t.cores.any fun g => g / 144 == x
/-- Whether a task's variant names a stream resource of a region of a die. -/
def Task.resOnDie (t : Task) (x : Nat) : Bool := (upto 24).any fun i => i % 8 / 4 == x && bit t.resMask i

/-- Whether a die link serves a task (R469). -/
def Task.onLink (t : Task) (link : Nat) : Bool :=
  match link with
  | 0 => (t.onDie 0 && t.onDie 1) || (t.resOnDie 0 && t.resOnDie 1)
  | 1 => t.onDie 0
  | _ => t.onDie 1

/-- LINK_DOUBLE_FAIL (R469, R470). -/
def Dev.linkFails (d : Dev) (link : Nat) : Dev :=
  if d.sameCycle aErDv 0x41 link 0 then d.enterError aErDv 256 0x8008 0x41 link 0 0 0
  else if d.handling aErDv then d.safeHoldOn 0x45 link 0x41
  else
    let now := d.dt :: d.withinDay d.links.begun
    let d := { d with links := { d.links with begun := now } }
    if 3 ≤ now.length then d.safeHoldOn 0x41 link 0
    else
      let ids := openIds (d.tasks.filter fun t => t.onLink link)
      let d := ((d.enterError aErDv 256 0x8008 0x41 link 0 (smallest ids) 0).setHandling aErDv true).abortAll ids 0x8008
      { d with links := { d.links with recovering := some link } }

/-- LINK_DOUBLE_FAIL. -/
def execLinkDoubleFail (link : Fin 3) (s : State) : Out := event (fun d => d.linkFails link) s

/-- LINK_RETRAIN_DONE (R469): a retraining that does not pass leaves the link in recovery. -/
def execLinkRetrainDone (passed : Bool) (s : State) : Out :=
  event (fun d => if passed && d.links.recovering.isSome
    then ({ d with links := { d.links with recovering := none } }).setHandling aErDv false else d) s

end Sys2Proof.Machine
end

