-- ==== Sys2Proof/Machine/Taper.lean ====
section
/-! DEFINITION. Ageing: taper runs and frequency notches (R394, R477 to R482), and the end of a region recovery, which may start a run. -/

namespace Sys2Proof.Machine

/-- The taper state word of a region. -/
abbrev tpState (r : Nat) : Nat := aTp r + rTpState

/-- Start a taper run (R477): it waits for a region recovery to end, and a running one stands. -/
def Dev.taperStart (d : Dev) (r : Nat) : Dev :=
  if d.regionFenced r || d.flag (tpState r) 7 then d
  else if (d.region r).recovering then d.modRegion r fun g => { g with taperDue := true }
  else (d.setBit (tpState r) 7).modRegion r fun g => { g with taperPhase := 1, taperChanged := false, taperDue := false }

/-- TAPER_RUN (R477): period_h hours after the previous run. -/
def execTaperRun (region : Fin 8) (s : State) : Out :=
  event (fun d => if d.rd64 (aTp region + rTpLastAt) + 3600000000000 * d.fld (aTp region + rTpCfg) 23 16 ≤ d.dt.toNat then d.taperStart region else d) s

/-- TP_CMD_RUN (R477). -/
def execTpCmdRun (who : Requester) (region : Fin 8) (s : State) : Out :=
  event (fun d => d.asked who (aTp region + rTpCmd) fun d => d.unlocked (aTp region) fun d => d.taperStart region) s

/-- End a taper run (R481): a run that changed volt_steps or f writes its taper state. -/
def Dev.taperEnd (d : Dev) (r : Nat) : Dev :=
  let d := ((d.clrBit (tpState r) 7).inc64 (aTp r + rTpRuns) 1).wr64 (aTp r + rTpLastAt) d.dt.toNat
  let d := if (d.region r).taperChanged then d.saveTaper r else d
  d.modRegion r fun g => { g with taperPhase := 0, taperChanged := false }

/-- Show what the four gauges measured (R482). -/
def Dev.showGauges (d : Dev) (r : Nat) (gs : List Gauge) : Dev :=
  gs.zipIdx.foldl (fun d g => d.wr (aTp r + rTpGauge + 4 * g.2) (BitVec.ofNat 32 (g.1.slack.toNat + g.1.mhz.toNat * 2 ^ 16))) d

/-- The step of taper_run that follows a measurement of slack `s`, the smallest, by gauge `g` (R477, R480). -/
def Dev.taperStep (d : Dev) (r : Nat) (s : Int) (g : Nat) : Dev :=
  let target : Int := d.fld (aTp r + rTpCfg) 7 0
  let floor : Int := d.fld (aTp r + rTpCfg) 15 8
  let volt := d.fld (tpState r) 3 0
  let window := d.handling (aErRn r)
  let enter (d : Dev) (source : Nat) (up : Bool) : Dev :=
    if up then d.enterEscalated (aErRn r) 128 0x800C source g (unsigned 64 s) 0 else d.enterError (aErRn r) 128 0x800C source g (unsigned 64 s) 0 0
  if s < target && decide (volt < 12) then
    (d.setFld (tpState r) 3 0 (volt + 1)).modRegion r fun x => { x with taperChanged := true, taperPhase := 1 }
  else if target ≤ s then d.taperEnd r
  else if s < floor && d.fMhz r == 1000 then (enter (d.taperEnd r) 0x25 window).fenceRegion r 0x25 window
  else if d.fMhz r = 1000 then enter ((d.setBit (tpState r) 9).taperEnd r) 0x26 false
  else (d.setBit (tpState r) 8).modRegion r fun x => { x with taperPhase := 2 }

/-- TAPER_MEASURE_DONE (R477). -/
def Dev.taperMeasured (d : Dev) (r : Nat) (gs : List Gauge) : Dev :=
  if d.flag (tpState r) 7 && (d.region r).taperPhase != 2 then
    let best := gs.zipIdx.foldl (fun (m : Int × Nat) g => if g.1.slack.toInt < m.1 then (g.1.slack.toInt, g.2) else m) (511, 0)
    ((d.showGauges r gs).modRegion r fun x => { x with slack := best.1 }).taperStep r best.1 best.2
  else d

/-- TAPER_MEASURE_DONE. -/
def execTaperMeasureDone (region : Fin 8) (g0 g1 g2 g3 : Gauge) (s : State) : Out := event (fun d => d.taperMeasured region [g0, g1, g2, g3]) s

/-- Whether every accepted task with a core in a region meets its deadline under the pending notch (R394). -/
def Dev.notchMeets (d : Dev) (r : Nat) : Bool :=
  d.tasks.all fun (t : Task) => !t.inRegion r || decide (t.start.toNat + d.boundOf t t.adm.cyc ≤ t.deadline.toNat)

/-- A task's planned end under the clocks that price it now (R394). -/
def Dev.replan (d : Dev) (t : Task) : Task :=
  let b := d.boundOf t t.adm.cyc
  { t with bound := b, stop := t.start + BitVec.ofNat 64 b }

/-- NOTCH_EFFECT (R394, R478): a pending notch takes effect, and the planned ends are updated; otherwise it stays deferred. -/
def Dev.notchTakes (d : Dev) (r : Nat) : Dev :=
  if d.flag (tpState r) 8 && d.notchMeets r then
    let d := ((d.setFld (tpState r) 21 11 (d.fMhz r - 100)).setFld (tpState r) 6 4 (d.fld (tpState r) 6 4 + 1)).clrBit (tpState r) 8
    let d := { d with tasks := d.tasks.map fun (t : Task) => if t.inRegion r then d.replan t else t }
    (d.modRegion r fun x => { x with taperPhase := 3, taperChanged := true }).saveTaper r
  else d

/-- NOTCH_EFFECT. -/
def execNotchEffect (region : Fin 8) (s : State) : Out := event (fun d => d.notchTakes region) s

/-! ### The end of a region recovery (R466) -/

/-- REGION_RECOVERY_DONE: the cores that fail the test are snuffed; when the rest passes, the region returns to service, and otherwise it is
fenced. -/
def Dev.recovered (d : Dev) (r : Nat) (bad : List (Fin 40)) (passed : Bool) : Dev :=
  if (d.region r).recovering then
    let d := bad.foldl (fun d k => if d.watched r k then d.failsTest r k else d) d
    if passed then
      let d := (d.setHandling (aErRn r) false).modRegion r fun g => { g with recovering := false, fixedPipe := false }
      let d := (upto 40).foldl (fun d k => d.modCore r k fun co => { co with fixedPipe := (d.region r).substs.any fun s => s.spare == k }) d
      if (d.region r).taperDue then d.taperStart r else d
    else d.fenceRegion r 0x23 false
  else d

/-- REGION_RECOVERY_DONE. -/
def execRegionRecoveryDone (region : Fin 8) (badCores : List (Fin 40)) (passed : Bool) (s : State) : Out :=
  event (fun d => d.recovered region badCores passed) s

end Sys2Proof.Machine
end

