-- ==== Sys2Proof/Machine/Tether.lean ====
section
/-! DEFINITION. The Tether (R430 to R453): its messages, its beats, its states, replication on the twin, and the decisions of a loss. -/

namespace Sys2Proof.Machine

/-! ### Helpers -/

/-- Claim the pair address (R450): an ARP announcement and an unsolicited neighbour advertisement with pair_mac on both ports. -/
def Dev.announcePair (d : Dev) : Dev :=
  [0, 1].foldl (fun d p => (d.transmit p 0 (.arpReply d.pairIp d.pairMac 0xFFFFFFFFFFFF) (some d.pairIp)).transmit p 0
    (.neighbourAdvert d.pairIp d.pairMac 0x333300000001) (some d.pairIp)) d

/-- Replication ends (R432, R450): acks that waited for the twin advance, and tasks that waited for its digest end on their own. -/
def Dev.endReplication (d : Dev) : Dev :=
  let acks := d.net.fwdAcks
  let d := { d with net := { d.net with fwdAcks := [] } }
  let d := acks.foldl (fun d e => d.setAck e.2.1 e.2.2) d
  let waiting := d.tasks.filter fun t => t.mirrored && t.written.isSome
  let d := { d with tasks := d.tasks.map fun (t : Task) => { t with mirrored := false } }
  waiting.foldl (fun d t => d.sendDone { t with mirrored := false }) d

/-- Act on a Tether message that arrived on the Tether session; another session carries none (R436). -/
def onTether (f : InMsg → Dev → Dev) (m : InMsg) (d : Dev) : Dev :=
  if m.msg.session = tether then f m d
  else if mbtSequenced m.msg.type then d.reject m.msg.session m.msg.seq 0x6002
  else d

/-- Act on the Tether message at the head of the queues; the ack of the Tether session follows (R437). -/
def Dev.onTetherMsg (d : Dev) (type : Nat) (f : InMsg → Dev → Dev) : Dev :=
  d.onMessage (fun m => m.type == type) (onTether fun m d => (f m d).settleTetherAck)

/-- Whether the module is the secondary to which a primary replicates. -/
def Dev.isReplica (d : Dev) : Bool := d.isSecondary

/-! ### Entering and leaving a pair (R431, R432, R441) -/

/-- Enter SEEKING, or UNPAIRED when the stored mode is 0. -/
def Dev.enterUnjoined (d : Dev) : Dev :=
  let d := (((d.setTether (if d.pairMode = 0 then 0 else 1) false).setFld (aTt + rTtState) 5 4 d.pairMode).wr64 (aTt + rTtPeerSerial) 0).modTwin fun t =>
    { poweredAt := t.poweredAt, badRecords := t.badRecords }
  if d.pairMode ≠ 0 && (d.session tether).state = 2 then d.sendJoin else d

/-- Steps 2 and 3 of R432: replication and the pair address end; a secondary drops the tasks that it held for the primary. -/
def Dev.leavePair (d : Dev) : Dev :=
  let d := d.endReplication
  ((d.tasks.filter fun t => t.twin).foldl (fun d t => d.stopTask t 0) d).enterUnjoined

/-- The effect of a commit once the store holds the new record (R432). -/
def Dev.pairApplied (d : Dev) (oldBinding : Nat) : Dev :=
  let d := if d.twin.joined.isSome then d.sendRaw tether { type := 0x45, session := 0, body := leBytes oldBinding 8 } else d
  d.leavePair

/-- A message of the Tether session whose length or reserved fields its type does not allow (R429), or what it does. -/
def Dev.onBody (d : Dev) (m : InMsg) (ok : Bool) (f : Dev → Dev) : Dev := if ok then f d else d.reject tether m.msg.seq 0x6002

/-- DETACH (R441): with the stored binding_id. -/
def Dev.detached (m : InMsg) (d : Dev) : Dev :=
  d.onBody m (m.msg.body.length == 8) fun d =>
  if d.ttState ≠ 0 && leNat (bytesAt m.msg.body) 0 8 = d.pairBinding then d.leavePair else d

/-- DETACH. -/
def execDetachMsg (s : State) : Out := event (fun d => d.onTetherMsg 0x45 Dev.detached) s

/-! ### JOIN (R434, R441, R453) -/

/-- Whether a JOIN is valid (R441). -/
def Dev.joinValid (d : Dev) (rd : Nat → Byte) : Bool :=
  leNat rd 0 8 == d.pairBinding && leNat rd 16 1 == d.pairMode && leNat rd 8 8 == d.serialNo && d.pairPeerSerial == leNat rd 96 8

/-- JOIN: an invalid one is refused, and counted as PAIR_RECORD, for which the spec names no register (R441, R456). -/
def Dev.joinReceived (m : InMsg) (d : Dev) : Dev :=
  let rd := bytesAt m.msg.body
  if d.ttState = 0 then d
  else if m.msg.body.length ≠ 112 || !d.joinValid rd then
    (((d.sendUnseq tether 3).closeSession tether).setBit (aTt + rTtSticky) 2).modTwin fun t => { t with badRecords := t.badRecords + 1 }
  else if d.ttState = 1 || d.ttState = 4 then
    let p : PeerJoin := ⟨BitVec.ofNat 64 (leNat rd 96 8), BitVec.ofNat 32 (leNat rd 108 4), leNat rd 104 1, bit (leNat rd 105 1) 0, leNat rd 17 1⟩
    (d.modTwin fun t => { t with joined := some p }).tryJoin
  else d

/-- JOIN. -/
def execJoinMsg (s : State) : Out := event (fun d => d.onTetherMsg 0x40 Dev.joinReceived) s

/-- STATE (R442). -/
def Dev.stateReceived (m : InMsg) (d : Dev) : Dev :=
  d.onBody m (m.msg.body.length == 200 && leNat (bytesAt m.msg.body) 4 4 == 0) fun d =>
  if d.twin.joined.isSome then d.modTwin fun t => { t with stateGot := some (m.msg.body.drop 8) } else d

/-- STATE. -/
def execStateMsg (s : State) : Out := event (fun d => d.onTetherMsg 0x44 Dev.stateReceived) s

/-- The Tether paths with a link up, main path first: port, address and the path flag. -/
def Dev.tetherPaths (d : Dev) : List (Nat × Ip × Bool) :=
  ((d.pairPort, d.peerIp, false) :: if d.pairAlt then [(1 - d.pairPort, d.peerIpAlt, true)] else []).filter fun p => d.portUp p.1

/-- SEEK_RETRY (R441, R443): from the first link-up and then every 10 ms, session 4,095 is opened to the peer of the path. -/
def Dev.seekRetry (d : Dev) : Dev :=
  let due := match d.twin.seekAt with | none => true | some t => decide (t.toNat + 10000000 ≤ d.dt.toNat)
  if d.ttState = 1 && due then
    match d.tetherPaths with
    | [] => d
    | p :: _ => (d.modTwin fun t => { t with seekAt := some d.dt }).startOpen tether p.1 p.2.1 d.mbtUdp 0xFFF false
  else d

/-- SEEK_RETRY. -/
def execSeekRetry (s : State) : Out := event Dev.seekRetry s

/-- Enter SOLO with the epoch advanced (R441, R450). -/
def Dev.enterSolo (d : Dev) (primary : Bool) : Dev := (d.setEpoch (d.epoch + 1)).setTether 4 primary

/-- SOLO_TIMEOUT (R441). -/
def Dev.soloTimeout (d : Dev) : Dev :=
  if d.ttState = 1 && d.lit && d.pairServes && decide (16000000000 ≤ (d.dt - d.twin.poweredAt).toNat) then (d.enterSolo true).announcePair else d

/-- SOLO_TIMEOUT. -/
def execSoloTimeout (s : State) : Out := event Dev.soloTimeout s

/-! ### READY (R441, R443) -/

/-- Whether STATE has been exchanged. -/
def Dev.statesMet (d : Dev) : Bool := !d.twin.stateSent.isEmpty && d.twin.stateGot.isSome
/-- The conditions of READY but for freshness: both modules Lit, 125 beats within 200 ns, and STATE exchanged; in Split mode STATE alone. -/
def Dev.pairAgrees (d : Dev) : Bool :=
  d.statesMet && (d.pairMode == 3 ||
    (d.lit && d.twin.peerLit && decide (125 ≤ d.twin.good) && decide ((d.rd (aTt + rTtOffset)).toInt.natAbs ≤ 200)))
/-- Whether both modules are fresh. -/
def Dev.pairFresh (d : Dev) : Bool := d.flag (aTt + rTtState) 6 && d.twin.joined.any fun p => p.fresh

/-- Enter READY: replication starts and STATE is sent (R441, R442). -/
def Dev.enterReady (d : Dev) : Dev := (d.setTether 3 d.ttPrimary).sendState

/-- PAIR_READY (R441): a secondary that is not fresh follows the primary, whose beats then show READY. -/
def Dev.pairReady (d : Dev) : Dev :=
  if d.ttState = 2 && d.pairAgrees && (d.pairMode == 3 || d.pairFresh || (!d.ttPrimary && d.twin.peerState == 3)) then d.enterReady else d

/-- PAIR_READY. -/
def execPairReady (s : State) : Out := event Dev.pairReady s

/-- TT_CMD resume (R441): on the primary in JOINED. -/
def Dev.ttResume (d : Dev) : Dev := if d.ttState = 2 && d.ttPrimary && d.pairAgrees then d.enterReady else d
/-- TT_CMD rejoin (R441): in FENCED. -/
def Dev.ttRejoin (d : Dev) : Dev :=
  if d.ttState = 5 then
    let d := if (d.session tether).state = 2 then d.sendUnseq tether 3 else d
    (d.closeSession tether).enterUnjoined
  else d
/-- A write of TT_CMD. -/
def Dev.ttCmd (d : Dev) (v : Nat) : Dev := match v % 4 with | 1 => d.ttResume | 2 => d.ttRejoin | _ => d

/-- TT_CMD_RESUME. -/
def execTtCmdResume (who : Requester) (s : State) : Out := event (fun d => d.asked who (aTt + rTtCmd) fun d => d.ttCmd 1) s
/-- TT_CMD_REJOIN. -/
def execTtCmdRejoin (who : Requester) (s : State) : Out := event (fun d => d.asked who (aTt + rTtCmd) fun d => d.ttCmd 2) s

/-! ### Tasks on the twin (R445, R448) -/

/-- The lowest handle of a registered image with a program identity. -/
def Dev.handleOf (d : Dev) (program : W64) : Option (Nat × Image) :=
  (upto 1025).findSome? fun h => match d.image? h with
    | none => none
    | some m => if m.program = program then some (h, m) else none

/-- A TASK from its message. -/
def twinRecOf (body : List Byte) : TwinRec :=
  let rd := bytesAt body
  { id := BitVec.ofNat 32 (leNat rd 0 4), variant := leNat rd 4 2, session := leNat rd 6 2, seq := BitVec.ofNat 32 (leNat rd 8 4),
    program := BitVec.ofNat 64 (leNat rd 16 8), start := BitVec.ofNat 64 (leNat rd 24 8), bound := leNat rd 32 8,
    deadline := BitVec.ofNat 64 (leNat rd 40 8), body := body.drop 48 }

/-- A SUBMIT body that names the twin's own image. -/
def ownBody (h : Nat) (body : List Byte) : List Byte := leBytes h 2 ++ body.drop 2

/-- Bind a replicated task to the same variant, start and deadline, without evaluating it again (R445). -/
def Dev.adoptTask (d : Dev) (x : TwinRec) : Dev :=
  let diverged (d : Dev) : Dev := d.sendRaw tether { type := 0x43, session := 0, body := digestBody x.id 0x7003 0 0 }
  match d.handleOf x.program with
  | none => diverged d
  | some (h, m) =>
    let r : TRec := m.record
    if r.variants ≤ x.variant || (r.varCores x.variant).any fun g => (d.physOf g).isNone then diverged d
    else
      let body := ownBody h x.body
      let rd := bytesAt body
      let ss := submitSlots rd (leNat rd 4 2)
      let c := d.priced h m x.variant x.start.toNat x.deadline.toNat (r.restoreCyc x.variant (bit (leNat rd 2 2) 0)) (d.slotVals r x.variant ss)
      let c := { c with bound := x.bound, adm := { c.adm with extra := d.fld (aTt + rTtCfg) 15 0 } }
      let t := { d.taskOf x.id x.session x.seq m body c with twin := true, mirrored := false }
      (d.addTask t c).notFresh

/-- TASK (R445, R448): a Mirror secondary binds the task, a Standby secondary keeps its record. -/
def Dev.taskReceived (m : InMsg) (d : Dev) : Dev :=
  d.onBody m (decide (112 ≤ m.msg.body.length) && leNat (bytesAt m.msg.body) 12 4 == 0) fun d =>
  if d.isReplica then
    let x := twinRecOf m.msg.body
    let d := d.noteLast x.id
    let d := { d with lamp := { d.lamp with next := if d.lamp.next ≤ x.id then nextTask x.id else d.lamp.next } }
    let d := d.modTwin fun t => { t with pairs := if t.pairs.contains x.session then t.pairs else t.pairs ++ [x.session] }
    if d.pairMode = 1 then d.adoptTask x
    else d.modTwin fun t => { t with records := t.records ++ [x] }
  else d

/-- TASK. -/
def execTaskMsg (s : State) : Out := event (fun d => d.onTetherMsg 0x42 Dev.taskReceived) s

/-- DIGEST (R447): kept with the task; the primary then settles it, and the secondary ends its copy of a task whose digests differ. -/
def Dev.digestReceived (m : InMsg) (d : Dev) : Dev :=
  let rd := bytesAt m.msg.body
  d.onBody m (m.msg.body.length == 24 && leNat rd 6 2 == 0) fun d =>
    let id := BitVec.ofNat 32 (leNat rd 0 4)
    let d := d.modTask id fun t => { t with twinDigest := some (BitVec.ofNat 16 (leNat rd 4 2), BitVec.ofNat 64 (leNat rd 8 8)) }
    if d.ttPrimary then d.settleDigest id else d.settleCopy id

/-- DIGEST. -/
def execDigestMsg (s : State) : Out := event (fun d => d.onTetherMsg 0x43 Dev.digestReceived) s

/-! ### FWD (R437, R446, R448) -/

/-- A replicated DWRITE as a Tether write (R437). The data starts in word 6 of the FWD's body. -/
def Dev.fwdWrite (d : Dev) (m : InMsg) (s : Nat) (h : Mbt) : Dev :=
  if m.poison.any fun p => decide (p < 6) then d.reject tether m.msg.seq 0x6001
  else d.startWrite
    { session := s, seq := h.seq, addr := leNat (bytesAt h.body) 0 8, data := h.body.drop 8, poison := m.poison.map fun p => p - 6,
      twin := true, fwd := some m.msg.seq }

/-- The primary's DONE or ABORT of a replicated task, as the twin learns of it: its record is discarded, and its copy ends (R446, R448). -/
def Dev.fwdEnded (d : Dev) (h : Mbt) : Dev :=
  let id := BitVec.ofNat 32 (leNat (bytesAt h.body) 0 4)
  let d := d.modTwin fun t => { t with records := t.records.filter (fun x => x.id != id), unsent := t.unsent.filter fun x => x.id != id }
  match d.task? id with
  | none => d
  | some t =>
    if !t.twin then d
    else if h.type = 0x13 then d.endTask { t with closed := true } (BitVec.ofNat 16 (leNat (bytesAt h.body) 4 2)) none
    else (d.modTask id fun t => { t with closed := true }).sendDone { t with closed := true }

/-- A twin's refusal of a replicated write (R437): the host is answered with it. -/
def Dev.fwdRefusal (d : Dev) (s : Nat) (h : Mbt) : Dev :=
  { d with net := { d.net with writes := d.net.writes.map fun w =>
      if w.session = s && w.seq = h.ref && !w.twin then { w with status := BitVec.ofNat 16 (leNat (bytesAt h.body) 0 2) } else w } }

/-- FWD. -/
def Dev.fwdReceived (m : InMsg) (d : Dev) : Dev :=
  let rd := bytesAt m.msg.body
  let s := leNat rd 0 2
  let kind := leNat rd 2 2
  match mbtParse (m.msg.body.drop 8) with
  | none => d.reject tether m.msg.seq 0x6002
  | some h =>
    if d.isReplica then
      let d := d.modTwin fun t => { t with pairs := if t.pairs.contains s then t.pairs else t.pairs ++ [s] }
      if kind = 0 && h.type = 0x23 && !h.response then d.fwdWrite m s h
      else if kind = 2 && (h.type = 0x12 || h.type = 0x13) then d.fwdEnded h
      else d
    else if d.replicates && kind = 2 && h.type = 0x23 then d.fwdRefusal s h
    else d

/-- FWD. -/
def execFwdMsg (s : State) : Out := event (fun d => d.onTetherMsg 0x41 Dev.fwdReceived) s

/-! ### Decisions (R450 to R452) -/

/-- The session on which a new primary opens a replicated pair session anew. -/
def Dev.reopenAs (d : Dev) (s : Nat) : Option Nat := if (d.session s).state = 0 then some s else d.freeSession

/-- Open a replicated pair session anew, and let its tasks and records answer on it. -/
def Dev.reopen (d : Dev) (s : Nat) : Dev :=
  match d.reopenAs s with
  | none => d
  | some n =>
    let d := d.startOpen n (Config.pairHostPort s) (Config.pairHost s) (Config.pairHostUdp s) 0xFFFF true
    let d := d.modSession n fun x => { x with takeover := true }
    let d := { d with tasks := d.tasks.map fun (t : Task) => if t.twin && t.session == s then { t with session := n } else t }
    d.modTwin fun t =>
      { t with records := t.records.map (fun (x : TwinRec) => if x.session = s then { x with session := n } else x)
               unsent := t.unsent.map fun (x : TwinAbort) => if x.session = s then { x with session := n } else x }

/-- A replicated task evaluated as a SUBMIT that arrives now, under its own identifier (R451). -/
def Dev.reviveRecord (d : Dev) (x : TwinRec) : Dev :=
  let h := match d.handleOf x.program with | none => 0 | some p => p.1
  let body := ownBody h x.body
  let m : InMsg := { port := 0, arrived := d.dt, msg := { type := 0x10, session := x.session, seq := x.seq, deadline := x.deadline, body := body } }
  let next := d.lamp.next
  match d.judge m with
  | (d, .refused _ _) => (d.countAbort 0x7002).sendSeq x.session 0x13 (abortBody x.id 0x7002 0xFFFF d.dt 0xFFFF 0xFFFFFFFF) x.seq
  | (d, .fits im c rs) =>
    let d := { d with lamp := { d.lamp with next := x.id } }
    let d := d.acceptSubmit x.session x.seq im body c rs
    { d with lamp := { d.lamp with next := next } }

/-- Insert a record into a list in task_id order. -/
def insertRec (x : TwinRec) : List TwinRec → List TwinRec
  | [] => [x]
  | y :: l => if x.id.toNat ≤ y.id.toNat then x :: y :: l else y :: insertRec x l
/-- The records in task_id order. -/
def sortRecs (l : List TwinRec) : List TwinRec := l.foldr insertRec []

/-- A secondary becomes primary (R450, R451). -/
def Dev.takeover (d : Dev) : Dev :=
  let d := d.announcePair.inc64 (aTt + rTtTakeovers) 1
  let d := d.twin.pairs.foldl Dev.reopen d
  let mine := d.tasks.filter fun t => t.twin && t.written.isSome
  let d := { d with tasks := d.tasks.map fun (t : Task) => { t with twin := false } }
  let d := mine.foldl (fun d t => d.sendDone { t with twin := false }) d
  let d := d.twin.unsent.foldl (fun (d : Dev) (x : TwinAbort) => d.sendSeq x.session 0x13 x.body x.seq) d
  let d := (sortRecs d.twin.records).foldl Dev.reviveRecord d
  d.modTwin fun t => { t with records := [], unsent := [], pairs := [] }

/-- A module finds its twin lost (R439); a READY one decides (R449, R450), and another changes no state (R441). -/
def Dev.twinLost (d : Dev) : Dev :=
  let d := d.setBit (aTt + rTtSticky) 0
  if d.ttState = 3 then
    let second := d.isSecondary
    let d := ((d.enterSolo (d.ttPrimary || second)).raiseAlert 0x7002 0 0).endReplication
    if second then d.takeover else d
  else d

/-! ### Beats (R438 to R440) -/

/-- The body of a BEAT. -/
def Dev.beatBody (d : Dev) (other : Bool) : List Byte :=
  leBytes d.serialNo 8 ++ leBytes d.dt.toNat 8 ++ leBytes d.twin.beats.toNat 4 ++ leBytes ((d.lamp.next - 1).toNat) 4 ++ leBytes d.ttState 1 ++
  leBytes (d.ttPrimary.toNat + 2 * d.safeHold.toNat + 4 * d.lit.toNat + 8 * other.toNat) 1 ++ leBytes 0 2 ++ leBytes d.epoch 4

/-- Send a BEAT on every path. -/
def Dev.sendBeat (d : Dev) : Dev :=
  (d.tetherPaths.foldl (fun d p =>
    d.transmit p.1 p.2.1 (.mbt d.mbtUdp.toNat { type := 0x48, session := tether, ack := (d.session tether).ackNo, body := d.beatBody p.2.2 })) d).modTwin
    fun t => { t with beats := t.beats + 1 }

/-- Whether the hub runs: neither Off nor in Pilot state, on its way there or back (R501 to R503). -/
def Dev.hubRuns (d : Dev) : Bool := [1, 2, 6].contains (d.fld (aPw + rPwState) 2 0)

/-- Whether the module exchanges beats (R438, R439, R502): in JOINED, READY, or SOLO with a joined twin, and not on its way to Pilot or in it. -/
def Dev.beats (d : Dev) : Bool :=
  (d.ttState == 2 || d.ttState == 3 || (d.ttState == 4 && d.twin.joined.isSome)) && d.hubRuns

/-- BEAT_SEND: at DT multiples of 8,000 ns. -/
def execBeatSend (s : State) : Out := event (fun d => if d.beats && d.dt.toNat % 8000 == 0 then d.sendBeat else d) s

/-- A missed beat (R439): with the third in a row the twin is lost. -/
def Dev.missBeat (d : Dev) : Dev :=
  let d := (d.inc64 (aTt + rTtBeatsMissed) 1).modTwin fun t => { t with missed := t.missed + 1, good := 0 }
  if 3 ≤ d.twin.missed then d.twinLost else d

/-- BEAT_CHECK (R439): at DT multiples of 8,000 ns. -/
def Dev.beatCheck (d : Dev) : Dev :=
  if d.beats && d.dt.toNat % 8000 == 0 then
    if d.twin.heard then d.modTwin fun t => { t with heard := false, missed := 0 } else d.missBeat
  else d

/-- BEAT_CHECK. -/
def execBeatCheck (s : State) : Out := event Dev.beatCheck s

/-- The estimate of R440, twin DT minus own DT, from a BEAT: from sent_at to arrival here, against `back`, from sending to arrival there, of the
beats the other way. No message tells the twin's arrival times, so `back` comes with the command (log 47). -/
def beatOffset (sentAt arrived : W64) (back : W64) : Int := (back.toInt - (arrived - sentAt).toInt) / 2

/-- BEAT (R439, R440, R443). -/
def Dev.beatReceived (back : W64) (m : InMsg) (d : Dev) : Dev :=
  let rd := bytesAt m.msg.body
  let flags := leNat rd 25 1
  let offset := beatOffset (BitVec.ofNat 64 (leNat rd 8 8)) m.arrived back
  if !d.beats then d
  else if m.msg.body.length ≠ 32 || leNat rd 0 8 ≠ d.pairPeerSerial || (m.src ≠ d.peerIp && m.src ≠ d.peerIpAlt) then d.missBeat
  else
    let d := (d.wr (aTt + rTtOffset) (BitVec.ofInt 32 offset)).modTwin fun t =>
      { t with heard := true, good := if offset.natAbs ≤ 200 then t.good + 1 else 0, peerLit := bit flags 2, peerState := leNat rd 24 1 }
    if bit flags 1 then d.twinLost else d

/-- BEAT. -/
def execBeatMsg (back : W64) (s : State) : Out := event (fun d => d.onMessage (fun m => m.type == 0x48) (onTether (Dev.beatReceived back))) s

end Sys2Proof.Machine
end

