-- ==== Sys2Proof/Machine/Security.lean ====
section
/-! DEFINITION. The security block (R530 to R540) and the settings of the Ember store (R522, R525, R528, R539). -/

namespace Sys2Proof.Machine

/-! ### Bytes of the SC_ buffers (R538) -/

/-- The bytes of `n` control-space words from an address. -/
def Dev.ctlBytes (d : Dev) (a n : Nat) : List Byte := (upto n).flatMap fun k => leBytes (d.rd (a + 4 * k)).toNat 4
/-- Write bytes into control-space words from an address. -/
def Dev.ctlFill (d : Dev) (a : Nat) (bs : List Byte) : Dev :=
  (upto (ceilDiv bs.length 4)).foldl (fun d k => d.wr (a + 4 * k) (BitVec.ofNat 32 (ofBytes ((bs.drop (4 * k)).take 4)))) d
/-- A list of bytes cut or filled with zeros to a length. -/
def fitBytes (n : Nat) (bs : List Byte) : List Byte := (bs ++ List.replicate n 0).take n
/-- SHA-512 as 64 bytes. -/
def sha64 (bs : List Byte) : List Byte := fitBytes 64 (Config.sha512 bs)

/-- The staged owner digest, the key block and the signature. -/
def Dev.ownerStaged (d : Dev) : List Byte := d.ctlBytes (aSc + rScOwnerStage) 16
/-- SC_KEY: 516 bytes. -/
def Dev.scKey (d : Dev) : List Byte := d.ctlBytes (aSc + rScKey) 129
/-- SC_SIG: 512 bytes. -/
def Dev.scSig (d : Dev) : List Byte := d.ctlBytes (aSc + rScSig) 128
/-- SC_CHAL: 64 bytes. -/
def Dev.scChal (d : Dev) : List Byte := d.ctlBytes (aSc + rScChal) 16
/-- owner_digest. -/
def Dev.ownerDigest (d : Dev) : List Byte := d.emBytes 0x40 64
/-- Whether an owner key is set. -/
def Dev.ownerSet (d : Dev) : Bool := d.ownerDigest.any fun b => b != 0
/-- Whether SC_KEY holds the owner's key block. -/
def Dev.keyIsOwner (d : Dev) : Bool := d.ownerSet && sha64 d.scKey == d.ownerDigest
/-- The anti-rollback counter. -/
def Dev.arb (d : Dev) : Nat := d.em 0x24 2
/-- debug_state. -/
def Dev.debugOpen (d : Dev) : Bool := bit (d.em 0x23 1) 0

/-! ### Results and refusals -/

/-- Whether the security block runs a command or a change. -/
def Dev.scBusy (d : Dev) : Bool := d.flag (aSc + rScState) 0
/-- Set or clear busy. -/
def Dev.setScBusy (d : Dev) (v : Bool) : Dev := d.putBit (aSc + rScState) 0 v
/-- Write SC_RESULT. -/
def Dev.scResult (d : Dev) (st op : Nat) : Dev := d.wr (aSc + rScResult) (BitVec.ofNat 32 (st + op * 2 ^ 16))
/-- Whether commands and SZ writes are refused with SC_BUSY (R535). -/
def Dev.scClosed (d : Dev) : Bool := d.scBusy || d.fld (aPw + rPwState) 2 0 == 4

/-- Begin a change that R528 orders. -/
def Dev.seize (d : Dev) (op : Nat) (cells : List (Nat × Byte)) : Dev :=
  ({ d with sec := { d.sec with change := some ⟨op, cells⟩ } }).setScBusy true

/-- The register of an SZ command (R15, R455, R538), by its operation in SC_RESULT. -/
def szReg (op : Nat) : Nat :=
  match op with
  | 5 => aSc + rScOwnerCommit
  | 6 => aSc + rScDbgCmd
  | 7 => aSc + rScArbCmd
  | _ => aTt + rTtPairCommit
/-- An SZ write has set its value (R15, R17). -/
def Dev.szDone (d : Dev) (op : Nat) : Dev := (d.setBit (szReg op) 0).scResult 0 op
/-- A write of an SZ register (R15): a 1 asks for the change, a 0 is the value. -/
def Dev.szBit (d : Dev) (a : Nat) (v : W32) (f : Dev → Dev) : Dev := if v.getLsbD 0 then f d else d.clrBit a 0

/-- An SZ write (R17, R530, R540): refused while the block is busy and when its seizing counter stands at the limit. -/
def Dev.szWrite (d : Dev) (op count limit : Nat) (f : Dev → Dev) : Dev :=
  if d.scClosed then d.scResult 0x9006 op
  else if limit ≤ count then d.scResult 0x9001 op
  else f d

/-! ### Firmware images (R531, R532) -/

/-- The 8 magic bytes of a firmware image. -/
def magicFw : List Byte := magicBytes [0x42, 0x58, 0x4F, 0x41, 0x46, 0x57, 0x49, 0]

/-- payload_len of an image. -/
def fwPayload (img : List Byte) : Nat := leNat (bytesAt img) 12 4
/-- rollback of an image. -/
def fwRollback (img : List Byte) : Nat := leNat (bytesAt img) 10 2
/-- The bytes that are signed and measured. -/
def fwBody (img : List Byte) : List Byte := img.take (640 + fwPayload img)

/-- The checks of R531 on an image; none when it passes. -/
def Dev.fwCheck (d : Dev) (img : List Byte) : Option Status :=
  let n := fwPayload img
  let key := (img.drop 64).take 516
  if img.length < 640 || img.take 8 ≠ magicFw || leNat (bytesAt img) 8 2 ≠ 1 || n % 64 ≠ 0 || n < 64 || 2 ^ 24 < n || img.length < 1152 + n
  then some 0x9004
  else if !(key == Config.firmwareKey || (d.debugOpen && d.ownerSet && sha64 key == d.ownerDigest)) then some 0x9002
  else if !Config.pssVerify key (fwBody img) ((img.drop (640 + n)).take 512) then some 0x9002
  else if fwRollback img < d.arb then some 0x9003
  else none

/-- The image in a flash slot. -/
def Dev.slotImage (d : Dev) (slot : Nat) : List Byte := sget Config.shippedImage d.sec.flash slot
/-- The slot that runs. -/
def Dev.bootSlot (d : Dev) : Nat := d.fld (aSc + rScState) 4 4
/-- Rollback of the running image. -/
def Dev.runRollback (d : Dev) : Nat := d.fld (aSc + rScState) 31 16

/-- The image at a data address of a pile: what its header says it spans; none where the address cannot be that of an image. -/
def Dev.pileImage (d : Dev) (a : Nat) : Option (List Byte) :=
  if a % 64 ≠ 0 || !inPile a || !inOnePile a 640 then none
  else
    let len := 1152 + leNat d.byte (a + 12) 4
    if 2 ^ 25 < len || !inOnePile a len then none else some (readBytes d.byte a len)

/-- Stage the image at an address (R532): the status of the command. -/
def Dev.stageImage (d : Dev) (a : Nat) : Dev × Status :=
  match d.pileImage a with
  | none => (d, 0x9004)
  | some img =>
    match d.fwCheck img with
    | some st => (d, st)
    | none =>
      let slot := 1 - d.bootSlot
      let d := { d with sec := { d.sec with flash := sset Config.shippedImage d.sec.flash slot img } }
      let d := if d.em 0x26 1 = slot then d else d.emberPut [(0x26, BitVec.ofNat 8 slot)]
      (d.setBit (aSc + rScState) 5, 0)

/-! ### Quotes (R535) -/

/-- The first 512 bytes of a quote. -/
def Dev.quoteHead (d : Dev) : List Byte :=
  fitBytes 512 (magicBytes [0x42, 0x58, 0x4F, 0x41, 0x51, 0x55, 0x4F, 0] ++ leBytes 1 2 ++
    leBytes (d.debugOpen.toNat + 2 * (d.flag (aEm + rEmState) 1).toNat) 2 ++ leBytes d.arb 2 ++ leBytes d.runRollback 2 ++ leBytes d.serialNo 8 ++
    leBytes d.dt.toNat 8 ++ d.ctlBytes (aSc + rScNonce) 8 ++ sha64 (fwBody (d.slotImage d.bootSlot)) ++
    sha64 (d.emBytes 0x20 8 ++ d.emBytes 0x40 64 ++ d.emBytes 0x100 132) ++ sha64 (d.emBytes 0x200 128) ++ sha64 (d.emBytes 0x80 96))

/-! ### SC_CMD (R532, R535, R537) -/

/-- Start a command that takes time. -/
def Dev.scStart (d : Dev) (op : Nat) (job : SecJob) : Dev :=
  if d.scClosed then d.scResult 0x9006 op
  else ({ d with sec := { d.sec with job := some job } }).setScBusy true

/-- Op 1: stage the image at SC_FW_ADDR. -/
def Dev.scStageOp (d : Dev) : Dev := d.scStart 1 (.stage (d.rd64 (aSc + rScFwAddr) % 2 ^ 48))
/-- Op 2: a quote; without a usable identity key it is refused. -/
def Dev.scQuoteOp (d : Dev) : Dev :=
  if !d.scClosed && !d.flag (aSc + rScState) 2 then d.scResult 0x9007 2 else d.scStart 2 (.quote d.quoteHead)
/-- Op 3: a fresh challenge. -/
def Dev.scChallengeOp (d : Dev) : Dev :=
  d.scStart 3 (.challenge (leBytes d.serialNo 8 ++ leBytes d.dt.toNat 8 ++ leBytes (d.em 0x22 1) 1 ++ leBytes 0 7))
/-- Op 4: relock at once; it is never refused. -/
def Dev.scRelockOp (d : Dev) : Dev :=
  let d := if d.debugOpen then d.emberPut [(0x23, 0)] else d
  (d.clrBit (aSc + rScState) 1).scResult 0 4
/-- A write of SC_CMD. -/
def Dev.scCmd (d : Dev) (v : Nat) : Dev :=
  match v % 8 with
  | 1 => d.scStageOp
  | 2 => d.scQuoteOp
  | 3 => d.scChallengeOp
  | 4 => d.scRelockOp
  | _ => d

/-- SC_STAGE_FIRMWARE. -/
def execScStageFirmware (who : Requester) (s : State) : Out := event (fun d => d.asked who (aSc + rScCmd) fun d => d.scCmd 1) s
/-- SC_QUOTE. -/
def execScQuote (who : Requester) (s : State) : Out := event (fun d => d.asked who (aSc + rScCmd) fun d => d.scCmd 2) s
/-- SC_CHALLENGE. -/
def execScChallenge (who : Requester) (s : State) : Out := event (fun d => d.asked who (aSc + rScCmd) fun d => d.scCmd 3) s
/-- SC_RELOCK. -/
def execScRelock (who : Requester) (s : State) : Out := event (fun d => d.asked who (aSc + rScCmd) fun d => d.scCmd 4) s

/-- SC_COMMAND_DONE: the running command completes; `entropy` is what the entropy source gives a challenge. -/
def Dev.scDone (d : Dev) (entropy : List Byte) : Dev :=
  match d.sec.job with
  | none => d
  | some job =>
    let d := ({ d with sec := { d.sec with job := none } }).setScBusy false
    match job with
    | .stage a => let r := d.stageImage a; r.1.scResult r.2.toNat 1
    | .quote head => (d.ctlFill (aSc + rScQuote) (head ++ fitBytes 512 (Config.identitySign head))).scResult 0 2
    | .challenge head =>
      (({ d with sec := { d.sec with challenge := true } }).ctlFill (aSc + rScChal) (head ++ fitBytes 40 entropy)).scResult 0 3

/-- SC_COMMAND_DONE. -/
def execScCommandDone (entropy : List (BitVec 8)) (s : State) : Out := event (fun d => d.scDone entropy) s

/-! ### Seized settings (R528, R530, R533, R536, R537, R431) -/

/-- SC_ARB_CMD.advance (R533). -/
def Dev.arbAdvance (d : Dev) : Dev :=
  d.szWrite 7 d.arb 256 fun d => if d.runRollback < d.arb + 1 then d.scResult 0x9003 7 else d.seize 7 (cellsAt 0x24 (leBytes (d.arb + 1) 2))

/-- Whether the registers hold a signature by the owner's key over a message. -/
def Dev.ownerSigned (d : Dev) (msg : List Byte) : Bool := d.keyIsOwner && Config.pssVerify d.scKey msg d.scSig

/-- SC_OWNER_COMMIT (R536). -/
def Dev.ownerCommit (d : Dev) : Dev :=
  d.szWrite 5 (d.em 0x20 1) 8 fun d =>
    if d.ownerSet && !d.ownerSigned (d.ownerStaged ++ leBytes d.serialNo 8) then d.scResult 0x9002 5
    else if d.ownerStaged = d.ownerDigest then d.szDone 5
    else d.seize 5 (cellsAt 0x40 d.ownerStaged ++ [(0x20, BitVec.ofNat 8 (d.em 0x20 1 + 1))])

/-- SC_DBG_CMD.unlock (R537): every attempt consumes the challenge. -/
def Dev.dbgUnlock (d : Dev) : Dev :=
  if d.scClosed then d.scResult 0x9006 6
  else
    let had := d.sec.challenge
    let d := { d with sec := { d.sec with challenge := false } }
    d.szWrite 6 (d.em 0x22 1) 16 fun d =>
      if !d.ownerSet then d.scResult 0x9005 6
      else if !had then d.scResult 0x900A 6
      else if !d.ownerSigned d.scChal then d.scResult 0x9002 6
      else if d.debugOpen then d.szDone 6
      else d.seize 6 [(0x23, 1), (0x22, BitVec.ofNat 8 (d.em 0x22 1 + 1))]

/-- The staged pairing record. -/
def Dev.pairStaged (d : Dev) : List Byte := d.ctlBytes (aTt + rTtPair) 24
/-- Whether a staged record may be committed (R431): reserved fields 0, and a mode up to 3. -/
def pairRecordOk (r : List Byte) : Bool :=
  let rd := bytesAt r
  leNat rd 19 1 < 2 && leNat rd 26 6 == 0 && leNat rd 80 16 == 0 && decide (leNat rd 16 1 ≤ 3)

/-- TT_PAIR_COMMIT (R431, R432): a commit refused for any reason sets pair_refused (R455). -/
def Dev.pairCommit (d : Dev) : Dev :=
  if !pairRecordOk d.pairStaged then d.setBit (aTt + rTtSticky) 2
  else
    let d := if d.scClosed || decide (64 ≤ d.em 0x21 1) then d.setBit (aTt + rTtSticky) 2 else d
    d.szWrite 8 (d.em 0x21 1) 64 fun d =>
    if d.pairStaged = d.emBytes 0x80 96 then (d.pairApplied d.pairBinding).szDone 8
    else d.seize 8 (cellsAt 0x80 d.pairStaged ++ [(0x21, BitVec.ofNat 8 (d.em 0x21 1 + 1))])

/-- SC_ARB_ADVANCE. -/
def execScArbAdvance (who : Requester) (s : State) : Out :=
  event (fun d => d.asked who (aSc + rScArbCmd) fun d => if isBus who then d.arbAdvance else d) s
/-- SC_OWNER_COMMIT. -/
def execScOwnerCommit (who : Requester) (s : State) : Out :=
  event (fun d => d.asked who (aSc + rScOwnerCommit) fun d => if isBus who then d.ownerCommit else d) s
/-- SC_DBG_UNLOCK. -/
def execScDbgUnlock (who : Requester) (s : State) : Out :=
  event (fun d => d.asked who (aSc + rScDbgCmd) fun d => if isBus who then d.dbgUnlock else d) s
/-- TT_PAIR_COMMIT. -/
def execTtPairCommit (who : Requester) (s : State) : Out :=
  event (fun d => d.asked who (aTt + rTtPairCommit) fun d => if anySecured who then d.pairCommit else d) s

/-- What a seized change brings once it is in the store (step 4 of R528). -/
def Dev.seizedEffect (d : Dev) (op oldBinding : Nat) : Dev :=
  match op with
  | 5 => d.putBit (aSc + rScState) 3 d.ownerSet
  | 6 => d.setBit (aSc + rScState) 1
  | 8 => d.pairApplied oldBinding
  | _ => d

/-- SEIZED_CHANGE_APPLY (R528): the new image goes into a mirror copy, and then into the store; the change takes effect. -/
def Dev.applySeized (d : Dev) : Dev :=
  match d.sec.change with
  | none => d
  | some c =>
    let old := d.pairBinding
    let image := emberChange d.ember.store c.cells
    let d := { d with ember := { d.ember.mirror image with store := image }, sec := { d.sec with change := none } }
    (((d.clrBit (aEm + rEmState) 3).setScBusy false).szDone c.op).seizedEffect c.op old

/-- SEIZED_CHANGE_APPLY. -/
def execSeizedChangeApply (s : State) : Out := event Dev.applySeized s

/-! ### Settings of the store (R522, R525, R539) -/

/-- The network settings block of a port as its registers stand (R525). -/
def Dev.netBlock (d : Dev) (p : Nat) : List Byte :=
  let a := aEt p
  leBytes (d.rd (a + rEtMode)).toNat 4 ++ leBytes (d.rd64 (a + rEtMac0)) 6 ++ leBytes (d.rd64 (a + rEtMac1)) 6 ++ leBytes (d.rd (a + rEtVlan)).toNat 2 ++
  leBytes 0 2 ++ leBytes (d.rd (a + rEtIpCfg)).toNat 4 ++ leBytes (d.rd (a + rEtIpv4)).toNat 4 ++ leBytes (d.rd (a + rEtIpv4Gw)).toNat 4 ++
  d.ctlBytes (a + rEtIpv6) 4 ++ d.ctlBytes (a + rEtIpv6Gw) 4

/-- EM_CMD.save_net (R525): both ports and MT_CFG, as one change. -/
def Dev.saveNet (d : Dev) : Dev :=
  d.emberPut (cellsAt 0x100 (d.netBlock 0) ++ cellsAt 0x140 (d.netBlock 1) ++ cellsAt 0x180 (leBytes (d.rd (aMt + rMtCfg)).toNat 4))

/-- EM_SAVE_NET. -/
def execEmSaveNet (who : Requester) (s : State) : Out := event (fun d => d.asked who (aEm + rEmCmd) Dev.saveNet) s

/-- A write of EM_SMB_ADDR (R539): the address that the next cold start takes. -/
def Dev.smbAddrWrite (d : Dev) (v : Nat) : Dev :=
  let v := v % 128
  if v < 8 || 0x77 < v then d
  else (d.emberPut [(0x27, BitVec.ofNat 8 v)]).wr (aEm + rEmSmbAddr) (BitVec.ofNat 32 v)

/-- CELL_LOW (R522). -/
def execCellLow (s : State) : Out := event (fun d => (d.setBit (aEm + rEmState) 0).raiseFreeAlert) s

end Sys2Proof.Machine
end

