-- ==== Sys2Proof/Machine/Power.lean ====
section
/-! DEFINITION. Device time and its sources (R403, R509 to R511), the input pins (R512 to R516), and the events of the power input, the
measurements of the power manager and the pile temperatures (R309, R497 to R500). -/

namespace Sys2Proof.Machine

/-- PW_STATE.step (R520). -/
def Dev.pwStep (d : Dev) : Nat := d.fld (aPw + rPwState) 5 3
/-- Set PW_STATE.state and PW_STATE.step; pilot_pending ends. -/
def Dev.setPw (d : Dev) (st step : Nat) : Dev := d.wr (aPw + rPwState) (BitVec.ofNat 32 (st + 8 * step))
/-- Change the power state. -/
def Dev.modPower (d : Dev) (f : Power → Power) : Dev := { d with power := f d.power }
/-- Change the time logic. -/
def Dev.modClock (d : Dev) (f : Clock → Clock) : Dev := { d with clock := f d.clock }
/-- Set bit `i` of PW_STICKY. -/
def Dev.pwSticky (d : Dev) (i : Nat) : Dev := d.setBit (aPw + rPwSticky) i
/-- Set bit `i` of PW_PIN_STICKY. -/
def Dev.pinSticky (d : Dev) (i : Nat) : Dev := d.setBit (aPw + rPwPinSticky) i

/-! ### Device time (R22, R403, R509 to R511) -/

/-- Whether DT runs: while the input supplies the always-on domain, whose wake logic holds the DT counter (R501). -/
def Dev.timeRuns (d : Dev) : Bool := d.power.input

/-- CK_STATE.time: 0 unset, 1 listening, 2 locked, 3 holdover. -/
def Dev.timeState (d : Dev) : Nat := d.fld (aCk + rCkState) 2 1

/-- DT advances by 1 ns and the ns by which it is corrected, 1, 0 or -1; the offset from PTP follows it. -/
def Dev.tickBy (d : Dev) (e : Int) : Dev :=
  ({ d with dt := d.dt + BitVec.ofInt 64 (1 + e) }).modClock fun c => { c with offset := c.offset + e }

/-- What holdover gathers of the frequency correction in 1 ns: the ns that falls due, and what is left (R509). -/
def Clock.gather (c : Clock) : Int × Clock :=
  let g := c.gathered + c.freq
  let due : Int := if 1000000000 ≤ g then 1 else if g ≤ -1000000000 then -1 else 0
  (due, { c with gathered := g - 1000000000 * due })

/-- One nanosecond of the reference: DT advances by 1 ns, and a correction that is due slews it by 1 ns in 10,000, which is 100 ppm (R403); in
holdover the last frequency correction applies (R509). -/
def Dev.passTime (d : Dev) : Dev :=
  if !d.timeRuns then d
  else if d.clock.slewWait ≠ 0 then (d.tickBy 0).modClock fun c => { c with slewWait := c.slewWait - 1 }
  else if d.clock.slew ≠ 0 then (d.tickBy d.clock.slew.sign).modClock fun c => { c with slew := c.slew - c.slew.sign, slewWait := 9999 }
  else if d.timeState = 3 then ({ d with clock := d.clock.gather.2 }).tickBy d.clock.gather.1
  else d.tickBy 0

/-- DT steps to a value before Lit (R511); what the model times by DT moves with it. -/
def Dev.stepTime (d : Dev) (t : W64) : Dev :=
  let shift (x : W64) : W64 := t + (x - d.dt)
  let pin (p : Pin) : Pin := { p with window := p.window.map shift }
  let e := (t - d.dt).toInt
  let port (q : Port) : Port := { q with ptp := q.ptp.shift e }
  { d with dt := t, twin := { d.twin with poweredAt := shift d.twin.poweredAt }
           net := { d.net with portA := port d.net.portA, portB := port d.net.portB }
           clock := { d.clock with pps := d.clock.pps.map shift, holdover := d.clock.holdover.map shift, offset := d.clock.offset + e }
           power := { d.power with reset := pin d.power.reset, warn := pin d.power.warn, throttle := pin d.power.throttle, pps := pin d.power.pps } }

/-- Set CK_STATE.time. -/
def Dev.setTime (d : Dev) (v : Nat) : Dev := d.setFld (aCk + rCkState) 2 1 v
/-- CK_STATE.pps_valid. -/
def Dev.ppsValid (d : Dev) : Bool := d.flag (aCk + rCkState) 3

/-- Enter holdover (R509), which the ports that follow a source show: slewing ends, and the last frequency correction holds. -/
def Dev.enterHoldover (d : Dev) : Dev :=
  let d := ((d.setTime 3).setBit (aCk + rCkSticky) 1).modClock fun c => { c with good := 0, holdover := some d.dt, slew := 0, slewWait := 0, gathered := 0 }
  [0, 1].foldl (fun d p => if d.fld (aEt p + rEtState) 5 4 = 0 then d else d.setFld (aEt p + rEtState) 5 4 3) d

/-- DT's frequency correction is renewed by a measurement (R509): the spec does not state its value, which is free within the 100 ppm of R403
(log 73). -/
def Dev.renewFreq (d : Dev) : Dev :=
  let (v, d) := d.draw
  d.modClock fun c => { c with freq := (v.toNat : Int) % 200001 - 100000 }

/-- One measured offset of DT from its source: 16 in a row within 100 ns lock it (R509). -/
def Dev.countOffset (d : Dev) (offset : Int) : Dev :=
  let good := if offset.natAbs ≤ 100 then min 16 (d.clock.good + 1) else 0
  let d := d.renewFreq.modClock fun c => { c with good := good }
  if good = 16 && d.timeState ≠ 2 then (d.setTime 2).modClock fun c => { c with holdover := none } else d

/-- Correct DT by an offset: by slewing, but for a step before Lit (R403, R511). -/
def Dev.correctTime (d : Dev) (offset : Int) : Dev :=
  if d.pwState = 1 then d.stepTime (BitVec.ofInt 64 ((d.dt.toNat : Int) - offset)) else d.modClock fun c => { c with slew := -offset }

/-- A value to the nearest multiple of 10^9. -/
def wholeSeconds (x : Int) : Int := (x + 500000000) / 1000000000 * 1000000000

/-- PTP has measured an offset of DT (R403, R509). While PPS_IN is valid it supplies only the time of day (R510): the next pulse tells the rest. -/
def Dev.ptpOffset (d : Dev) (offset : Int) : Dev :=
  let d := (d.modClock fun c => { c with ptp := true, offset := offset }).countOffset offset
  if !d.ppsValid then d.correctTime offset else if d.pwState = 1 then d.correctTime (wholeSeconds offset) else d

/-- DT has lost a time source (R509, R510): with neither PTP nor valid pulses left, a locked DT enters holdover. -/
def Dev.sourceLost (d : Dev) : Dev := if d.timeState = 2 && !d.ppsValid && !d.clock.ptp then d.enterHoldover else d

/-- HOLDOVER_ALERT (R509): once for a holdover, 60 s after it began. -/
def Dev.holdoverAlert (d : Dev) : Dev :=
  match d.clock.holdover with
  | none => d
  | some t => if d.timeState = 3 && decide (t.toNat + 60000000000 ≤ d.dt.toNat)
      then (d.modClock fun c => { c with holdover := none }).raiseFreeAlert else d

/-- HOLDOVER_ALERT. -/
def execHoldoverAlert (s : State) : Out := event Dev.holdoverAlert s

/-- How far DT stands from the multiple of 10^9 ns that a pulse marks (R510): the one nearest to the time of day that PTP supplied. -/
def Dev.ppsOffset (d : Dev) : Int := (d.dt.toNat : Int) - wholeSeconds ((d.dt.toNat : Int) - d.clock.offset)

/-- A rising edge of PPS_IN that is acted on (R510): a valid pulse aligns DT by slewing, and is a source for R509 while PTP is lost; any other
is counted, and PPS_IN is valid no longer. -/
def Dev.ppsPulse (d : Dev) : Dev :=
  let valid := match d.clock.pps with
    | none => false
    | some t => decide (t.toNat + 1000000000 ≤ d.dt.toNat + 100000) && decide (d.dt.toNat ≤ t.toNat + 1000100000)
  let d := d.modClock fun c => { c with pps := some d.dt }
  if valid then
    let d := d.setBit (aCk + rCkState) 3
    (if d.clock.ptp then d else d.countOffset d.ppsOffset).modClock fun c => { c with slew := -d.ppsOffset }
  else ((d.clrBit (aCk + rCkState) 3).inc32 (aCk + rCkPpsRejects) 1).sourceLost

/-! ### Alerts and Safe Hold of the power manager (R497 to R500) -/

/-- The step of a cold start that a Safe Hold would end, or a later state: neither Off nor step 1 of a cold start (R497). -/
def Dev.pastStep1 (d : Dev) : Bool := d.pwState != 0 && !(d.pwState == 1 && d.pwStep == 1)

/-- INPUT_UNDERVOLT (R497): 44 V to 52 V for 50 µs, past step 1 of a cold start. -/
def Dev.undervolt (d : Dev) (mv : Nat) : Dev :=
  if d.pastStep1 && decide (44000 ≤ mv) && decide (mv ≤ 52000) then (d.pwSticky 3).safeHoldOn 0x44 0 mv else d
/-- INPUT_UNDERVOLT. -/
def execInputUndervolt (mv : W64) (s : State) : Out := event (fun d => d.undervolt mv.toNat) s

/-- INPUT_OVERVOLT (R497): 60 V to 66 V for 50 µs. -/
def Dev.overvolt (d : Dev) (mv : Nat) : Dev :=
  if d.pwState ≠ 0 && decide (60000 ≤ mv) && decide (mv ≤ 66000) then (d.pwSticky 3).safeHoldOn 0x44 0 mv else d
/-- INPUT_OVERVOLT. -/
def execInputOvervolt (mv : W64) (s : State) : Out := event (fun d => d.overvolt mv.toNat) s

/-- INPUT_RISE_SLOW (R497): 1 s after it rose through 44 V the input has not risen above 52 V. -/
def execInputRiseSlow (s : State) : Out := event (fun d => if d.pwState = 1 && d.pwStep = 1 then d.pwSticky 3 else d) s

/-- POWER_OVER_TDP (R500). -/
def execPowerOverTdp (s : State) : Out := event (fun d => if d.pwState = 0 then d else (d.pwSticky 0).raiseFreeAlert) s
/-- POWER_OVER_PEAK (R500). -/
def execPowerOverPeak (value : W64) (s : State) : Out := event (fun d => d.safeHoldOn 0x44 0 value.toNat) s
/-- TEMP_HOT (R500). -/
def execTempHot (s : State) : Out := event (fun d => if d.pwState = 0 then d else (d.pwSticky 1).raiseFreeAlert) s
/-- TEMP_CRITICAL (R500). -/
def execTempCritical (value : W64) (s : State) : Out := event (fun d => (d.pwSticky 1).safeHoldOn 0x44 0 value.toNat) s

/-! ### Throttling (R500, R512) -/

/-- Whether a region's bit stands in the effective throttle mask. -/
def Dev.throttles (d : Dev) (r : Nat) : Bool := d.throttleMask.getLsbD r

/-- Ungate the core and stream domains of the regions whose bit has left the mask. -/
def Dev.ungate (d : Dev) : Dev :=
  (upto 8).foldl (fun d r =>
    if (d.region r).gated && !d.regionFenced r && !d.throttles r && d.pwState == 2
    then (d.setDomains [3 * r, 3 * r + 2] true).modRegion r fun g => { g with gated := false } else d) d

/-- THROTTLE_GATE (R512): no task is bound to a masked region any longer. -/
def Dev.throttleGate (d : Dev) (r : Nat) : Dev :=
  if d.throttles r && !d.regionFenced r && d.lit && !(d.tasks.any fun t => t.started && t.inRegion r)
  then (d.setDomains [3 * r, 3 * r + 2] false).modRegion r fun g => { g with gated := true } else d

/-- THROTTLE_GATE. -/
def execThrottleGate (region : Fin 8) (s : State) : Out := event (fun d => d.throttleGate region) s

/-- Apply or remove the throttle of THROTTLE_N. -/
def Dev.setThrottled (d : Dev) (v : Bool) : Dev := (d.modPower fun p => { p with throttled := v }).ungate

/-- A write of PW_THROTTLE. -/
def Dev.throttleWrite (d : Dev) (v : Nat) : Dev := (d.setFld (aPw + rPwThrottle) 7 0 v).ungate

/-! ### Pile temperatures (R309, R500) -/

/-- Show the hottest layer of a pile; above 85 °C the 16 ms refresh window applies (R309). -/
def Dev.showTemp (d : Dev) (n layer temp : Nat) : Dev :=
  (d.wr (aPl n + rPlTemp) (BitVec.ofNat 32 (temp + layer * 256))).putBit (aPl n + rPlState) 5 (decide (85 < temp))

/-- PILE_OVERHEAT (R309, R463, R500): a layer above 105 °C; the spec gives the entry of source 0x34 no status code (log 1). -/
def Dev.pileHot (d : Dev) (n layer temp : Nat) : Dev :=
  if d.pileReady n && decide (105 < temp) then
    let (v, d) := ((d.showTemp n layer temp).setBit (aPl n + rPlSticky) 2).draw
    let d := d.enterError (aErPl n) 128 (alertStatus v) 0x34 layer temp 0 0
    ((d.modPower fun p => { p with hotMask := p.hotMask ||| (1 <<< n) }).pwSticky 2).raiseFreeAlert
  else d
/-- PILE_OVERHEAT. -/
def execPileOverheat (pile : Fin 8) (layer : Fin 12) (temp : Byte) (s : State) : Out := event (fun d => d.pileHot pile layer temp.toNat) s

/-- PILE_COOLED (R500): every layer at 95 °C or below. -/
def Dev.pileCool (d : Dev) (n layer temp : Nat) : Dev :=
  if d.pileReady n && decide (temp ≤ 95) then
    ((d.showTemp n layer temp).modPower fun p => { p with hotMask := p.hotMask &&& ~~~((1 : BitVec 8) <<< n) }).ungate
  else d
/-- PILE_COOLED. -/
def execPileCooled (pile : Fin 8) (layer : Fin 12) (temp : Byte) (s : State) : Out := event (fun d => d.pileCool pile layer temp.toNat) s

/-- PILE_HOT_WINDOW (R309): the hottest layer crosses 85 °C. -/
def execPileHotWindow (pile : Fin 8) (layer : Fin 12) (temp : Byte) (s : State) : Out :=
  event (fun d => if d.pileReady pile then d.showTemp pile layer temp.toNat else d) s

end Sys2Proof.Machine
end

