-- ==== Sys2Proof/Machine/Start.lean ====
section
/-! DEFINITION. Start-up and shut-down: Off and RESET_N (R506, R516), the cold start (R505 to R511, R529), Pilot state and the wake (R502,
R503), and the sideband pins (R514, R515). -/

namespace Sys2Proof.Machine

/-! ### Off (R497, R506, R516) -/

/-- What a pile keeps while the module is Off: its repair map, and the rows marked for repair (R314, R323). -/
def keptPiles (ps : Sparse Pile) : Sparse Pile :=
  ps.foldl (fun m p => sset (fun _ => {}) m p.1 { repairs := p.2.repairs, marked := p.2.marked }) []

/-- The device Off: flash and the Ember store keep their contents; `on`, the input still supplies the always-on domain with the EM_, CK_ and
PW_ blocks, the pins, the management bus and DT. -/
def Dev.turnOff (d : Dev) (on : Bool) : Dev :=
  let off : Dev := { piles := keptPiles d.piles, ember := d.ember, sec := { flash := d.sec.flash }, net := { wire := d.net.wire }, free := d.free,
                     power := { input := false } }
  let d := if on then
      { off with ctl := d.ctl.filter fun p => decide (aEm ≤ p.1) && decide (p.1 < aErDv)
                 power := { d.power with cold := none, wake := none, hotMask := 0 }
                 clock := { pps := d.clock.pps }
                 obs := { holdings := d.obs.holdings.filter fun p => p.1 == 4096, smbAddr := d.obs.smbAddr, smbAnswer := d.obs.smbAnswer }
                 dt := d.dt }
    else off
  (((d.setPw 0 0).wr (aCk + rCkState) 0).wr64 (aCk + rCkDomainOn) 0x8000000000).wr64 (aCk + rCkDomainRst) 0x7FFFFFFFFF

/-- INPUT_OFF (R497, R498): the Safe Hold steps complete, and the module goes Off. -/
def Dev.inputOff (d : Dev) : Dev :=
  if !d.power.input then d
  else
    let d := if d.pastStep1 && d.pwState != 6 then let (v, d) := d.draw; d.safeHoldOn 0x44 0 v.toNat else d
    d.turnOff false

/-- INPUT_OFF. -/
def execInputOff (s : State) : Out := event Dev.inputOff s

/-- The DONEs that have not left their port (R53, R516): session, seq of the SUBMIT and task. -/
def Dev.heldDones (d : Dev) : List (Nat × W32 × W32) :=
  d.net.sessions.flatMap fun p => ((p.2.unacked.map fun u => u.msg) ++ p.2.waiting).filterMap fun m =>
    if m.type = 0x12 && d.notLeft p.1 fun x => x.type == 0x12 && x.body == m.body
    then some (p.1, m.ref, BitVec.ofNat 32 (leNat (bytesAt m.body) 0 4)) else none

/-- RESET_N asserted (R516): every accepted task whose DONE has not left is aborted, a BEAT with safe_hold leaves, and the domains are reset. -/
def Dev.resetActs (d : Dev) : Dev :=
  if d.pwState = 0 then d
  else
    let d := d.heldDones.foldl (fun d x => (d.countAbort 0x8009).sendSeq x.1 0x13 (abortBody x.2.2 0x8009 0xFFFF d.dt 0xFFFF 0xFFFFFFFF) x.2.1) d
    let d := d.tasks.foldl (fun d t => d.endTask t 0x8009 none) d
    let d := if d.beats then (d.setPw 6 0).sendBeat else d
    d.turnOff true

/-! ### Step 2: the Ember store and the firmware (R505, R529, R531) -/

/-- The reconciliation of R529 over the valid sources: `base` with the largest counters and remedies, and every fence bit of them. -/
def reconciled (base : Sparse Byte) (sources : List (Sparse Byte)) : Sparse Byte :=
  let most (a n : Nat) : List (Nat × Byte) := cellsAt a (leBytes (sources.foldl (fun x m => max x (leNat (emberGet m) a n)) 0) n)
  let every (a : Nat) : Nat × Byte := (a, sources.foldl (fun x m => x ||| emberGet m a) 0)
  let cells := [(0x10, 8), (0x20, 1), (0x21, 1), (0x22, 1), (0x24, 2), (0x28, 4)].flatMap (fun (p : Nat × Nat) => most p.1 p.2) ++
    (upto 8).flatMap fun n => (upto 6).map (fun i => every (fenceAt n + i)) ++ most (fenceAt n + 10) 1 ++ most (fenceAt n + 11) 1
  cells.foldl (fun m p => sset emberDefault m p.1 p.2) base

/-- Whether the magic and the version of an image are right (R524, R529). -/
def emberFormed (m : Sparse Byte) : Bool :=
  decide (readBytes (emberGet m) 0 8 = magicBytes [0x42, 0x58, 0x4F, 0x41, 0x45, 0x4D, 0x42, 0]) && leNat (emberGet m) 8 2 == 1

/-- Step 2: the store is reconciled with its mirror; none when no valid source remains. -/
def Dev.reconcile (d : Dev) (env : ColdEnv) : Option Dev :=
  let e := d.ember
  let ok := e.valid && emberFormed e.store
  let ok0 := e.copy0.intact && emberFormed e.copy0.image && !env.badCopy0
  let ok1 := e.copy1.intact && emberFormed e.copy1.image && !env.badCopy1
  let copies := (if ok0 then [e.copy0] else []) ++ (if ok1 then [e.copy1] else [])
  let best := copies.foldl (fun (m : Option Mirror) c => match m with | none => some c | some x => some (if x.seq < c.seq then c else x)) none
  let base := if ok then some e.store else best.map fun m => m.image
  base.map fun b =>
    let store := reconciled b ((if ok then [e.store] else []) ++ copies.map fun m => m.image)
    let d := { d with ember := { store := store, copy0 := { image := store }, copy1 := { image := store } } }
    ((d.putBit (aEm + rEmState) 1 (!ok)).putBit (aEm + rEmState) 2 (!(ok0 && ok1))).clrBit (aEm + rEmState) 3

/-- The slot that the Boot ROM accepts (R531): active_slot first. -/
def Dev.bootChoice (d : Dev) : Option Nat :=
  let a := d.em 0x26 1 % 2
  [a, 1 - a].find? fun s => (d.fwCheck (d.slotImage s)).isNone

/-- Hub firmware starts from a slot (R538, R542). -/
def Dev.runFirmware (d : Dev) (slot : Nat) : Dev :=
  let img := d.slotImage slot
  let d := ((d.putBit (aSc + rScState) 4 (slot == 1)).putBit (aSc + rScState) 5 (d.em 0x26 1 != slot)).setFld (aSc + rScState) 31 16 (fwRollback img)
  d.wr64 (aDv + rDvFwBuild) (leNat (bytesAt img) 16 8)

/-- The settings of a port from the store (R525, R427). -/
def Dev.loadNet (d : Dev) (p : Nat) : Dev :=
  let a := aEt p
  let e := 0x100 + 0x40 * p
  let d := (((d.wr (a + rEtMode) (BitVec.ofNat 32 (d.em e 4))).wr64 (a + rEtMac0) (d.em (e + 4) 6)).wr64 (a + rEtMac1) (d.em (e + 10) 6)).wr (a + rEtVlan)
    (BitVec.ofNat 32 (d.em (e + 16) 2))
  let d := ((d.wr (a + rEtIpCfg) (BitVec.ofNat 32 (d.em (e + 20) 4))).wr (a + rEtIpv4) (BitVec.ofNat 32 (d.em (e + 24) 4))).wr (a + rEtIpv4Gw)
    (BitVec.ofNat 32 (d.em (e + 28) 4))
  (d.ctlFill (a + rEtIpv6) (d.emBytes (e + 32) 16)).ctlFill (a + rEtIpv6Gw) (d.emBytes (e + 48) 16)

/-- A port begins to train its links, unless it is off (R398, R505). -/
def Dev.trainPort (d : Dev) (p : Nat) : Dev := d.setFld (aEt p + rEtState) 2 0 (if d.fld (aEt p + rEtMode) 1 0 = 0 then 0 else 4)

/-- What the store gives the registers in step 2: security, network and pairing (R427, R455, R534, R538). -/
def Dev.loadStore (d : Dev) (identity : Bool) : Dev :=
  let d := ((d.putBit (aSc + rScState) 1 d.debugOpen).putBit (aSc + rScState) 2 identity).putBit (aSc + rScState) 3 d.ownerSet
  let d := d.wr (aSc + rScCertLen) (BitVec.ofNat 32 (min 4096 Config.certificate.length))
  let d := if identity then d else d.raiseAlert 0x9007 0 0
  let d := ((d.loadNet 0).loadNet 1).wr (aMt + rMtCfg) (BitVec.ofNat 32 (d.em 0x180 4))
  let d := (d.ctlFill (aTt + rTtPair) (d.emBytes 0x80 96)).wr (aTt + rTtEpoch) (BitVec.ofNat 32 d.epoch)
  (d.modTwin fun t => { t with poweredAt := d.dt }).enterUnjoined

/-! ### Step 3: piles, cores and links (R32, R242, R322, R473, R481) -/

/-- Power clock domains and release their resets (R508). -/
def Dev.startDomains (d : Dev) (ds : List Nat) : Dev :=
  let d := d.setDomains ds true
  d.wr64 (aCk + rCkDomainRst) (ds.foldl (fun v i => setField v i i 0) (d.rd64 (aCk + rCkDomainRst)))

/-- A pile enters the failed state at its training (R323); the spec's entry names a channel and a place that the event does not give (log 1). -/
def Dev.pileUntrained (d : Dev) (n : Nat) : Dev :=
  let (v, d) := d.draw
  let (x, d) := d.draw
  (d.enterError (aErPl n) 128 0x8005 0x33 (v.toNat % 16) (x.toNat % 2 ^ 36) 0 0).setFld (aPl n + rPlState) 2 0 5

/-- The repairs of a repair map in one bank. -/
def bankRepairs (m : List (Nat × Nat)) (bank : Nat) : Nat := (m.filter fun x => x.1 / 8192 == bank).length
/-- Add the repair of a row to a repair map (R323): the next spare row of its bank, when one of the 32 is left. -/
def repairRow (m : List (Nat × Nat)) (row : Nat) : List (Nat × Nat) :=
  if bankRepairs m (row / 8192) < 32 then m ++ [(row, bankRepairs m (row / 8192))] else m

/-- Step 3a for one pile (R322, R323): its failing and its marked rows take spare rows, and it becomes ready, zero filled, or fails. -/
def Dev.trainPile (d : Dev) (n : Nat) (t : PileTrain) : Dev :=
  let d := d.setFld (aPl n + rPlState) 23 8 (satTo 16 (d.pile n).repairs.length)
  if d.regionFenced n then d.setFld (aPl n + rPlState) 2 0 5
  else
    let d := d.setFld (aPl n + rPlState) 2 0 1
    let old := (d.pile n).repairs
    let rows := (t.repaired ++ (d.pile n).marked).eraseDups
    let new := rows.foldl repairRow old
    let spent := decide (new.length < old.length + rows.length)
    if t.badMap then d.pileUntrained n
    else
      let d := (d.modPile n fun p => { p with repairs := new, marked := [] }).setFld (aPl n + rPlState) 23 8 (satTo 16 new.length)
      if t.failed || spent then d.pileUntrained n
      else ((d.setFld (aPl n + rPlState) 2 0 2).setBit (aPl n + rPlState) 3).startDomains [24 + n]

/-- Give a logical index its core as the fence map leaves it (R27, R34): a spare for a snuffed core, or none. -/
def Dev.mapIndex (d : Dev) (r l k : Nat) : Dev :=
  if d.snuffed r k then
    match d.pickSpare r k with
    | some s => (d.wr64 (aRn r + rRnSpare) (setField (d.rd64 (aRn r + rRnSpare)) s s 0)).wr (lmapAt r l) (BitVec.ofNat 32 s)
    | none => d.vacate r l
  else d.wr (lmapAt r l) (BitVec.ofNat 32 k)

/-- Step 3b for one region: the fence map and the taper state of the store (R27, R32, R243, R468, R481). -/
def Dev.applyFence (d : Dev) (r : Nat) : Dev :=
  let e := fenceAt r
  let bad := d.em e 5
  let spares := (upto 4).map fun q => d.em (e + 6 + q) 1
  let cores := (upto 4).flatMap fun q => (((upto 10).map (10 * q + ·)).filter fun k => k != spares.getD q 0).take 9
  let idle := (spares.filter fun s => !bit bad s).foldl (fun x s => setField x s s 1) 0
  let d := (d.wr64 (aRn r + rRnFence) bad).wr64 (aRn r + rRnSpare) idle
  let d := cores.zipIdx.foldl (fun d p => d.mapIndex r p.2 p.1) d
  let d := d.setFld (aRs r + rRnStSlice) 3 0 (d.em (e + 5) 1)
  let n := d.em (e + 11) 1
  let d := ((d.setFld (aTp r + rTpState) 3 0 (d.em (e + 10) 1)).setFld (aTp r + rTpState) 6 4 n).setFld (aTp r + rTpState) 21 11 (1600 - 100 * n)
  let d := d.modRegion r fun g => { g with slack := signed 16 (d.em (e + 12) 2) }
  let d := if bit (d.em (e + 5) 1) 4 then
      (upto 72).foldl (fun d g => d.setBgOff r g true) ((upto 36).foldl (fun d l => d.vacate r l) (d.setBit (aRn r + rRnState) 4))
    else d.startDomains [3 * r, 3 * r + 1, 3 * r + 2]
  (d.countMap r).setBit (aRn r + rRnState) 5

/-- A core fails its built-in test (R463, R505). -/
def Dev.testFails (d : Dev) (i : Nat) : Dev :=
  let r := i / 40
  let k := i % 40
  if i < 320 && d.watched r k then d.failsTest r k else d

/-- The built-in test is over (R242): the ports leave fixed-pipeline mode, but for spares still under test. -/
def Dev.leaveFixed (d : Dev) : Dev :=
  (upto 8).foldl (fun d r =>
    let under := (d.region r).substs.map fun s => s.spare
    if (d.region r).recovering then d
    else (upto 40).foldl (fun d k => d.modCore r k fun co => { co with fixedPipe := under.contains k }) (d.modRegion r fun g => { g with fixedPipe := false })) d

/-! ### The cold start (R497, R505 to R511) -/

/-- PW_BOOT_k: the end of a step. -/
def Dev.boot (d : Dev) (env : ColdEnv) (k : Nat) : Dev := d.wr (aPw + rPwBoot + 4 * k) (env.ms.getD k 0)

/-- Step 5: the default Flicker table, the ports, and the Lamplighter: the device is Lit. -/
def Dev.coldLit (d : Dev) (env : ColdEnv) : Dev :=
  (((d.boot env 5).flkDefault.leaveFixed.setPw 2 0)).modPower fun p => { p with cold := none }

/-- Step 4: time. It ends at once under free_run (R511), or when DT locks (R509); without a source the cold start stays here. -/
def Dev.coldTime (d : Dev) (env : ColdEnv) : Dev :=
  if d.flag (aCk + rCkTimeCfg) 0 then
    (((((d.setTime 3).setBit (aCk + rCkSticky) 1).setBit (aCk + rCkSticky) 2).modClock fun c => { c with holdover := some d.dt }).raiseFreeAlert).coldLit env
  else match env.time with
    | some t => ((((d.stepTime t).setTime 2).renewFreq.modClock fun c => { c with good := 16, ptp := true })).coldLit env
    | none => d

/-- Step 3. -/
def Dev.coldTrain (d : Dev) (env : ColdEnv) : Dev :=
  let d := (d.boot env 1).setPw 1 3
  let d := (upto 8).foldl (fun d r => d.applyFence r) (d.startDomains [32, 33, 34])
  let d := (upto 8).foldl (fun d n => d.trainPile n (env.piles.getD n { repaired := [], failed := false })) d
  let d := env.badCores.foldl (fun d i => d.testFails i) d
  let d := env.links.foldl (fun d i => d.linkUp (i.val / 2) (i.val % 2)) ((d.trainPort 0).trainPort 1)
  ((((d.boot env 2).boot env 3).boot env 4).setPw 1 4).coldTime env

/-- Step 2, which the device does not pass while PWR_WARN_N is low (R515); the Ember store or the firmware may stop it there. -/
def Dev.coldBoot (d : Dev) (env : ColdEnv) : Dev :=
  let d := (((d.setBit (aCk + rCkState) 0).boot env 0).setPw 1 2).startDomains [35, 36, 37, 38]
  let stop (d : Dev) (st : Nat) : Dev := (d.modPower fun p => { p with cold := none }).raiseAlert st 0 0
  match d.reconcile env with
  | none => (stop d 0x9008).setBit (aEm + rEmState) 2
  | some d =>
    match d.bootChoice with
    | none => stop d 0x9009
    | some slot =>
      let d := (d.runFirmware slot).loadStore env.identity
      if d.power.warn.high then d.coldTrain env else d

/-- Step 1: the always-on domain reads the Ember store (R505, R539, R542); until the input rises above 52 V the cold start stays here (R497). -/
def Dev.coldBegin (d : Dev) (env : ColdEnv) : Dev :=
  let d := (d.setPw 1 1).modPower fun p => { p with cold := some env }
  let d := if env.cellLost then { d with ember := { d.ember with valid := false } } else d
  let a := d.em 0x27 1
  let d := (d.wr64 (aDv + rDvSerial) d.serialNo).wr (aEm + rEmSmbAddr) (BitVec.ofNat 32 (if a = 0 then 0x5A else a))
  if env.inRange then d.coldBoot env else d

/-- INPUT_ABOVE_52V (R497): a cold start held in step 1 continues. -/
def Dev.coldInput (d : Dev) : Dev :=
  match d.power.cold with
  | some env => if d.pwState = 1 && d.pwStep = 1 then d.coldBoot env else d
  | none => d

/-- INPUT_ABOVE_52V. -/
def execInputAbove52v (s : State) : Out := event Dev.coldInput s

/-- A cold start that waits for a time source continues once DT is locked (R505, R509). -/
def Dev.coldLocked (d : Dev) : Dev :=
  match d.power.cold with
  | some env => if d.pwState = 1 && d.pwStep = 4 && d.timeState = 2 then d.coldLit env else d
  | none => d

/-- A write of CK_TIME_CFG.free_run (R511): ignored after Lit; step 4 of a cold start ends at once. -/
def Dev.freeRunWrite (d : Dev) (v : Bool) : Dev :=
  if 1 < d.pwState then d
  else
    let d := d.putBit (aCk + rCkTimeCfg) 0 v
    match d.power.cold with
    | some env => if v && d.pwState = 1 && d.pwStep = 4 then d.coldTime env else d
    | none => d

/-- CK_FREE_RUN_SET. -/
def execCkFreeRunSet (who : Requester) (s : State) : Out := event (fun d => d.asked who (aCk + rCkTimeCfg) fun d => d.freeRunWrite true) s

/-- A write of CK_DT_SET (R511): over the management bus, before Lit. -/
def Dev.dtSetWrite (d : Dev) (who : Requester) (v : W64) : Dev := if isBus who && decide (d.pwState ≤ 1) then d.stepTime v else d

/-- CK_DT_SET_WRITE. -/
def execCkDtSetWrite (who : Requester) (value : W64) (s : State) : Out :=
  event (fun d => d.asked who (aCk + rCkDtSet) fun d => d.dtSetWrite who value) s

/-! ### The input pins (R513 to R515) -/

/-- An input pin: 0 RESET_N, 1 PWR_WARN_N, 2 THROTTLE_N, 3 PPS_IN. -/
def Dev.pin (d : Dev) (i : Nat) : Pin := match i with | 0 => d.power.reset | 1 => d.power.warn | 2 => d.power.throttle | _ => d.power.pps
/-- Change an input pin. -/
def Dev.modPin (d : Dev) (i : Nat) (f : Pin → Pin) : Dev :=
  d.modPower fun p => match i with
    | 0 => { p with reset := f p.reset }
    | 1 => { p with warn := f p.warn }
    | 2 => { p with throttle := f p.throttle }
    | _ => { p with pps := f p.pps }

/-- PWR_WARN_N (R499, R515): asserted, Safe Hold; released, a cold start that the pin has held in step 2 from its beginning continues. -/
def Dev.warnActs (d : Dev) (level : Bool) : Dev :=
  if level then
    match d.power.cold with
    | some env => if d.pwState = 1 && d.pwStep = 2 then d.coldTrain env else d
    | none => d
  else (d.safeHoldOn 0x44 0 0).mirrorWrite

/-- What an edge of an input does once it is acted on (R515). -/
def Dev.pinActs (d : Dev) (i : Nat) (level : Bool) : Dev :=
  match i with
  | 0 =>
    if level then
      match d.power.cold with
      | some env => if d.pwState = 0 then d.coldBegin env else d
      | none => d
    else d.resetActs
  | 1 => d.warnActs level
  | 2 => if level && d.flag (aPw + rPwPinSticky) 0 then d else d.setThrottled (!level)
  | _ => if level && d.hubRuns then d.ppsPulse.coldLocked else d

/-- Act on the level of an input, which opens a rate window of 1 ms (R514). -/
def Dev.pinTakes (d : Dev) (i : Nat) (level : Bool) : Dev :=
  (d.modPin i fun p => { p with acted := level, window := some (d.dt + 1000000) }).pinActs i level

/-- A filtered edge of an input (R514): inside a rate window it is deferred. -/
def Dev.pinEdge (d : Dev) (i : Nat) (level : Bool) : Dev :=
  if (d.pin i).high = level || !d.power.input then d
  else
    let d := d.modPin i fun p => { p with high := level }
    match (d.pin i).window with
    | some w => if d.dt.toNat < w.toNat then d.pinSticky 3 else d.pinTakes i level
    | none => d.pinTakes i level

/-- PIN_RATE_WINDOW_END (R514). -/
def Dev.windowEnd (d : Dev) (i : Nat) : Dev :=
  match (d.pin i).window with
  | none => d
  | some w =>
    if d.dt.toNat < w.toNat then d
    else
      let p := d.pin i
      let d := d.modPin i fun p => { p with window := none }
      if p.high = p.acted then d else d.pinTakes i p.high

/-- PIN_RATE_WINDOW_END. -/
def execPinRateWindowEnd (pin : Fin 4) (s : State) : Out := event (fun d => d.windowEnd pin) s

/-- PWR_WARN_ASSERT. -/
def execPwrWarnAssert (s : State) : Out := event (fun d => d.pinEdge 1 false) s
/-- PWR_WARN_RELEASE. -/
def execPwrWarnRelease (s : State) : Out := event (fun d => d.pinEdge 1 true) s
/-- RESET_ASSERT. -/
def execResetAssert (s : State) : Out := event (fun d => d.pinEdge 0 false) s
/-- THROTTLE_ASSERT. -/
def execThrottleAssert (s : State) : Out := event (fun d => d.pinEdge 2 false) s
/-- THROTTLE_RELEASE. -/
def execThrottleRelease (s : State) : Out := event (fun d => d.pinEdge 2 true) s

/-- COLD_START (R497, R504, R515): from Off the input rises through 44 V, or RESET_N is released; from reset the module is powered up. -/
def Dev.coldStart (d : Dev) (env : ColdEnv) : Dev :=
  if d.pwState = 0 then
    if d.power.input then (d.modPower fun p => { p with cold := some env }).pinEdge 0 true
    else (d.modPower fun _ => {}).coldBegin env
  else if d.pwState = 1 && d.pwStep = 1 && d.power.cold = none then d.coldBegin env
  else d

/-- COLD_START. -/
def execColdStart (env : ColdEnv) (s : State) : Out := event (fun d => d.coldStart env) s

/-- PPS_EDGE (R510, R514): the next filtered edge of PPS_IN. Its edges alternate, so the level before it tells whether it rises (log 58). -/
def execPpsEdge (s : State) : Out := event (fun d => d.pinEdge 3 (!d.power.pps.high)) s

/-- PIN_STUCK (R515): an input has stayed active beyond its limit. -/
def Dev.pinStuck (d : Dev) (i : Nat) : Dev :=
  match i with
  | 0 => d
  | 1 => if d.power.warn.high then d else (d.pinSticky 1).raiseFreeAlert
  | 2 => if d.power.throttle.high then d else (d.pinSticky 0).raiseFreeAlert
  | _ =>
    let due := match d.clock.pps with | none => true | some t => decide (t.toNat + 2000000000 ≤ d.dt.toNat)
    if due then
      let d := ((d.pinSticky 2).clrBit (aCk + rCkState) 3).sourceLost
      if d.flag (aCk + rCkTimeCfg) 1 then d.raiseFreeAlert else d
    else d

/-- PIN_STUCK. -/
def execPinStuck (pin : Fin 4) (s : State) : Out := event (fun d => d.pinStuck pin) s

/-! ### Pilot state (R251, R320, R502) -/

/-- PW_CMD.pilot (R502): ignored but in Lit. -/
def Dev.askPilot (d : Dev) : Dev := if d.lit then d.setBit (aPw + rPwState) 6 else d
/-- PW_CMD_PILOT. -/
def execPwCmdPilot (who : Requester) (s : State) : Out := event (fun d => d.asked who (aPw + rPwCmd) Dev.askPilot) s

/-- The entry begins: CLOSE leaves on every open session, and every session is closed. -/
def Dev.pilotBegins (d : Dev) : Dev :=
  d.net.sessions.foldl (fun d p => if p.2.state = 2 then (d.sendUnseq p.1 3).closeSession p.1 else d.closeSession p.1) (d.setPw 3 0)

/-- A region on the entry into Pilot state (R251). -/
def Dev.pilotRegion (d : Dev) (r : Nat) : Dev :=
  let kept := d.retainedGroups r
  let d := (upto 512).foldl (fun d i =>
    if d.fld (coilBase r i + 8) 1 0 = 3 then d else ((d.wr64 (coilBase r i + 0x10) 0).wr64 (coilBase r i + 0x18) 0).coilBump r i) d
  let d := (upto 256).foldl (fun d k => d.closeWindow r k) d
  let d := (upto 72).foldl (fun d g => if kept.contains g then d else d.eraseGroup r g) d
  d.modRegion r fun g => { g with retained := kept }

/-- A port loses its links and its time source. -/
def Dev.portDark (d : Dev) (p : Nat) : Dev :=
  let d := if d.portUp p then d.setBit (aEt p + rEtSticky) 0 else d
  ((d.setFld (aEt p + rEtState) 2 0 0).setFld (aEt p + rEtState) 5 4 0).modPort p fun _ => {}

/-- The power that a core loses with its domain: its contents, but not its record of handling windows (R465). -/
def Dev.darkCores (d : Dev) : Dev :=
  { d with cores := d.cores.foldl (fun m p => sset (fun _ => Core.initial) m p.1 { Core.initial with windows := p.2.windows }) [] }

/-- Each pile completes the remote writes that its port has granted (R320). -/
def Dev.landPileWrites (d : Dev) : Dev :=
  d.net.writes.foldl (fun d w => if w.checked && !w.done && inPile w.addr then d.performWrite w else d) d

/-- The entry completes. -/
def Dev.pilotDone (d : Dev) : Dev :=
  let d := d.landPileWrites
  let d := (upto 8).foldl (fun d n => if d.pileReady n then d.setFld (aPl n + rPlState) 2 0 3 else d) d
  let d := (upto 8).foldl (fun d r => if d.regionFenced r then d else d.pilotRegion r) d
  let d := ((if d.timeState = 3 then d else d.enterHoldover).portDark 0).portDark 1
  let d := { d.darkCores with net := { d.net with inbox := [], writes := [] } }
  let kept := ((upto 8).filter fun r => !(d.region r).retained.isEmpty).map fun r => 3 * r + 1
  let d := (d.setDomains (upto 39) false).setDomains kept true
  (d.clrBit (aCk + rCkState) 0).setPw 4 0

/-! ### The wake (R321, R503) -/

/-- A pile wakes (R321): its calibration holds, or full calibration repeats it. -/
def Dev.wakePile (d : Dev) (failed : Bool) (n : Nat) : Dev :=
  if d.pileState n = 3 then
    let d := (d.clrBit (aPl n + rPlState) 3).setFld (aPl n + rPlState) 2 0 4
    if failed then d.pileUntrained n else (d.setFld (aPl n + rPlState) 2 0 2).setDomains [24 + n] true
  else d

/-- The wake from Pilot to Lit; when no slot passes the signature check it stops. -/
def Dev.wake (d : Dev) (env : WakeEnv) : Dev :=
  let d := ((d.setPw 5 0).setBit (aCk + rCkState) 0).setDomains [32, 33, 34, 35, 36, 37, 38] true
  let d := d.modPower fun p => { p with wake := none }
  match d.bootChoice with
  | none => d.raiseAlert 0x9009 0 0
  | some slot =>
    let d := ((d.runFirmware slot).trainPort 0).trainPort 1
    let d := (upto 8).foldl (fun d n => d.wakePile (env.failed.any fun f => f.val == n) n) d
    let d := if env.recalibrated.isEmpty then d else d.raiseFreeAlert
    let d := (upto 8).foldl (fun d r =>
      if d.regionFenced r then d
      else (d.setDomains [3 * r, 3 * r + 1, 3 * r + 2] true).modRegion r fun g => { g with retained := [], gated := false }) d
    let d := (env.badCores.foldl (fun d i => d.testFails i) d.flkDefault).leaveFixed
    (if env.slow then d.pwSticky 4 else d).setPw 2 0

/-- PILOT_ENTRY (R502): the accepted tasks have ended; the entry waits for a running near-memory operation (R320), and a held wake follows it. -/
def Dev.pilotEntry (d : Dev) : Dev :=
  let d := if d.lit && d.flag (aPw + rPwState) 6 && d.tasks.isEmpty then d.pilotBegins else d
  if d.pwState = 3 && (upto 8).all fun n => (d.pile n).nmo == none then
    let d := d.pilotDone
    match d.power.wake with
    | some env => d.wake env
    | none => d
  else d

/-- PILOT_ENTRY. -/
def execPilotEntry (s : State) : Out := event Dev.pilotEntry s

/-- PW_CMD.wake over the management bus (R503). -/
def Dev.askWake (d : Dev) (env : WakeEnv) : Dev :=
  if d.pwState = 4 then d.wake env else if d.pwState = 3 then d.modPower fun p => { p with wake := some env } else d

/-- PW_CMD_WAKE. -/
def execPwCmdWake (env : WakeEnv) (s : State) : Out := event (fun d => d.askWake env) s

end Sys2Proof.Machine
end

