-- ==== Sys2Proof/Machine/View.lean ====
section
/-! DEFINITION. What a read of a control-space word returns (R13 to R15, R18): the stored word, or the one that the state of a unit shows, and
the shadows of the last mark (R493, R495). -/

namespace Sys2Proof.Machine

/-! ### Words that show the state of a unit -/

/-- A 32-bit half of a 64-bit view. -/
def halfOf (v : Nat) (high : Bool) : W32 := BitVec.ofNat 32 (if high then v / 2 ^ 32 else v)

/-- Whether some error record has alert set: ALERT_N is driven low (R462). -/
def Dev.alerting (d : Dev) : Bool := d.ctl.any fun p => p.2.getLsbD 1 && (recordAt p.1).isSome

/-- PW_STATE with the effective throttle mask (R520). -/
def Dev.viewPower (d : Dev) : W32 := BitVec.ofNat 32 (setField (d.rd (aPw + rPwState)).toNat 14 7 d.throttleMask.toNat)

/-- PW_PIN: the filtered levels of the pins (R513, R520). -/
def Dev.viewPins (d : Dev) : W32 :=
  let p := d.power
  BitVec.ofNat 32 (p.reset.high.toNat + 2 * p.warn.high.toNat + 4 * p.throttle.high.toNat + 8 * p.pps.high.toNat + 16 * (!d.xoff 0).toNat +
    32 * (!d.xoff 1).toNat + 64 * (!d.alerting).toNat)

/-- DV_STATE (R542). -/
def Dev.viewDevice (d : Dev) : W32 :=
  BitVec.ofNat 32 (d.pwState + 8 * d.ttState + 64 * d.ttPrimary.toNat + 128 * d.alerting.toNat +
    256 * (upto 8).foldl (fun x r => x + (d.regionFenced r).toNat * 2 ^ r) 0)

/-- CO_ACTIVE (R116). -/
def Dev.viewActive (d : Dev) (r k : Nat) : W32 :=
  let co := d.core r k
  BitVec.ofNat 32 (co.running.getD 15 + 16 * co.switching.isSome.toNat)

/-- The hold kind of a context (R106): a hold before issue, and then the one whose operation stands earliest in the slot order. -/
def Context.holdKind (c : Context) : Nat :=
  match c.holds.find? fun h => h.before with
  | some h => h.kind
  | none => (c.holds.foldl (fun (m : Option Hold) h => match m with | none => some h | some x => if h.slot < x.slot then some h else m) none).elim 0
      fun h => h.kind

/-- CO_SLOT_k (R116): 0 free, 1 bound, 2 ready, 3 running, 4 held, 5 ending. -/
def Dev.viewSlot (d : Dev) (r k i : Nat) : Nat :=
  let co := d.core r k
  match nth co.slots i none with
  | none => 0
  | some c =>
    let st := if c.ended || c.aborted then 5 else if !c.active then 1 else if !c.holds.isEmpty then 4 else if co.running = some i then 3 else 2
    st + 16 * c.holdKind + 256 * c.rank + 2 ^ 32 * c.task.toNat

/-- CO_IPAGE_p (R116). -/
def Dev.viewIPage (d : Dev) (r k p : Nat) : W32 :=
  let co := d.core r k
  match nth co.ipages p none with
  | none => 0
  | some g =>
    let used := co.slots.any fun s => match s with
      | none => false
      | some c => !c.ended && (d.task? c.task).any fun t => t.image == g.handle && t.program == g.program
    BitVec.ofNat 32 (1 + 2 * used.toNat + 4 * g.page + 2 ^ 16 * g.handle)

/-- ST_STATE (R301). -/
def Dev.viewChannel (d : Dev) (i : Nat) : Nat :=
  let ch := d.chan i
  ch.queue.length + 128 * (ch.queue.any fun x => x.started && !x.moved).toNat + 256 * (!ch.holders.isEmpty).toNat + 512 * (decide (i % 8 < 2)).toNat +
    (if ch.holders.isEmpty && ch.queue.isEmpty then 0 else 2 ^ 32 * ch.task.toNat)

/-- LL_STATE (R395). -/
def Dev.viewLamp (d : Dev) : W32 :=
  BitVec.ofNat 32 (d.regBusy.toNat + 2 * ((upto 8).any fun r => d.flag (aTp r + rTpState) 8).toNat +
    2 ^ 16 * (d.lamp.images.filter fun p => p.2.isSome).length)

/-- The MT_SD registers of the selected session, by word (R428). -/
def Dev.viewSession (d : Dev) (w : Nat) : W32 :=
  let x := d.session d.selected
  match w with
  | 0 => BitVec.ofNat 32 (x.state + 8 * x.home + 16 * x.localOpen.toNat + 32 * x.protect.toNat + 64 * x.unacked.length)
  | 1 => BitVec.ofNat 32 (x.udp.toNat + 2 ^ 16 * x.peerSession.toNat)
  | 2 => x.nextSeq
  | 3 => x.rxExpect
  | w => BitVec.ofNat 32 (x.addr.toNat / 2 ^ (32 * (7 - w)))

/-- SC_COUNTS (R538). -/
def Dev.viewCounts (d : Dev) : W32 :=
  BitVec.ofNat 32 (d.em 0x20 1 % 16 + 2 ^ 4 * (d.em 0x21 1 % 128) + 2 ^ 11 * (d.em 0x22 1 % 32) + 2 ^ 16 * (d.arb % 512))

/-! ### Masked requesters (R485, R489, R491) -/

/-- Whether a clock domain is powered down or in reset. -/
def Dev.domainOff (d : Dev) (i : Nat) : Bool := !bit (d.rd64 (aCk + rCkDomainOn)) i || bit (d.rd64 (aCk + rCkDomainRst)) i

/-- Whether a core's own requests are masked: its domain, a snuffed core, an idle spare, or a spare under test. -/
def Dev.coreMasked (d : Dev) (r k : Nat) : Bool :=
  d.domainOff (3 * r) || d.snuffed r k || bit (d.rd64 (aRn r + rRnSpare)) k || (d.region r).substs.any fun s => s.spare == k

/-- Whether requester `q` of the region arbiter `o` (its offset) is masked. -/
def Dev.regionMasked (d : Dev) (r o q : Nat) : Bool :=
  let store := d.domainOff (3 * r + 1)
  if q < 8 then d.domainOff (3 * r + 2)
  else if o = 0 then if q = 10 then d.domainOff 32 else store
  else if o = 0x400 then if q = 9 then d.domainOff 32 else store
  else if q = 8 then d.domainOff (3 * r) else store

/-- Whether requester `q` of link direction `x` of the hub is masked. -/
def Dev.hubMasked (d : Dev) (x q : Nat) : Bool :=
  if x = 3 || x = 5 then d.domainOff 35 else d.domainOff (3 * (q + if x = 1 || x = 4 then 4 else 0) + 1)

/-- Whether requester `q` of the staging port of a core is masked. -/
def Dev.stagingMasked (d : Dev) (r k q : Nat) : Bool :=
  if q < 8 then d.domainOff (3 * r + 2)
  else if q = 8 then (upto 8).all fun n => n == r || d.domainOff (3 * n + 2)
  else d.coreMasked r k

/-! ### Pending requests (R489, R491) -/

/-- The store accesses that wait in the store queue of a core. -/
def Dev.coreStores (d : Dev) (r k : Nat) : List Nat := (d.core r k).storeQ.filterMap fun e => e.cells.head?.map fun p => p.1
/-- The transfers of the contexts of a core. -/
def Core.xfers (c : Core) : List Xfer := c.slots.flatMap fun o => match o with | some x => x.xfers | none => []
/-- Whether a core's row transfers wait. -/
def Dev.coreRows (d : Dev) (r k : Nat) : Bool := (d.core r k).xfers.any fun x => decide (x.kind ≤ 1)
/-- The addresses that the store engine of a region still has to write. -/
def Dev.engineOut (d : Dev) (r : Nat) : List Nat :=
  (upto 40).flatMap fun k => ((d.core r k).xfers.filter fun x => decide (2 ≤ x.kind)).map fun x => x.addr
/-- The addresses of the remote writes that wait, of a host or of the twin. -/
def Dev.hubWrites (d : Dev) (twin : Bool) : List Nat := (d.net.writes.filter fun w => !w.done && w.twin == twin).map fun w => w.addr
/-- How far a region lies from another: 0 the same, 1 the same die, 2 the other die. -/
def regionDist (r n : Nat) : Nat := if n = r then 0 else if n / 4 = r / 4 then 1 else 2
/-- The stores of the cores of a region to stores at a distance. -/
def Dev.regionOut (d : Dev) (r dist : Nat) : List Nat :=
  ((upto 40).flatMap fun k => d.coreStores r k).filter fun a => regionDist r (regionOf a) == dist

/-- Whether requester `q` of the region arbiter `o` has a request pending. A request is pending from the command that makes it to the one that performs
it; a channel's transfer, a load and a grant begin and end within one command (log 18). -/
def Dev.regionAsks (d : Dev) (r o q : Nat) : Bool :=
  let hub := d.hubWrites false ++ d.hubWrites true
  let from_ (dist : Nat) : Bool := ((upto 8).filter fun n => regionDist r n == dist).any fun n => (d.regionOut n dist ++ d.engineOut n).any fun a => inStore a && regionOf a == r
  if o = 0 then
    match q with
    | 8 => (d.engineOut r).any fun a => regionOf a == r
    | 9 => from_ 1
    | 10 => from_ 2 || hub.any fun a => inStore a && regionOf a == r
    | 11 => (d.region r).queues.any fun p => !p.2.isEmpty
    | _ => false
  else if o = 0x400 then q == 9 && hub.any fun a => inPile a && regionOf a == r
  else
    let dist := if o = 0x800 then 1 else 2
    (q == 8 && !(d.regionOut r dist).isEmpty) || (q == 9 && (d.engineOut r).any fun a => regionDist r (regionOf a) == dist)

/-- Whether requester `q` of link direction `x` of the hub has a request pending: stores between the dies, and the writes of the MBT and Tether engines. -/
def Dev.hubAsks (d : Dev) (x q : Nat) : Bool :=
  match x with
  | 0 => !(d.regionOut q 2).isEmpty
  | 1 => !(d.regionOut (4 + q) 2).isEmpty
  | 3 | 5 => decide (q < 2) && (d.hubWrites (q == 1)).any fun a => regionOf a / 4 == (x - 3) / 2
  | _ => false

/-- AR_REQ_r from its masked and requesting bits. -/
def arReq (masked asks : Bool) : W32 := BitVec.ofNat 32 (masked.toNat + 2 * (asks && !masked).toNat)

/-! ### The live word -/

/-- A word of a hub block. -/
def Dev.viewHub (d : Dev) (a : Nat) : W32 :=
  let o := a % 0x10000
  match a / 0x10000 with
  | 0 => if o = rDvState then d.viewDevice else if o = rDvMarkState then BitVec.ofNat 32 d.obs.marks.length else d.rd a
  | 2 => if o = rLlState then d.viewLamp else if o = rLlActive then BitVec.ofNat 32 d.tasks.length else d.rd a
  | 3 =>
    if o = rMtState then BitVec.ofNat 32 (d.net.sessions.filter fun p => p.2.state == 2).length
    else if rMtSdState ≤ o && o < rMtSdAddr + 16 then d.viewSession ((o - rMtSdState) / 4)
    else d.rd a
  | 4 => if o = rEtRqLevel then BitVec.ofNat 32 (d.rqLevel 0) else d.rd a
  | 5 => if o = rEtRqLevel then BitVec.ofNat 32 (d.rqLevel 1) else d.rd a
  | 7 =>
    if o = rScCounts then d.viewCounts
    else if rScCert ≤ o && o < rScCert + 4096 && d.rd (aSc + rScCertLen) ≠ 0 then
      BitVec.ofNat 32 (leNat (bytesAt Config.certificate) (o - rScCert) 4)
    else d.rd a
  | 8 =>
    if o = rEmSeq || o = rEmSeq + 4 then halfOf (d.em 0x10 8) (o != rEmSeq)
    else if rEmImage ≤ o && o < rEmImage + 8192 then BitVec.ofNat 32 (leNat (emberShown d.ember.store) (o - rEmImage) 4)
    else d.rd a
  | 9 => if o = rCkDt || o = rCkDt + 4 then halfOf d.dt.toNat (o != rCkDt) else d.rd a
  | 10 => if o = rPwState then d.viewPower else if o = rPwPin then d.viewPins else d.rd a
  | 12 => if 0x20 ≤ o % 0x200 && o % 0x20 == 0x18 then arReq (d.hubMasked (o / 0x200) ((o % 0x200 - 0x20) / 32)) (d.hubAsks (o / 0x200) ((o % 0x200 - 0x20) / 32)) else d.rd a
  | _ => d.rd a

/-- A word of a core's block, at offset `c`. -/
def Dev.viewCore (d : Dev) (r k c a : Nat) : W32 :=
  if c = rCoActive then d.viewActive r k
  else if rCoSlot ≤ c && c < rCoSlot + 96 then halfOf (d.viewSlot r k ((c - rCoSlot) / 8)) (c % 8 != 0)
  else if rCoIpage ≤ c && c < rCoIpage + 64 then d.viewIPage r k ((c - rCoIpage) / 4)
  else if 0x3000 ≤ c && c < 0x3040 && c % 0x20 == 0x18 then arReq (d.coreMasked r k) (if c < 0x3020 then !(d.coreStores r k).isEmpty else d.coreRows r k)
  else if 0x3120 ≤ c && c % 0x20 == 0x18 then arReq (d.stagingMasked r k ((c - 0x3120) / 32)) ((c - 0x3120) / 32 == 9 && d.coreRows r k)
  else d.rd a

/-- A word of a region's blocks. -/
def Dev.viewRegion (d : Dev) (a : Nat) : W32 :=
  let r := (a - 0x10000000) / 0x1000000
  let o := a % 0x1000000
  if 0x10000 ≤ o && o < 0x18000 && o % 0x1000 < 8 then halfOf (d.viewChannel (8 * r + (o - 0x10000) / 0x1000)) (o % 8 != 0)
  else if 0x50000 ≤ o && o < 0x51000 && 0x20 ≤ o % 0x400 && o % 0x20 == 0x18 then
    arReq (d.regionMasked r (o % 0x1000 / 0x400 * 0x400) ((o % 0x400 - 0x20) / 32)) (d.regionAsks r (o % 0x1000 / 0x400 * 0x400) ((o % 0x400 - 0x20) / 32))
  else if 0x100000 ≤ o then d.viewCore r ((o - 0x100000) / 0x4000) ((o - 0x100000) % 0x4000) a
  else d.rd a

/-- The live word at an address that a block's map names: an ER_STATE shows its valid entries (R458). -/
def Dev.liveWord (d : Dev) (a : Nat) : W32 :=
  match recordAt a with
  | some n => BitVec.ofNat 32 (setField (d.rd a).toNat 16 8 ((upto n).filter fun i => d.erValid a i).length)
  | none => if a < 0xD0000 then d.viewHub a else if 0x10000000 ≤ a && a < 0x18000000 then d.viewRegion a else d.rd a

/-- The word that a read returns at an address, the shadow window apart: a WO field reads 0 (R15), and so does a reserved address (R18). -/
def Dev.readWord (d : Dev) (a : Nat) : W32 :=
  match wordAt a with
  | none => 0
  | some w => d.liveWord a &&& ~~~ BitVec.ofNat 32 w.wo

/-- Whether the word at an address has a shadow: a register of access RO or W1C (R493). -/
def shadowed (a : Nat) : Bool :=
  match wordAt a with
  | none => false
  | some w => w.rw == 0 && (w.w1c != 0 || w.wo == 0)

/-- DV_SHADOW_WIN_i (R495). -/
def Dev.shadowWord (d : Dev) (i : Nat) : W32 :=
  let a := ((d.rd (aDv + rDvShadowBase)).toNat / 4 * 4 + 4 * i) % 2 ^ 32
  match d.shadow with
  | none => 0
  | some p =>
    if aDv + rDvShadowWin ≤ a && a < aDv + rDvShadowWin + 1024 then nth d.shadowWin ((a - rDvShadowWin) / 4) 0
    else if shadowed a then Dev.readWord { toPlant := p } a else 0

/-- The word that a read returns at an address. -/
def Dev.regView (d : Dev) (a : Nat) : W32 :=
  if aDv + rDvShadowWin ≤ a && a < aDv + rDvShadowWin + 1024 then d.shadowWord ((a - rDvShadowWin) / 4) else d.readWord a

end Sys2Proof.Machine
end

