-- ==== Sys2Proof/Machine/Regs.lean ====
section
/-! DEFINITION. Reads and writes of control-space registers by their requesters (R13 to R18, R49 to R51, R402, R419, R420, R468, R517, R518),
and the requests for a mark (R494). -/

namespace Sys2Proof.Machine

/-! ### Who reaches what -/

/-- Whether a register is reserved for the management bus (R530). -/
def busOnly (a : Nat) : Bool :=
  let o := a - aSc
  (decide (aSc ≤ a) && decide (a < aEm) &&
    (o == rScArbCmd || o == rScOwnerCommit || o == rScDbgCmd || (decide (rScOwnerStage ≤ o) && decide (o < rScOwnerStage + 64)) ||
      (decide (rScSig ≤ o) && decide (o < rScSig + 512)) || (decide (rScKey ≤ o) && decide (o < rScKey + 516)))) || a == aEm + rEmSmbAddr

/-- Whether a register is one of R402: the SA registers and ET_SCI of a port. -/
def macsecReg (a : Nat) : Bool :=
  let o := a % 0x10000
  (a / 0x10000 == 4 || a / 0x10000 == 5) && (o == rEtSci || o == rEtSci + 4 || (decide (rEtSaCtl ≤ o) && decide (o < rEtSaCtl + 512)))

/-- Whether a register is one of R431. -/
def pairReg (a : Nat) : Bool := decide (aTt + rTtPair ≤ a) && decide (a ≤ aTt + rTtPairCommit)

/-- Whether a write of `v` is closed to a requester: registers of the bus, and those of R402 and R431 to an unprotected requester. -/
def Dev.writeClosed (d : Dev) (who : Requester) (a : Nat) (v : W32) : Bool :=
  (busOnly a && !isBus who) || (macsecReg a && !portSecured (a / 0x10000 - 4) who) || (pairReg a && !anySecured who) ||
  ((a == aEt 0 + rEtMode || a == aEt 1 + rEtMode) && !portSecured (a / 0x10000 - 4) who && v.getLsbD 2 != d.flag a 2)

/-- An access to an address in no block is counted (R49, R50). -/
def Dev.countUnmapped (d : Dev) (a : Nat) : Dev :=
  if (blockOf a).isSome then d else (d.inc64 (aHb + rHbUnmapped) 1).wr (aHb + rHbUnmappedLast) (BitVec.ofNat 32 a)

/-! ### Requests for a mark (R494) -/

/-- The first tick at least 2,000 ns after a request. -/
def nextTick (dt : Nat) : Nat := (dt + 2999) / 1000 * 1000

/-- Put a request among the pending ticks, in order; requests for the same tick share it. -/
def putMark (t : W64) (who : List (Nat × W32)) : List MarkReq → List MarkReq
  | [] => [{ tick := t, asked := who }]
  | m :: ms =>
    if m.tick = t then { m with asked := m.asked ++ who } :: ms
    else if t.toNat < m.tick.toNat then { tick := t, asked := who } :: m :: ms
    else m :: putMark t who ms

/-- The tick that a request accepted at `at_` asks for: 0, or a tick less than 2,000 ns away, is the next. -/
def markFor (at_ want : W64) : W64 := if want.toNat < at_.toNat + 2000 then BitVec.ofNat 64 (nextTick at_.toNat) else want

/-- Request a mark at a tick: at most 16 ticks are pending, and a further request waits. -/
def Dev.askMark (d : Dev) (at_ want : W64) (who : Option (Nat × W32)) : Dev :=
  let t := markFor at_ want
  if (d.obs.marks.any fun m => m.tick == t) || decide (d.obs.marks.length < 16) then
    { d with obs := { d.obs with marks := putMark t who.toList d.obs.marks } }
  else { d with obs := { d.obs with waiting := d.obs.waiting ++ [(want, who)] } }

/-- DV_MARK_CMD_REQUEST. -/
def execDvMarkCmdRequest (who : Requester) (s : State) : Out := event (fun d => d.asked who (aDv + rDvMarkCmd) fun d => d.askMark d.dt 0 none) s

/-! ### Reads -/

/-- The words of the telemetry record (R496). -/
def teleWords : List Nat := [rDvTeleSeq, rDvTeleAt, rDvTeleAt + 4, rDvTelePower, rDvTeleParts, rDvTeleTemp]

/-- A word as a requester sees it but for its latch: its telemetry copy (R496), or the word itself. -/
def Dev.sourceFor (d : Dev) (who : Requester) (a : Nat) : W32 :=
  match (d.holding who).telemetry with
  | none => d.regView a
  | some ws => match (teleWords.zip ws).find? fun p => p.1 == a with
    | some p => if a = rDvTeleSeq then d.regView a else p.2
    | none => d.regView a

/-- What a requester reads at an address: the high word that it latched (R14), or the word. -/
def Dev.readFor (d : Dev) (who : Requester) (a : Nat) : W32 :=
  match (d.holding who).latch with
  | some (r, v) => if r + 4 = a then v else d.sourceFor who a
  | none => d.sourceFor who a

/-- Whether the word at an address is the low word of a 64-bit register: 1; the high word: 2 (R14). -/
def halfAt (a : Nat) : Nat := match wordAt a with | some w => w.half | none => 0

/-- A read of a control-space register by a requester: the value, and what the read latches (R13, R14, R49, R496). -/
def Dev.regRead (d : Dev) (who : Requester) (a : Nat) : W32 × Dev :=
  if a % 4 ≠ 0 || !d.reaches who a then (0, d)
  else
    let v := d.readFor who a
    let d := d.countUnmapped a
    let d := if a = rDvTeleSeq then d.modHolding who fun h => { h with telemetry := some (teleWords.map d.regView) } else d
    if halfAt a = 1 then
      let h := d.sourceFor who (a + 4)
      (v, d.modHolding who fun x => { x with latch := some (a, h) })
    else (v, d)

/-- REG_LOW_READ (R14): `addr` is that of the low word of a 64-bit register. -/
def execRegLowRead (who : Requester) (addr : W32) (s : State) : Out :=
  event (fun d => if halfAt addr.toNat = 1 then (d.regRead who addr.toNat).2 else d) s

/-- DV_TELE_SEQ_READ (R496). -/
def execDvTeleSeqRead (who : Requester) (s : State) : Out := event (fun d => (d.regRead who rDvTeleSeq).2) s

/-! ### Writes of a word by its access type (R15, R18) -/

/-- A write of the word at an address by the access types of its fields; a reserved field or address takes nothing. -/
def Dev.putWord (d : Dev) (a : Nat) (v : W32) : Dev :=
  match wordAt a with
  | none => d
  | some w =>
    let set : W32 := BitVec.ofNat 32 (w.rw ||| w.wo)
    d.wr a (((d.rd a &&& ~~~set) ||| (v &&& set)) &&& ~~~(v &&& BitVec.ofNat 32 w.w1c))

/-- A write whose bit 0 starts an action. -/
def Dev.onBit0 (d : Dev) (v : W32) (f : Dev → Dev) : Dev := if v.getLsbD 0 then f d else d

/-- A write of ET_RQ_CFG (R427): watermarks out of order are ignored. -/
def Dev.rqCfgWrite (d : Dev) (a : Nat) (v : W32) : Dev :=
  let high := field v.toNat 6 0
  let low := field v.toNat 14 8
  if 2 ≤ high && 1 ≤ low && low < high then d.putWord a v else d

/-- A write of ET_PFC (R427): one with more than four classes is ignored. -/
def Dev.pfcWrite (d : Dev) (a : Nat) (v : W32) : Dev := if 4 < popcount 8 v.toNat then d else d.putWord a v

/-- A write of ET_PTP_CFG (R427): transport 3 leaves its field. A change of the settings begins the port's choice of a master anew. -/
def Dev.ptpCfgWrite (d : Dev) (a : Nat) (v : W32) : Dev :=
  let old := d.rd a
  let d := if field v.toNat 2 1 = 3 then d.putWord a (BitVec.ofNat 32 (setField v.toNat 2 1 (d.fld a 2 1))) else d.putWord a v
  if d.rd a = old then d else d.modPort (if a < aEt 1 then 0 else 1) fun q => { q with ptp := {} }

/-- A write of MT_CFG (R428): a max_body outside 4 to 128 leaves its field. -/
def Dev.mtCfgWrite (d : Dev) (v : W32) : Dev :=
  let a := aMt + rMtCfg
  let m := field v.toNat 23 16
  if 4 ≤ m && m ≤ 128 then d.putWord a v else d.putWord a (BitVec.ofNat 32 (setField v.toNat 23 16 (d.fld a 23 16)))

/-- Whether the base and length of pile window `k` lie as R428 asks of an enabled one. -/
def Dev.pwinOk (d : Dev) (k : Nat) : Bool :=
  let base := d.rd64 (aMt + rMtPwinBase + 32 * k)
  let len := d.rd64 (aMt + rMtPwinLen + 32 * k)
  base % 64 == 0 && len % 64 == 0 && decide (64 ≤ len) && inPile base && inOnePile base len

/-- A write of MT_PWIN_CTL_k (R428). -/
def Dev.pwinCtl (d : Dev) (k : Nat) (v : W32) : Dev :=
  if v.getLsbD 0 && !d.pwinOk k then d else d.putWord (aMt + rMtPwinCtl + 32 * k) v

/-- MT_PWIN_CTL_WRITE. -/
def execMtPwinCtlWrite (who : Requester) (window : Fin 16) (value : W32) (s : State) : Out :=
  event (fun d => d.asked who (aMt + rMtPwinCtl + 32 * window) fun d => d.pwinCtl window value) s

/-- A write of TT_CFG (R455): a compare_ns below 1,000 is ignored. -/
def Dev.ttCfgWrite (d : Dev) (v : W32) : Dev := if field v.toNat 15 0 < 1000 then d else d.putWord (aTt + rTtCfg) v

/-- A write of TP_CFG (R482): a target of 0 or a period of 0 leaves its field, and a floor that is not below the target its own. -/
def Dev.tpCfgWrite (d : Dev) (r : Nat) (v : W32) : Dev :=
  let a := aTp r + rTpCfg
  let target := if field v.toNat 7 0 = 0 then d.fld a 7 0 else field v.toNat 7 0
  let floor := field v.toNat 15 8
  let period := if field v.toNat 23 16 = 0 then d.fld a 23 16 else field v.toNat 23 16
  if floor < target then d.wr a (BitVec.ofNat 32 (target + floor * 2 ^ 8 + period * 2 ^ 16)) else d

/-- A write of PW_PIN_STICKY (R515): throttle_stuck is cleared only while the pin is high, and its throttle then ends. -/
def Dev.pinStickyWrite (d : Dev) (v : W32) : Dev :=
  let a := aPw + rPwPinSticky
  if v.getLsbD 0 && d.flag a 0 then
    if d.power.throttle.high then (d.putWord a v).setThrottled false else d.putWord a (v &&& ~~~1)
  else d.putWord a v

/-- A wake that meets no failure: what a register write of PW_CMD.wake stands for. -/
def plainWake : WakeEnv := { recalibrated := [], failed := [], badCores := [], slow := false }

/-- A write of PW_CMD (R502, R503): a wake is asked for over the management bus only. -/
def Dev.pwCmdWrite (d : Dev) (who : Requester) (v : W32) : Dev :=
  let d := if v.getLsbD 0 then d.askPilot else d
  if v.getLsbD 1 && isBus who then d.askWake plainWake else d

/-! ### Writes of 32-bit registers -/

/-- A write in a port's block. -/
def Dev.writePort (d : Dev) (who : Requester) (p a : Nat) (v : W32) : Dev :=
  let o := a % 0x10000
  if o = rEtMode then d.etModeWrite p v.toNat (portSecured p who)
  else if o = rEtClear then d.onBit0 v fun d => d.portClear p
  else if o = rEtRqCfg then d.rqCfgWrite a v
  else if o = rEtPfc then d.pfcWrite a v
  else if o = rEtPtpCfg then d.ptpCfgWrite a v
  else d.putWord a v

/-- A write in the MT_ block. -/
def Dev.writeMbt (d : Dev) (a : Nat) (v : W32) : Dev :=
  let o := a % 0x10000
  if o = rMtCfg then d.mtCfgWrite v
  else if o = rMtCmd then d.mtCmd v.toNat
  else if o = rMtClear then d.onBit0 v Dev.mbtClear
  else if rMtPwinCtl ≤ o && o < rMtPwinCtl + 512 && o % 32 == rMtPwinCtl % 32 then d.pwinCtl ((o - rMtPwinCtl) / 32) v
  else d.putWord a v

/-- A write in the TT_ block. -/
def Dev.writeTether (d : Dev) (a : Nat) (v : W32) : Dev :=
  let o := a % 0x10000
  if o = rTtCfg then d.ttCfgWrite v
  else if o = rTtCmd then d.ttCmd v.toNat
  else if o = rTtClear then d.onBit0 v Dev.tetherClear
  else if o = rTtPairCommit then d.szBit a v Dev.pairCommit
  else d.putWord a v

/-- A write in the SC_ block. -/
def Dev.writeSec (d : Dev) (a : Nat) (v : W32) : Dev :=
  let o := a % 0x10000
  if o = rScCmd then d.scCmd v.toNat
  else if o = rScArbCmd then d.szBit a v Dev.arbAdvance
  else if o = rScOwnerCommit then d.szBit a v Dev.ownerCommit
  else if o = rScDbgCmd then d.szBit a v Dev.dbgUnlock
  else d.putWord a v

/-- A write in the PW_ block. -/
def Dev.writePower (d : Dev) (who : Requester) (a : Nat) (v : W32) : Dev :=
  let o := a % 0x10000
  if o = rPwCmd then d.pwCmdWrite who v
  else if o = rPwPinSticky then d.pinStickyWrite v
  else if o = rPwThrottle then d.throttleWrite v.toNat
  else d.putWord a v

/-- A write of CK_TIME_CFG (R521). -/
def Dev.timeCfgWrite (d : Dev) (v : W32) : Dev := (d.putBit (aCk + rCkTimeCfg) 1 (v.getLsbD 1)).freeRunWrite (v.getLsbD 0)

/-- A write of an ER_STATE (R458). -/
def Dev.erStateWrite (d : Dev) (a : Nat) (v : W32) : Dev := (d.putWord a (v &&& ~~~8)).onBit0 (v >>> 3) fun d => d.erClear a

/-- A write in a hub block. -/
def Dev.writeHub (d : Dev) (who : Requester) (a : Nat) (v : W32) : Dev :=
  let o := a % 0x10000
  match a / 0x10000 with
  | 0 => if o = rDvMarkCmd then d.onBit0 v fun d => d.askMark d.dt 0 none else d.putWord a v
  | 1 =>
    if o = rHbUnmappedClear then d.onBit0 v Dev.hbClear
    else if o = rHbFlkCtl then d.onBit0 v Dev.flkCommit
    else d.putWord a v
  | 2 =>
    if o = rLlRegCmd then d.regCmd v.toNat
    else if o = rLlClear then d.onBit0 v Dev.lampClear
    else d.putWord a v
  | 3 => d.writeMbt a v
  | 4 => d.writePort who 0 a v
  | 5 => d.writePort who 1 a v
  | 6 => d.writeTether a v
  | 7 => d.writeSec a v
  | 8 =>
    if o = rEmCmd then d.onBit0 v Dev.saveNet
    else if o = rEmSmbAddr then d.smbAddrWrite v.toNat
    else d.putWord a v
  | 9 => if o = rCkTimeCfg then d.timeCfgWrite v else d.putWord a v
  | 10 => d.writePower who a v
  | _ => d.putWord a v

/-- A write in a region's store block (R252, R257, R262). -/
def Dev.writeStore (d : Dev) (r a : Nat) (v : W32) : Dev :=
  let o := a % 0x10000
  if o = rRnStClear then d.onBit0 v fun d => d.storeClear r
  else if o = rRnBgOffHi then d.bgHiWrite r (v.toNat % 256)
  else if rRnCoilCfg ≤ o && o < rRnHitchDesc && o % 32 == rRnCoilCfg % 32 then
    if o < rRnCoilCfg + 32 * 512 then d.coilCfgWrite r ((o - rRnCoilCfg) / 32) v.toNat else d
  else if rRnHitchDesc ≤ o && o < rRnHitchDesc + 64 * 256 then
    let k := (o - rRnHitchDesc) / 64
    if o % 64 = rRnHitchCmd % 64 then d.hitchCmd r k v.toNat
    else if d.winOpen r k then d
    else d.putWord a v
  else d.putWord a v

/-- A write in a core's block. -/
def Dev.writeCore (d : Dev) (r k a : Nat) (v : W32) : Dev :=
  let o := (a - aCo r k) % 0x4000
  if o = rCoArithClear then d.onBit0 v fun d => d.arithClear r k
  else if o = rCoSpClear then d.onBit0 v fun d => d.coreSpClear r k
  else if o = rCoPlClear then d.onBit0 v fun d => d.plaitClear r k
  else if o = rCoPfClear then d.onBit0 v fun d => d.perfClear r k
  else d.putWord a v

/-- A write in a region's blocks. -/
def Dev.writeRegion (d : Dev) (a : Nat) (v : W32) : Dev :=
  let r := (a - 0x10000000) / 0x1000000
  let o := a % 0x1000000
  if o = rRnSpClear then d.onBit0 v fun d => d.regionSpClear r
  else if o = rRnBcClear then d.onBit0 v fun d => d.beaconClear r
  else if o < 0x10000 then d.putWord a v
  else if o < 0x20000 then
    if o % 0x1000 = rStClear then d.onBit0 v fun d => d.streamClear r ((o - 0x10000) / 0x1000) else d.putWord a v
  else if o < 0x30000 then d.writeStore r a v
  else if o < 0x40000 then
    if o = 0x30000 + rTpCfg then d.tpCfgWrite r v
    else if o = 0x30000 + rTpCmd then d.onBit0 v fun d => d.taperStart r
    else d.putWord a v
  else if o < 0x100000 then d.putWord a v
  else d.writeCore r ((o - 0x100000) / 0x4000) a v

/-- A write in a pile's blocks (R315, R324). -/
def Dev.writePile (d : Dev) (a : Nat) (v : W32) : Dev :=
  let n := (a - 0x20000000) / 0x100000
  let o := a % 0x100000
  if o = rPlClear then d.onBit0 v fun d => d.pileClear n
  else if o = rPlNmoOp then d.nmoOp n (v.toNat % 8)
  else d.putWord a v

/-- The effect of a write of a 32-bit register that its requester may write. -/
def Dev.write32 (d : Dev) (who : Requester) (a : Nat) (v : W32) : Dev :=
  if (recordAt a).isSome then d.erStateWrite a v
  else if (arbiterAt a).isSome then d.burstWrite a (v.toNat % 256)
  else if !(arClearWords a).isEmpty then d.onBit0 v fun d => d.clearWords (arClearWords a)
  else if a < 0xD0000 then d.writeHub who a v
  else if a < 0x18000000 then d.writeRegion a v
  else d.writePile a v

/-! ### Writes of 64-bit registers (R14) -/

/-- Both halves of a 64-bit register by their access types. -/
def Dev.putBoth (d : Dev) (a : Nat) (v : Nat) : Dev := (d.putWord a (halfOf v false)).putWord (a + 4) (halfOf v true)

/-- The effect of a write of the 64-bit register at an address. -/
def Dev.write64 (d : Dev) (who : Requester) (a v : Nat) : Dev :=
  let o := a % 0x10000
  if a = aCk + rCkDtSet then (d.putBoth a v).dtSetWrite who (BitVec.ofNat 64 v)
  else if aMt + rMtPwinBase ≤ a && a < aMt + rMtPwinBase + 512 then
    if d.flag (aMt + rMtPwinCtl + (o - rMtPwinBase) / 32 * 32) 0 then d else d.putBoth a v
  else if 0x10000000 ≤ a && a < 0x18000000 && a / 0x10000 % 0x100 == 2 && o == rRnBgOffLo then d.bgLoWrite ((a - 0x10000000) / 0x1000000) v
  else if 0x10000000 ≤ a && a < 0x18000000 && a / 0x10000 % 0x100 == 2 && rRnCoilBase ≤ o && o < rRnCoilBase + 32 * 512 && o % 32 == 0 then
    d.coilBaseWrite ((a - 0x10000000) / 0x1000000) ((o - rRnCoilBase) / 32) v
  else if 0x20000000 ≤ a && a / 0x10000 % 0x10 == 0 && 0x108 ≤ o && o < 0x138 then
    d.nmoWrite ((a - 0x20000000) / 0x100000) fun d => d.putBoth a v
  else d.putBoth a v

/-! ### A write by a requester (R13, R14, R18, R49, R51, R468) -/

/-- A write in a locked block: only the W1C bits of error records are taken (R51, R468). -/
def Dev.lockedWrite (d : Dev) (a : Nat) (v : W32) : Dev :=
  match wordAt a with
  | some w => if w.rw = 0 && w.w1c ≠ 0 && ((a % 0x1000000) / 0x10000 = 4 || (decide (0x100000 ≤ a % 0x1000000) && decide (0x1000 ≤ a % 0x4000) &&
      decide (a % 0x4000 < 0x3000))) then d.wr a (d.rd a &&& ~~~(v &&& BitVec.ofNat 32 w.w1c)) else d
  | none => d

/-- A 32-bit write of a requester at an address: the low word of a 64-bit register is held, and the high word applies it. -/
def Dev.regWrite (d : Dev) (who : Requester) (a : Nat) (v : W32) : Dev :=
  if a % 4 ≠ 0 || !d.reaches who a || d.writeClosed who a v then d
  else
    let d := d.countUnmapped a
    if d.locked a then d.lockedWrite a v
    else match halfAt a with
      | 1 => d.modHolding who fun h => { h with low := some (a, v) }
      | 2 => (d.write64 who (a - 4) ((d.lowFor who (a - 4)).toNat + v.toNat * 2 ^ 32)).endLow who (a - 4)
      | _ => if (wordAt a).isSome then d.write32 who a v else d

/-- REG_LOW_WRITE (R14): `addr` is that of the low word of a 64-bit register. -/
def execRegLowWrite (who : Requester) (addr value : W32) (s : State) : Out :=
  event (fun d => if halfAt addr.toNat = 1 then d.regWrite who addr.toNat value else d) s

/-- REG_HIGH_WRITE (R14): `addr` is that of the high word of a 64-bit register. -/
def execRegHighWrite (who : Requester) (addr value : W32) (s : State) : Out :=
  event (fun d => if halfAt addr.toNat = 2 then d.regWrite who addr.toNat value else d) s

/-- REG_WRITE (R15): a write at any address, by the access type of what it reaches. -/
def execRegWrite (who : Requester) (addr value : W32) (s : State) : Out := event (fun d => d.regWrite who addr.toNat value) s

/-! ### The management bus (R517, R518) -/

/-- SMB_WRITE32. -/
def execSmbWrite32 (addr value : W32) (s : State) : Out := event (fun d => d.regWrite .bus addr.toNat value) s

/-- SMB_SET_ADDR. -/
def execSmbSetAddr (addr : W32) (s : State) : Out :=
  event (fun d => if d.busServed then { d with obs := { d.obs with smbAddr := addr } } else d) s

/-- SMB_READ32: the register at the set address, or CTRL_ALIGN; the address then advances by 4. -/
def Dev.smbRead (d : Dev) : Dev :=
  if d.busServed then
    let a := d.obs.smbAddr
    let (v, d) := d.regRead .bus a.toNat
    { d with obs := { d.obs with smbAnswer := some (v, if a.toNat % 4 = 0 then 0 else 0x6006), smbAddr := a + 4 } }
  else d

/-- SMB_READ32. -/
def execSmbRead32 (s : State) : Out := event Dev.smbRead s

end Sys2Proof.Machine
end

