-- ==== Sys2Proof/Machine/Marks.lean ====
section
/-! DEFINITION. CREAD and CWRITE (R419), marks and their shadows (R493 to R495), and telemetry (R496). -/

namespace Sys2Proof.Machine

/-! ### Control messages (R415, R416, R419) -/

/-- The requester that a message's session is (R420). -/
def InMsg.requester (m : InMsg) : Requester :=
  .session (Fin.ofNat 4096 m.msg.session) (if m.protect then some (Fin.ofNat 2 m.port) else none)

/-- The body of a CREAD or CWRITE response. -/
def ctlBody (st : Status) (n : Nat) (values : List W32) : List Byte := leBytes st.toNat 2 ++ leBytes n 2 ++ leBytes 0 4 ++ values.flatMap fun v => leBytes v.toNat 4

/-- Read `n` registers from an address, until one is closed to the network: the status, the values, and what the reads latch. -/
def Dev.creads (who : Requester) : Nat → Nat → List W32 → Dev → Status × List W32 × Dev
  | 0, _, vs, d => (0, vs, d)
  | n + 1, a, vs, d =>
    if busOnly a then (0x6007, vs, d)
    else
      let r := d.regRead who a
      Dev.creads who n (a + 4) (vs ++ [r.1]) r.2

/-- Write values to registers from an address, until one is closed: the status and how many were written. -/
def Dev.cwrites (who : Requester) : List W32 → Nat → Nat → Dev → Status × Nat × Dev
  | [], _, k, d => (0, k, d)
  | v :: vs, a, k, d => if d.writeClosed who a v then (0x6007, k, d) else Dev.cwrites who vs (a + 4) (k + 1) (d.regWrite who a v)

/-- CREAD. -/
def Dev.creadReceived (m : InMsg) (d : Dev) : Dev :=
  let s := m.msg.session
  let rd := bytesAt m.msg.body
  let a := leNat rd 0 4
  let n := leNat rd 4 2
  let answer (d : Dev) (st : Status) (vs : List W32) : Dev := d.respond s 0x20 m.msg.seq (ctlBody st vs.length vs)
  if m.msg.body.length ≠ 8 || leNat rd 6 2 ≠ 0 then d.reject s m.msg.seq 0x6002
  else if !m.poison.isEmpty then answer d 0x6001 []
  else if a % 4 ≠ 0 || n = 0 || 256 < n || d.maxBody < 8 + 4 * n then answer d 0x6006 []
  else
    let r := Dev.creads m.requester n a [] d
    answer r.2.2 r.1 r.2.1

/-- CWRITE. -/
def Dev.cwriteReceived (m : InMsg) (d : Dev) : Dev :=
  let s := m.msg.session
  let rd := bytesAt m.msg.body
  let a := leNat rd 0 4
  let n := leNat rd 4 2
  let answer (d : Dev) (st : Status) (k : Nat) : Dev := d.respond s 0x21 m.msg.seq (ctlBody st k [])
  if 8 ≤ m.msg.body.length && leNat rd 6 2 ≠ 0 then d.reject s m.msg.seq 0x6002
  else if !m.poison.isEmpty then answer d 0x6001 0
  else if a % 4 ≠ 0 || n = 0 || 256 < n || m.msg.body.length ≠ 8 + 4 * n then answer d 0x6006 0
  else
    let r := Dev.cwrites m.requester ((upto n).map fun i => BitVec.ofNat 32 (leNat rd (8 + 4 * i) 4)) a 0 d
    answer r.2.2 r.1 r.2.1

/-- The body of a MARK response. -/
def markBody (st : Status) (num : W32) (tick : W64) : List Byte := leBytes st.toNat 2 ++ leBytes 0 2 ++ leBytes num.toNat 4 ++ leBytes tick.toNat 8

/-- Whether a MARK asks for a tick that R494 allows: the request is accepted as its last byte arrives. -/
def InMsg.markOk (m : InMsg) : Bool :=
  let t := leNat (bytesAt m.msg.body) 0 8
  m.msg.body.length == 8 && m.poison.isEmpty && t % 1000 == 0 && decide (t ≤ m.arrived.toNat + 1000000000)
/-- The tick that a MARK asks for. -/
def InMsg.markTick (m : InMsg) : W64 := BitVec.ofNat 64 (leNat (bytesAt m.msg.body) 0 8)

/-- MARK (R494). -/
def Dev.markReceived (m : InMsg) (d : Dev) : Dev :=
  let s := m.msg.session
  if m.msg.body.length ≠ 8 then d.reject s m.msg.seq 0x6002
  else if !m.poison.isEmpty then d.respond s 0x30 m.msg.seq (markBody 0x6001 0 0)
  else if !m.markOk then d.respond s 0x30 m.msg.seq (markBody 0x6002 0 0)
  else d.askMark m.arrived m.markTick (some (s, m.msg.seq))

/-- The sessions that await the response of a MARK. -/
def Obs.awaiting (o : Obs) : List Nat :=
  (o.marks.flatMap fun m => m.asked.map fun p => p.1) ++ o.waiting.filterMap fun w => w.2.map fun p => p.1

/-- The effect of a CREAD, CWRITE or MARK. -/
def Dev.ctlMessage (m : InMsg) (d : Dev) : Dev :=
  if m.msg.type = 0x20 then d.creadReceived m else if m.msg.type = 0x21 then d.cwriteReceived m else d.markReceived m

/-- Whether a MARK that follows unanswered MARKs of its session may be requested at once: its answer comes after theirs, by its tick. -/
def Dev.markFollows (d : Dev) (m : InMsg) : Bool :=
  let s := m.msg.session
  m.msg.type == 0x30 && m.markOk && !(d.obs.deferred.any fun x => x.msg.session == s) && !(d.obs.waiting.any fun w => w.2.any fun p => p.1 == s) &&
    d.obs.marks.all fun q => !(q.asked.any fun p => p.1 == s) || decide (q.tick.toNat ≤ (markFor m.arrived m.markTick).toNat)

/-- Control messages complete in sequence order within a session (R416): one that follows an unanswered MARK is put off until its response, but for
a MARK whose answer comes after it by its tick, which may share its latch (R494). -/
def Dev.ctlInTurn (m : InMsg) (d : Dev) : Dev :=
  let s := m.msg.session
  if (d.obs.awaiting.contains s || d.obs.deferred.any fun x => x.msg.session == s) && !d.markFollows m
  then { d with obs := { d.obs with deferred := d.obs.deferred ++ [m] } } else d.ctlMessage m

/-- CREAD. -/
def execCread (s : State) : Out := event (fun d => d.onMessage (fun m => m.type == 0x20 && !m.response) Dev.ctlInTurn) s
/-- CWRITE. -/
def execCwrite (s : State) : Out := event (fun d => d.onMessage (fun m => m.type == 0x21 && !m.response) Dev.ctlInTurn) s
/-- MARK. -/
def execMarkMsg (s : State) : Out := event (fun d => d.onMessage (fun m => m.type == 0x30 && !m.response) Dev.ctlInTurn) s

/-! ### The mark itself (R493 to R495) -/

/-- Latch every shadow; those of the window are what it returned just before. -/
def Dev.latchShadows (d : Dev) : Dev :=
  { d with shadow := some { d.toPlant with mem := [], marks := [] }, shadowWin := (upto 256).map d.shadowWord }

/-- MARK_TICK: the earliest pending tick has come; the MARKs that asked for it are answered, waiting requests take the place that is free, and
the control messages that were put off follow. -/
def Dev.markTick (d : Dev) : Dev :=
  match d.obs.marks with
  | [] => d
  | m :: ms =>
    if d.dt.toNat < m.tick.toNat || !d.hubRuns then d
    else
      let d := d.latchShadows
      let num := d.rd (aDv + rDvMarkNum) + 1
      let d := (d.wr (aDv + rDvMarkNum) num).wr64 (aDv + rDvMarkAt) m.tick.toNat
      let held := d.obs.waiting
      let d := { d with obs := { d.obs with marks := ms, waiting := [] } }
      let d := m.asked.foldl (fun d p => d.respond p.1 0x30 p.2 (markBody 0 num m.tick)) d
      let d := held.foldl (fun d w => d.askMark d.dt w.1 w.2) d
      let late := d.obs.deferred
      late.foldl (fun d x => d.ctlInTurn x) { d with obs := { d.obs with deferred := [] } }

/-- MARK_TICK. -/
def execMarkTick (s : State) : Out := event Dev.markTick s

/-! ### Telemetry (R496) -/

/-- TELEMETRY_UPDATE: at DT multiples of 1,000,000 ns hub firmware rewrites the record. -/
def Dev.telemetry (d : Dev) (r : Readings) : Dev :=
  if d.hubRuns && d.dt.toNat % 1000000 == 0 then
    let hot := (upto 8).foldl (fun x n => max x (d.fld (aPl n + rPlTemp) 7 0)) 0
    let d := (d.wr rDvTeleSeq (d.rd rDvTeleSeq + 1)).wr64 rDvTeleAt d.dt.toNat
    let d := d.wr rDvTelePower (BitVec.ofNat 32 (r.vin.toNat + r.pin.toNat * 2 ^ 16))
    let d := d.wr rDvTeleParts (BitVec.ofNat 32 (r.cd.toNat + r.piles.toNat * 2 ^ 10 + r.hub.toNat * 2 ^ 19))
    d.wr rDvTeleTemp (BitVec.ofNat 32 (r.cd0c.toNat + r.cd1c.toNat * 2 ^ 8 + r.hubc.toNat * 2 ^ 16 + hot * 2 ^ 24))
  else d

/-- TELEMETRY_UPDATE. -/
def execTelemetryUpdate (r : Readings) (s : State) : Out := event (fun d => d.telemetry r) s

end Sys2Proof.Machine
end

