-- ==== Sys2Proof/Machine/Ptp.lean ====
section
/-! DEFINITION. PTP (R403, R509): an ordinary clock in slave-only mode over both ports, with the best master clock algorithm and both delay
mechanisms, and the frames that carry it (R399, R401, R424). IEEE 1588-2019, which R397 names, fixes the formats and the exchanges (log 72). -/

namespace Sys2Proof.Machine

/-- A PTP message. -/
structure PtpMsg where
  type : Nat
  domain : Nat
  twoStep : Bool
  /-- its correction, in ns -/
  corr : Int
  /-- the port identity of its sender -/
  src : Nat
  seq : Nat
  time : Int
  /-- the port identity that a response answers -/
  asker : Nat
  /-- the dataset of an Announce, in the order of its comparison -/
  rank : Nat
  deriving DecidableEq, Repr

/-- Read a PTP message of version 2. -/
def ptpParse (bs : List Byte) : Option PtpMsg :=
  if bs.length < 44 || beNat bs 1 1 % 16 ≠ 2 then none
  else some { type := ptpType bs, domain := beNat bs 4 1, twoStep := bit (beNat bs 6 1) 1, corr := signed 64 (beNat bs 8 8) / 65536, src := beNat bs 20 10,
              seq := beNat bs 30 2, time := ptpTime bs, asker := beNat bs 44 10, rank := beNat bs 47 16 }

/-- The port identity of a port: a clock identity made from the first MAC address of port A, and the port's number. -/
def Dev.ptpId (d : Dev) (p : Nat) : Nat :=
  let m := (d.portMac 0 0).toNat
  (m / 2 ^ 24 * 2 ^ 40 + 0xFFFE * 2 ^ 24 + m % 2 ^ 24) * 2 ^ 16 + p + 1

/-- ET_PTP_CFG.transport: 0 IEEE 802.3, 1 UDP on IPv4, 2 UDP on IPv6. -/
def Dev.ptpTransport (d : Dev) (p : Nat) : Nat := d.fld (aEt p + rEtPtpCfg) 2 1
/-- ET_PTP_CFG.p2p. -/
def Dev.ptpPeer (d : Dev) (p : Nat) : Bool := d.flag (aEt p + rEtPtpCfg) 3
/-- Whether PTP runs on a port (R427). -/
def Dev.ptpRuns (d : Dev) (p : Nat) : Bool := d.portUp p && d.flag (aEt p + rEtPtpCfg) 0 && d.hubRuns
/-- Change the time logic of a port. -/
def Dev.modPtp (d : Dev) (p : Nat) (f : PtpPort → PtpPort) : Dev := d.modPort p fun q => { q with ptp := f q.ptp }

/-- The multicast addresses of PTP on a transport: MAC addresses, and the IP address of a message. -/
def ptpGroups (tr : Nat) : List Nat :=
  match tr with
  | 0 => [0x011B19000000, 0x0180C200000E]
  | 1 => [0x01005E000181, 0x01005E00006B]
  | _ => [0x333300000181, 0x33330000006B]
/-- The IP address to which PTP messages of a transport go; the peer delay messages have their own. -/
def ptpAddr (tr : Nat) (peer : Bool) : Ip :=
  match tr with
  | 0 => 0
  | 1 => mapV4 (if peer then 0xE000006B else 0xE0000181)
  | _ => BitVec.ofNat 128 (if peer then 0xFF02 * 2 ^ 112 + 0x6B else 0xFF0E * 2 ^ 112 + 0x181)

/-- Send a PTP message from a port: a Delay_Req, or a peer delay message, which is 10 bytes longer. -/
def Dev.ptpSend (d : Dev) (p type seq corr : Nat) (time : Int) (asker : Nat) : Dev :=
  let tr := d.ptpTransport p
  let body := ptpTimeBytes time ++ if type = 1 then [] else beBytes asker 10
  let head := beBytes type 1 ++ beBytes 2 1 ++ beBytes (34 + body.length) 2 ++ beBytes (d.fld (aEt p + rEtPtpCfg) 11 4) 1 ++ beBytes 0 1 ++ beBytes 0 2 ++
    beBytes corr 8 ++ beBytes 0 4 ++ beBytes (d.ptpId p) 10 ++ beBytes seq 2 ++ beBytes (if type = 1 then 1 else 5) 1 ++ beBytes 0x7F 1
  d.transmit p (ptpAddr tr (type != 1)) (.ptp tr (head ++ body))

/-- The port whose master is the time source (R403): the better of the masters of both ports. -/
def Dev.timePort (d : Dev) : Option Nat :=
  let m (p : Nat) : Option Nat := if d.ptpRuns p then (d.port p).ptp.master else none
  match m 0, m 1 with
  | some a, some b => some (if a ≤ b then 0 else 1)
  | some _, none => some 0
  | none, some _ => some 1
  | none, none => none

/-- A Sync and the path delay measure the offset of DT from a port's master; that of the chosen source corrects DT. -/
def Dev.ptpMeasure (d : Dev) (p : Nat) : Dev :=
  match (d.port p).ptp.last, (d.port p).ptp.delay with
  | some (t1, t2), some y =>
    let o := t2 - t1 - y
    let d := (d.wr64 (aEt p + rEtPtpOffset) (o % 2 ^ 64).toNat).ptpListen p
    if d.timePort = some p then
      let d := d.ptpOffset o
      (d.setFld (aEt p + rEtState) 5 4 d.timeState).coldLocked
    else d
  | _, _ => d

/-- Ask for the path delay, by the mechanism that ET_PTP_CFG.p2p gives. -/
def Dev.askDelay (d : Dev) (p : Nat) : Dev :=
  let d := d.modPtp p fun q => { q with reqSeq := (q.reqSeq + 1) % 65536, req := none, resp := none }
  d.ptpSend p (if d.ptpPeer p then 2 else 1) (d.port p).ptp.reqSeq 0 0 0

/-- A Sync is complete: its corrected departure and its receive timestamp. -/
def Dev.ptpSynced (d : Dev) (p : Nat) (t1 t2 : Int) : Dev :=
  ((d.modPtp p fun q => { q with sync := none, last := some (t1, t2) }).ptpMeasure p).askDelay p

/-- An Announce: the sender with the lowest dataset is a port's master. -/
def Dev.ptpAnnounced (d : Dev) (p : Nat) (m : PtpMsg) : Dev :=
  let key := m.rank * 2 ^ 80 + m.src
  let takes := match (d.port p).ptp.master with
    | none => true
    | some k => k % 2 ^ 80 == m.src || decide (key < k)
  if takes then (d.modPtp p fun q => if q.master.any fun k => k % 2 ^ 80 == m.src then { q with master := some key } else { master := some key }).ptpListen p
  else d

/-- The time logic takes a message (R403). -/
def Dev.ptpTakes (d : Dev) (p : Nat) (m : PtpMsg) : Dev :=
  let q := (d.port p).ptp
  let fromMaster := q.master.any fun k => k % 2 ^ 80 == m.src
  let mine := m.asker == d.ptpId p && m.seq == q.reqSeq
  match m.type with
  | 0 =>
    if fromMaster then
      let (t2, d) := d.stamp
      if m.twoStep then d.modPtp p fun q => { q with sync := some (m.seq, t2, m.corr) } else d.ptpSynced p (m.time + m.corr) t2
    else d
  | 8 =>
    match q.sync with
    | some (n, t2, c) => if fromMaster && n == m.seq then d.ptpSynced p (m.time + c + m.corr) t2 else d
    | none => d
  | 9 =>
    match q.req, q.last with
    | some t3, some (t1, t2) =>
      if fromMaster && mine && !d.ptpPeer p then
        d.modPtp p fun q => { q with req := none, delay := some ((t2 - t1 + (m.time - m.corr - t3)) / 2) }
      else d
    | _, _ => d
  | 2 =>
    if d.ptpPeer p then
      let (t, d) := d.stamp
      d.ptpSend p 3 m.seq ((m.corr * 65536) % 2 ^ 64).toNat t m.src
    else d
  | 3 =>
    match q.req with
    | some t3 =>
      if mine && d.ptpPeer p then
        let (t4, d) := d.stamp
        if m.twoStep then d.modPtp p fun q => { q with resp := some (m.time, t4 - t3 - m.corr) }
        else d.modPtp p fun q => { q with req := none, delay := some ((t4 - t3 - m.corr) / 2) }
      else d
    | none => d
  | 10 =>
    match q.resp with
    | some (t, w) =>
      if mine && d.ptpPeer p then d.modPtp p fun q => { q with req := none, resp := none, delay := some ((w - (m.time - t) - m.corr) / 2) } else d
    | none => d
  | 11 => d.ptpAnnounced p m
  | _ => d

/-- A PTP message that a port has accepted: the time logic takes it on the transport and in the domain that ET_PTP_CFG gives. -/
def Dev.ptpIn (d : Dev) (p tr : Nat) (bs : List Byte) : Dev :=
  if !d.ptpRuns p || tr != d.ptpTransport p then d
  else match ptpParse bs with
    | none => d
    | some m => if m.domain = d.fld (aEt p + rEtPtpCfg) 11 4 && (m.type ≠ 11 || decide (64 ≤ bs.length)) then d.ptpTakes p m else d

/-- PTP_MESSAGE (R403): a frame with a PTP message, unprotected when ptp_clear admits it (R401). -/
def Dev.ptpMessage (d : Dev) (e : Envelope) (tr : Nat) (bs : List Byte) : Dev :=
  let r := d.frameIn e (ptpGroups tr) true
  if r.1 then r.2.ptpIn e.port tr bs else r.2

/-- PTP_MESSAGE. -/
def execPtpMessage (frame : PtpFrame) (data : List Byte) (s : State) : Out := event (fun d => d.ptpMessage frame.toEnvelope frame.transport data) s

/-- PTP_SOURCE_LOSS (R509): the chosen source has been silent for 3 Sync intervals. -/
def Dev.ptpLost (d : Dev) : Dev :=
  let d := match d.timePort with
    | some p => d.modPtp p fun _ => {}
    | none => d
  (d.modClock fun c => { c with ptp := false }).sourceLost

/-- PTP_SOURCE_LOSS. -/
def execPtpSourceLoss (s : State) : Out := event Dev.ptpLost s

/-- FRAME_RECEIVE (R399, R401, R424): a frame with a UDP datagram. One to a PTP port goes to the time logic. -/
def Dev.frameReceive (d : Dev) (f : Frame) : Dev :=
  if f.dstPort = 319 || f.dstPort = 320 then
    let tr := if ipIsV4 f.dst then 1 else 2
    if f.oddIp || !f.checksumOk || !(d.answersFor f.port f.dst || f.dst == ptpAddr tr false || f.dst == ptpAddr tr true) then
      (d.frameIn f.toEnvelope (ptpGroups tr) true).2
    else d.ptpMessage f.toEnvelope tr f.data
  else d.onFrame f.toEnvelope [] fun d => d.datagramIn f

/-- FRAME_RECEIVE. -/
def execFrameReceive (f : Frame) (s : State) : Out := event (fun d => d.frameReceive f) s

end Sys2Proof.Machine
end

