-- ==== Sys2Proof/Machine/SlotC.lean ====
section
/-! DEFINITION. Slot C: control and scalar operations (R138 to R141). -/

namespace Sys2Proof.Machine

/-- A scalar operation: sd takes `f` of the context's registers, `lat` issue cycles later. -/
def scalarOp (k : Ctx) (sd : Fin 64) (lat : Nat) (f : Context → W64) (s : State) : Out :=
  issueOp 0 k (ctxOp k fun c => c.later 0 lat (.s sd (f c))) s

/-- A scalar operation on two registers. -/
def scalarRR (k : Ctx) (sd sa sb : Fin 64) (lat : Nat) (f : W64 → W64 → W64) (s : State) : Out :=
  scalarOp k sd lat (fun c => f (c.getS sa) (c.getS sb)) s

/-- A scalar operation on a register and an immediate. -/
def scalarRI (k : Ctx) (sd sa : Fin 64) (x : W64) (f : W64 → W64 → W64) (s : State) : Out :=
  scalarOp k sd 4 (fun c => f (c.getS sa) x) s

/-- The value of a comparison: 1 when it holds and 0 otherwise (R139). -/
def truth (b : Bool) : W64 := if b then 1 else 0

/-- Unsigned division; division by zero gives all ones (R117). -/
def divu (a b : W64) : W64 := if b = 0 then 0xFFFFFFFFFFFFFFFF else a / b
/-- Unsigned remainder; division by zero gives the dividend (R117). -/
def remu (a b : W64) : W64 := if b = 0 then a else a % b
/-- The high 64 bits of the unsigned product (R139). -/
def mulhu (a b : W64) : W64 := BitVec.ofNat 64 (a.toNat * b.toNat / 2 ^ 64)
/-- Replace the 16 bits at position `pos` (R139). -/
def movk (x : W64) (pos : Fin 4) (imm : BitVec 16) : W64 :=
  (x &&& ~~~ ((0xFFFF : W64) <<< (16 * pos.val))) ||| (imm.setWidth 64 <<< (16 * pos.val))

/-- A branch taken when a condition on sa holds (R140). -/
def branchIf (k : Ctx) (sa : Fin 64) (cond : W64 → Bool) (target : Fin 16384) (s : State) : Out :=
  issueOp 0 k (ctxOp k fun c => if cond (c.getS sa) then c.branch target else c) s


/-- NOP (R94, R138). The switch-point bit has its effect through the code that the instruction store holds (R110). -/
def execNop (k : Ctx) (_sp : Bool) (s : State) : Out :=
  issueOp 0 k (ctxOp k id) s

/-- ADD (R138, R139): wrapping sum, latency 4. -/
def execAdd (k : Ctx) (sd sa sb : Fin 64) (s : State) : Out :=
  scalarRR k sd sa sb 4 (fun a b => a + b) s

/-- SUB (R138, R139): wrapping difference, latency 4. -/
def execSub (k : Ctx) (sd sa sb : Fin 64) (s : State) : Out :=
  scalarRR k sd sa sb 4 (fun a b => a - b) s

/-- AND (R138, R139): bitwise AND, latency 4. -/
def execAndOp (k : Ctx) (sd sa sb : Fin 64) (s : State) : Out :=
  scalarRR k sd sa sb 4 (fun a b => a &&& b) s

/-- OR (R138, R139): bitwise OR, latency 4. -/
def execOrOp (k : Ctx) (sd sa sb : Fin 64) (s : State) : Out :=
  scalarRR k sd sa sb 4 (fun a b => a ||| b) s

/-- XOR (R138, R139): bitwise XOR, latency 4. -/
def execXorOp (k : Ctx) (sd sa sb : Fin 64) (s : State) : Out :=
  scalarRR k sd sa sb 4 (fun a b => a ^^^ b) s

/-- SHL (R138, R139): shift left by sb[5:0], latency 4. -/
def execShl (k : Ctx) (sd sa sb : Fin 64) (s : State) : Out :=
  scalarRR k sd sa sb 4 (fun a b => a <<< (b.toNat % 64)) s

/-- SHR (R138, R139): logical shift right by sb[5:0], latency 4. -/
def execShr (k : Ctx) (sd sa sb : Fin 64) (s : State) : Out :=
  scalarRR k sd sa sb 4 (fun a b => a >>> (b.toNat % 64)) s

/-- SRA (R138, R139): arithmetic shift right by sb[5:0], latency 4. -/
def execSra (k : Ctx) (sd sa sb : Fin 64) (s : State) : Out :=
  scalarRR k sd sa sb 4 (fun a b => a.sshiftRight (b.toNat % 64)) s

/-- MUL (R138, R139): low 64 bits of the product, latency 6. -/
def execMul (k : Ctx) (sd sa sb : Fin 64) (s : State) : Out :=
  scalarRR k sd sa sb 6 (fun a b => a * b) s

/-- MULHU (R138, R139): high 64 bits of the unsigned product, latency 6. -/
def execMulhu (k : Ctx) (sd sa sb : Fin 64) (s : State) : Out :=
  scalarRR k sd sa sb 6 (fun a b => mulhu a b) s

/-- DIVU (R138, R139): unsigned quotient, latency 24. -/
def execDivu (k : Ctx) (sd sa sb : Fin 64) (s : State) : Out :=
  scalarRR k sd sa sb 24 (fun a b => divu a b) s

/-- REMU (R138, R139): unsigned remainder, latency 24. -/
def execRemu (k : Ctx) (sd sa sb : Fin 64) (s : State) : Out :=
  scalarRR k sd sa sb 24 (fun a b => remu a b) s

/-- MIN (R138, R139): signed minimum, latency 4. -/
def execMinOp (k : Ctx) (sd sa sb : Fin 64) (s : State) : Out :=
  scalarRR k sd sa sb 4 (fun a b => if a.sle b then a else b) s

/-- MAX (R138, R139): signed maximum, latency 4. -/
def execMaxOp (k : Ctx) (sd sa sb : Fin 64) (s : State) : Out :=
  scalarRR k sd sa sb 4 (fun a b => if a.sle b then b else a) s

/-- CMP.EQ (R138, R139): equality, latency 4. -/
def execCmpEq (k : Ctx) (sd sa sb : Fin 64) (s : State) : Out :=
  scalarRR k sd sa sb 4 (fun a b => truth (a == b)) s

/-- CMP.LT (R138, R139): signed less than, latency 4. -/
def execCmpLt (k : Ctx) (sd sa sb : Fin 64) (s : State) : Out :=
  scalarRR k sd sa sb 4 (fun a b => truth (a.slt b)) s

/-- CMP.LTU (R138, R139): unsigned less than, latency 4. -/
def execCmpLtu (k : Ctx) (sd sa sb : Fin 64) (s : State) : Out :=
  scalarRR k sd sa sb 4 (fun a b => truth (a.ult b)) s

/-- ADDI (R138, R139): the immediate is sign-extended. -/
def execAddi (k : Ctx) (sd sa : Fin 64) (imm : BitVec 12) (s : State) : Out :=
  scalarRI k sd sa (imm.signExtend 64) (fun a b => a + b) s

/-- ANDI (R138, R139): the immediate is sign-extended. -/
def execAndi (k : Ctx) (sd sa : Fin 64) (imm : BitVec 12) (s : State) : Out :=
  scalarRI k sd sa (imm.signExtend 64) (fun a b => a &&& b) s

/-- ORI (R138, R139): the immediate is sign-extended. -/
def execOri (k : Ctx) (sd sa : Fin 64) (imm : BitVec 12) (s : State) : Out :=
  scalarRI k sd sa (imm.signExtend 64) (fun a b => a ||| b) s

/-- XORI (R138, R139): the immediate is sign-extended. -/
def execXori (k : Ctx) (sd sa : Fin 64) (imm : BitVec 12) (s : State) : Out :=
  scalarRI k sd sa (imm.signExtend 64) (fun a b => a ^^^ b) s

/-- SHLI (R138, R139). -/
def execShli (k : Ctx) (sd sa : Fin 64) (sh : Fin 64) (s : State) : Out :=
  scalarRI k sd sa (BitVec.ofNat 64 sh.val) (fun a b => a <<< b.toNat) s

/-- SHRI (R138, R139). -/
def execShri (k : Ctx) (sd sa : Fin 64) (sh : Fin 64) (s : State) : Out :=
  scalarRI k sd sa (BitVec.ofNat 64 sh.val) (fun a b => a >>> b.toNat) s

/-- SRAI (R138, R139). -/
def execSrai (k : Ctx) (sd sa : Fin 64) (sh : Fin 64) (s : State) : Out :=
  scalarRI k sd sa (BitVec.ofNat 64 sh.val) (fun a b => a.sshiftRight b.toNat) s

/-- MOVZ (R139). -/
def execMovz (k : Ctx) (sd : Fin 64) (pos : Fin 4) (imm : BitVec 16) (s : State) : Out :=
  scalarOp k sd 4 (fun _ => imm.setWidth 64 <<< (16 * pos.val)) s

/-- MOVK (R139). -/
def execMovk (k : Ctx) (sd : Fin 64) (pos : Fin 4) (imm : BitVec 16) (s : State) : Out :=
  scalarOp k sd 4 (fun c => movk (c.getS sd) pos imm) s

/-- B (R99, R140): the target issues at i + 3. -/
def execB (k : Ctx) (target : Fin 16384) (s : State) : Out :=
  issueOp 0 k (ctxOp k fun c => c.branch target) s

/-- BEQZ (R139, R140). -/
def execBeqz (k : Ctx) (sa : Fin 64) (target : Fin 16384) (s : State) : Out :=
  branchIf k sa (fun a => a == 0) target s

/-- BNEZ (R139, R140). -/
def execBnez (k : Ctx) (sa : Fin 64) (target : Fin 16384) (s : State) : Out :=
  branchIf k sa (fun a => a != 0) target s

/-- BLTZ (R139, R140). -/
def execBltz (k : Ctx) (sa : Fin 64) (target : Fin 16384) (s : State) : Out :=
  branchIf k sa (fun a => a.slt 0) target s

/-- BGEZ (R139, R140). -/
def execBgez (k : Ctx) (sa : Fin 64) (target : Fin 16384) (s : State) : Out :=
  branchIf k sa (fun a => !a.slt 0) target s

/-- CALL (R140): pushes its index + 3; the bundle has been passed, so its index is pc - 1. -/
def execCall (k : Ctx) (target : Fin 16384) (s : State) : Out :=
  issueOp 0 k (ctxOp k fun c => { c.branch target with calls := (c.pc + 2) :: c.calls }) s

/-- RET (R140). The loader refuses an image in which a RET meets an empty call stack (R99). -/
def execRet (k : Ctx) (s : State) : Out :=
  issueOp 0 k (ctxOp k fun c => match c.calls with | [] => c | t :: ts => { c.branch t with calls := ts }) s

/-- LOOP (R140): the body runs from the next bundle to the target; a count of 0 goes on behind it. -/
def Context.startLoop (c : Context) (count : Nat) (target : Nat) : Context :=
  if count = 0 then { c with pc := target + 1 }
  else { c with loops := { start := c.pc, stop := target, left := count } :: c.loops }

/-- LOOP (R140). -/
def execLoop (k : Ctx) (sa : Fin 64) (target : Fin 16384) (s : State) : Out :=
  issueOp 0 k (fun _ d => .ok ((d.modCtx k fun c => c.startLoop (c.getS sa).toNat target).passEnd k)) s

/-- The context constant `num` of R104, zero-extended. -/
def Dev.constant (d : Dev) (k : Ctx) (num : Nat) : W64 :=
  let c := d.ctx k
  let t := (d.task? c.task).getD { id := c.task }
  match num with
  | 0 => c.task.setWidth 64
  | 1 => BitVec.ofNat 64 c.rank
  | 2 => BitVec.ofNat 64 t.cores.length
  | 3 => BitVec.ofNat 64 (nth t.cores c.rank 0)
  | 4 => BitVec.ofNat 64 k.region.val
  | 5 => t.seed.setWidth 64
  | 6 => (t.seed >>> 64).setWidth 64
  | 7 => t.stream.setWidth 64
  | 8 => t.deadline
  | 9 => BitVec.ofNat 64 (t.args % 2 ^ 48)
  | _ => c.restorePc

/-- GETC (R104, R141): num above 10 is undefined (R138). -/
def execGetc (k : Ctx) (sd : Fin 64) (num : Fin 16) (s : State) : Out :=
  encoded (decide (num.val ≤ 10)) (issueOp 0 k (fun _ d => .ok (d.modCtx k fun c => c.later 0 4 (.s sd (d.constant k num)))) s)

/-- STEP.INC (R141). -/
def execStepInc (k : Ctx) (sd : Fin 64) (s : State) : Out :=
  issueOp 0 k (ctxOp k fun c => { c with step := c.step + 1 }.later 0 4 (.s sd (c.step + 1))) s

/-- STEP.RD (R141). -/
def execStepRd (k : Ctx) (sd : Fin 64) (s : State) : Out :=
  scalarOp k sd 4 (fun c => c.step) s

/-- DRAIN (R107): holds after its bundle until the work that R107 lists has completed. -/
def execDrain (k : Ctx) (s : State) : Out :=
  issueOp 0 k (fun _ d => .ok (d.addHold k { why := .drain, kind := 6, slot := 0 })) s

/-- END (R99, R109, R141): the context stops issuing; the other slots of its bundle still execute. -/
def execEndOp (k : Ctx) (s : State) : Out :=
  issueOp 0 k (fun _ d => .ok (d.endCtx k)) s

end Sys2Proof.Machine
end

