-- ==== Sys2Proof/Machine/Dispatch.lean ====
section
/-! DEFINITION. The meaning of each command: one direct call per constructor of Instr. -/

namespace Sys2Proof.Machine

/-- The effect of a command on everything but the queue. -/
def exec (i : Instr) (s : State) : Host.Outcome State Fault Refusal :=
  match i with
  | .nop k sp => Sys2Proof.Machine.execNop k sp s
  | .add k sd sa sb => Sys2Proof.Machine.execAdd k sd sa sb s
  | .sub k sd sa sb => Sys2Proof.Machine.execSub k sd sa sb s
  | .andOp k sd sa sb => Sys2Proof.Machine.execAndOp k sd sa sb s
  | .orOp k sd sa sb => Sys2Proof.Machine.execOrOp k sd sa sb s
  | .xorOp k sd sa sb => Sys2Proof.Machine.execXorOp k sd sa sb s
  | .shl k sd sa sb => Sys2Proof.Machine.execShl k sd sa sb s
  | .shr k sd sa sb => Sys2Proof.Machine.execShr k sd sa sb s
  | .sra k sd sa sb => Sys2Proof.Machine.execSra k sd sa sb s
  | .mul k sd sa sb => Sys2Proof.Machine.execMul k sd sa sb s
  | .mulhu k sd sa sb => Sys2Proof.Machine.execMulhu k sd sa sb s
  | .divu k sd sa sb => Sys2Proof.Machine.execDivu k sd sa sb s
  | .remu k sd sa sb => Sys2Proof.Machine.execRemu k sd sa sb s
  | .minOp k sd sa sb => Sys2Proof.Machine.execMinOp k sd sa sb s
  | .maxOp k sd sa sb => Sys2Proof.Machine.execMaxOp k sd sa sb s
  | .cmpEq k sd sa sb => Sys2Proof.Machine.execCmpEq k sd sa sb s
  | .cmpLt k sd sa sb => Sys2Proof.Machine.execCmpLt k sd sa sb s
  | .cmpLtu k sd sa sb => Sys2Proof.Machine.execCmpLtu k sd sa sb s
  | .addi k sd sa imm => Sys2Proof.Machine.execAddi k sd sa imm s
  | .andi k sd sa imm => Sys2Proof.Machine.execAndi k sd sa imm s
  | .ori k sd sa imm => Sys2Proof.Machine.execOri k sd sa imm s
  | .xori k sd sa imm => Sys2Proof.Machine.execXori k sd sa imm s
  | .shli k sd sa sh => Sys2Proof.Machine.execShli k sd sa sh s
  | .shri k sd sa sh => Sys2Proof.Machine.execShri k sd sa sh s
  | .srai k sd sa sh => Sys2Proof.Machine.execSrai k sd sa sh s
  | .movz k sd pos imm => Sys2Proof.Machine.execMovz k sd pos imm s
  | .movk k sd pos imm => Sys2Proof.Machine.execMovk k sd pos imm s
  | .b k target => Sys2Proof.Machine.execB k target s
  | .beqz k sa target => Sys2Proof.Machine.execBeqz k sa target s
  | .bnez k sa target => Sys2Proof.Machine.execBnez k sa target s
  | .bltz k sa target => Sys2Proof.Machine.execBltz k sa target s
  | .bgez k sa target => Sys2Proof.Machine.execBgez k sa target s
  | .call k target => Sys2Proof.Machine.execCall k target s
  | .ret k => Sys2Proof.Machine.execRet k s
  | .loop k sa target => Sys2Proof.Machine.execLoop k sa target s
  | .getc k sd num => Sys2Proof.Machine.execGetc k sd num s
  | .stepInc k sd => Sys2Proof.Machine.execStepInc k sd s
  | .stepRd k sd => Sys2Proof.Machine.execStepRd k sd s
  | .drain k => Sys2Proof.Machine.execDrain k s
  | .endOp k => Sys2Proof.Machine.execEndOp k s
  | .vnop k => Sys2Proof.Machine.execVnop k s
  | .vadd k vd va vb mk ty => Sys2Proof.Machine.execVadd k vd va vb mk ty s
  | .vsub k vd va vb mk ty => Sys2Proof.Machine.execVsub k vd va vb mk ty s
  | .vmul k vd va vb mk ty => Sys2Proof.Machine.execVmul k vd va vb mk ty s
  | .vfma k vd va vb mk ty => Sys2Proof.Machine.execVfma k vd va vb mk ty s
  | .vmin k vd va vb mk ty => Sys2Proof.Machine.execVmin k vd va vb mk ty s
  | .vmax k vd va vb mk ty => Sys2Proof.Machine.execVmax k vd va vb mk ty s
  | .vabs k vd va mk ty => Sys2Proof.Machine.execVabs k vd va mk ty s
  | .vneg k vd va mk ty => Sys2Proof.Machine.execVneg k vd va mk ty s
  | .vand k vd va vb mk => Sys2Proof.Machine.execVand k vd va vb mk s
  | .vor k vd va vb mk => Sys2Proof.Machine.execVor k vd va vb mk s
  | .vxor k vd va vb mk => Sys2Proof.Machine.execVxor k vd va vb mk s
  | .vshl k vd va vb mk => Sys2Proof.Machine.execVshl k vd va vb mk s
  | .vshr k vd va vb mk => Sys2Proof.Machine.execVshr k vd va vb mk s
  | .vsra k vd va vb mk => Sys2Proof.Machine.execVsra k vd va vb mk s
  | .vdiv k vd va vb mk ty => Sys2Proof.Machine.execVdiv k vd va vb mk ty s
  | .vsqrt k vd va mk ty => Sys2Proof.Machine.execVsqrt k vd va mk ty s
  | .vexp2 k vd va mk ty => Sys2Proof.Machine.execVexp2 k vd va mk ty s
  | .vlog2 k vd va mk ty => Sys2Proof.Machine.execVlog2 k vd va mk ty s
  | .vmov k vd va mk => Sys2Proof.Machine.execVmov k vd va mk s
  | .vperm k vd va vb mk => Sys2Proof.Machine.execVperm k vd va vb mk s
  | .vidx k vd mk => Sys2Proof.Machine.execVidx k vd mk s
  | .vcmpEq k md va vb mk ty => Sys2Proof.Machine.execVcmpEq k md va vb mk ty s
  | .vcmpLt k md va vb mk ty => Sys2Proof.Machine.execVcmpLt k md va vb mk ty s
  | .vcmpLe k md va vb mk ty => Sys2Proof.Machine.execVcmpLe k md va vb mk ty s
  | .vbcast k vd sb mk => Sys2Proof.Machine.execVbcast k vd sb mk s
  | .vext k sd va sb => Sys2Proof.Machine.execVext k sd va sb s
  | .vrsum k sd va mk => Sys2Proof.Machine.execVrsum k sd va mk s
  | .vrmax k sd va mk ty => Sys2Proof.Machine.execVrmax k sd va mk ty s
  | .mand k md ma mb mk => Sys2Proof.Machine.execMand k md ma mb mk s
  | .mor k md ma mb mk => Sys2Proof.Machine.execMor k md ma mb mk s
  | .mxor k md ma mb mk => Sys2Proof.Machine.execMxor k md ma mb mk s
  | .mandn k md ma mb mk => Sys2Proof.Machine.execMandn k md ma mb mk s
  | .mset k md sb => Sys2Proof.Machine.execMset k md sb s
  | .mget k sd ma => Sys2Proof.Machine.execMget k sd ma s
  | .mpop k sd ma => Sys2Proof.Machine.execMpop k sd ma s
  | .vcvt k src dst vd va vb mk mode => Sys2Proof.Machine.execVcvt k src dst vd va vb mk mode s
  | .vmxq k fmt fromBf16 vd va vb mk mode => Sys2Proof.Machine.execVmxq k fmt fromBf16 vd va vb mk mode s
  | .vpack4 k vd va => Sys2Proof.Machine.execVpack4 k vd va s
  | .vpack6 k vd va => Sys2Proof.Machine.execVpack6 k vd va s
  | .vpack8 k vd va => Sys2Proof.Machine.execVpack8 k vd va s
  | .vunpk4 k vd va => Sys2Proof.Machine.execVunpk4 k vd va s
  | .vunpk6 k vd va => Sys2Proof.Machine.execVunpk6 k vd va s
  | .vunpk8 k vd va => Sys2Proof.Machine.execVunpk8 k vd va s
  | .flkRaw k vd va sb mk => Sys2Proof.Machine.execFlkRaw k vd va sb mk s
  | .flkMask k md va sb mk => Sys2Proof.Machine.execFlkMask k md va sb mk s
  | .flkTraw k vd va sb mk => Sys2Proof.Machine.execFlkTraw k vd va sb mk s
  | .flkTmask k md va sb mk => Sys2Proof.Machine.execFlkTmask k md va sb mk s
  | .tnop k => Sys2Proof.Machine.execTnop k s
  | .topen k fa fb w t sr => Sys2Proof.Machine.execTopen k fa fb w t sr s
  | .tdot k w sa sb mk n1 => Sys2Proof.Machine.execTdot k w sa sb mk n1 s
  | .tdotSp k w sa sb mk => Sys2Proof.Machine.execTdotSp k w sa sb mk s
  | .tpre k w sa mk => Sys2Proof.Machine.execTpre k w sa mk s
  | .tclose k w => Sys2Proof.Machine.execTclose k w s
  | .replayDone k w cyc => Sys2Proof.Machine.execReplayDone k w cyc s
  | .troundNe k vd t fo sk draw => Sys2Proof.Machine.execTroundNe k vd t fo sk draw s
  | .troundRz k vd t fo sk draw => Sys2Proof.Machine.execTroundRz k vd t fo sk draw s
  | .troundSr k vd t fo sk draw => Sys2Proof.Machine.execTroundSr k vd t fo sk draw s
  | .tadd k td ta => Sys2Proof.Machine.execTadd k td ta s
  | .tclr k td => Sys2Proof.Machine.execTclr k td s
  | .plait k td => Sys2Proof.Machine.execPlait k td s
  | .plaitAll k td => Sys2Proof.Machine.execPlaitAll k td s
  | .plaitRecordReceive k sender seq => Sys2Proof.Machine.execPlaitRecordReceive k sender seq s
  | .topk k vd va sb mk => Sys2Proof.Machine.execTopk k vd va sb mk s
  | .tepiAdd k vd va mk ty => Sys2Proof.Machine.execTepiAdd k vd va mk ty s
  | .tepiMul k vd va mk ty => Sys2Proof.Machine.execTepiMul k vd va mk ty s
  | .tcow k sd va sa mk esz => Sys2Proof.Machine.execTcow k sd va sa mk esz s
  | .tcow4 k sd va sa mk => Sys2Proof.Machine.execTcow4 k sd va sa mk s
  | .tcow6 k sd va sa mk => Sys2Proof.Machine.execTcow6 k sd va sa mk s
  | .tpruneI k md va mk mc kk => Sys2Proof.Machine.execTpruneI k md va mk mc kk s
  | .tpruneF k md va mk mc kk => Sys2Proof.Machine.execTpruneF k md va mk mc kk s
  | .tpruneBf k md va mk mc kk => Sys2Proof.Machine.execTpruneBf k md va mk mc kk s
  | .tpruneH k md va mk mc kk => Sys2Proof.Machine.execTpruneH k md va mk mc kk s
  | .plyAnd k sd sa sb => Sys2Proof.Machine.execPlyAnd k sd sa sb s
  | .plyPop k sd sa sb => Sys2Proof.Machine.execPlyPop k sd sa sb s
  | .plyCmp k sd sa sb => Sys2Proof.Machine.execPlyCmp k sd sa sb s
  | .tmode k sd sa => Sys2Proof.Machine.execTmode k sd sa s
  | .splxMerge k sd sa => Sys2Proof.Machine.execSplxMerge k sd sa s
  | .splxIsect k sd sa => Sys2Proof.Machine.execSplxIsect k sd sa s
  | .tally k sd sa => Sys2Proof.Machine.execTally k sd sa s
  | .mnop k => Sys2Proof.Machine.execMnop k s
  | .ldW k sd sa imm late => Sys2Proof.Machine.execLdW k sd sa imm late s
  | .ldD k sd sa imm late => Sys2Proof.Machine.execLdD k sd sa imm late s
  | .stW k ss sa imm => Sys2Proof.Machine.execStW k ss sa imm s
  | .stD k ss sa imm => Sys2Proof.Machine.execStD k ss sa imm s
  | .vld k vd sa mk imm late => Sys2Proof.Machine.execVld k vd sa mk imm late s
  | .vst k vs sa mk imm => Sys2Proof.Machine.execVst k vs sa mk imm s
  | .gath k vd va sb mk => Sys2Proof.Machine.execGath k vd va sb mk s
  | .scatAdd k vs va sb mk => Sys2Proof.Machine.execScatAdd k vs va sb mk s
  | .scatAddition region bank => Sys2Proof.Machine.execScatAddition region bank s
  | .tldl k t sa imm late => Sys2Proof.Machine.execTldl k t sa imm late s
  | .tstl k t sa imm => Sys2Proof.Machine.execTstl k t sa imm s
  | .storeQueueWrite region core => Sys2Proof.Machine.execStoreQueueWrite region core s
  | .sld k vd sa mk imm => Sys2Proof.Machine.execSld k vd sa mk imm s
  | .sst k vs sa mk imm => Sys2Proof.Machine.execSst k vs sa mk imm s
  | .stag k sb n1 fmt => Sys2Proof.Machine.execStag k sb n1 fmt s
  | .rowLd k sa sb n1 fmt => Sys2Proof.Machine.execRowLd k sa sb n1 fmt s
  | .rowSt k sa sb n1 => Sys2Proof.Machine.execRowSt k sa sb n1 s
  | .fill k sa sb n1 => Sys2Proof.Machine.execFill k sa sb n1 s
  | .copy k sa sb n1 => Sys2Proof.Machine.execCopy k sa sb n1 s
  | .rowTransferDone k ix => Sys2Proof.Machine.execRowTransferDone k ix s
  | .rowWait k => Sys2Proof.Machine.execRowWait k s
  | .coilTake k c sa => Sys2Proof.Machine.execCoilTake k c sa s
  | .coilDrop k c => Sys2Proof.Machine.execCoilDrop k c s
  | .coilWait k c sb => Sys2Proof.Machine.execCoilWait k c sb s
  | .coilPush k c sb => Sys2Proof.Machine.execCoilPush k c sb s
  | .coilPop k c sb => Sys2Proof.Machine.execCoilPop k c sb s
  | .coilPtr k c sd => Sys2Proof.Machine.execCoilPtr k c sd s
  | .coilTptr k c sd => Sys2Proof.Machine.execCoilTptr k c sd s
  | .hitchOpen k h sa => Sys2Proof.Machine.execHitchOpen k h sa s
  | .hitchClose k h => Sys2Proof.Machine.execHitchClose k h s
  | .hitchStat k h sd => Sys2Proof.Machine.execHitchStat k h sd s
  | .hitchExpiry region window => Sys2Proof.Machine.execHitchExpiry region window s
  | .strTake k q sa => Sys2Proof.Machine.execStrTake k q sa s
  | .strIssue k q sa => Sys2Proof.Machine.execStrIssue k q sa s
  | .strDrop k q => Sys2Proof.Machine.execStrDrop k q s
  | .strShort k sa sb => Sys2Proof.Machine.execStrShort k sa sb s
  | .shortTransfer region => Sys2Proof.Machine.execShortTransfer region s
  | .knotRel k q knot => Sys2Proof.Machine.execKnotRel k q knot s
  | .knotWait k q knot => Sys2Proof.Machine.execKnotWait k q knot s
  | .blyArr k b => Sys2Proof.Machine.execBlyArr k b s
  | .blyWait k b sb => Sys2Proof.Machine.execBlyWait k b sb s
  | .csave k sa => Sys2Proof.Machine.execCsave k sa s
  | .fixedResultVisible k => Sys2Proof.Machine.execFixedResultVisible k s
  | .holdEnd k ix cyc => Sys2Proof.Machine.execHoldEnd k ix cyc s
  | .contextSwitch region core cyc => Sys2Proof.Machine.execContextSwitch region core cyc s
  | .switchDone region core => Sys2Proof.Machine.execSwitchDone region core s
  | .submit busy ns => Sys2Proof.Machine.execSubmit busy ns s
  | .taskBind task => Sys2Proof.Machine.execTaskBind task s
  | .slotFree k => Sys2Proof.Machine.execSlotFree k s
  | .resultDigest task => Sys2Proof.Machine.execResultDigest task s
  | .overrunCheck task => Sys2Proof.Machine.execOverrunCheck task s
  | .overrunNextAbort => Sys2Proof.Machine.execOverrunNextAbort s
  | .overrunDeadlineAbort task => Sys2Proof.Machine.execOverrunDeadlineAbort task s
  | .descStart region channel => Sys2Proof.Machine.execDescStart region channel s
  | .descComplete region channel => Sys2Proof.Machine.execDescComplete region channel s
  | .remoteLimitExpiry region channel block => Sys2Proof.Machine.execRemoteLimitExpiry region channel block s
  | .dreadSegmentReceive => Sys2Proof.Machine.execDreadSegmentReceive s
  | .remoteWriteArrive ix => Sys2Proof.Machine.execRemoteWriteArrive ix s
  | .storeScrubLine region bank => Sys2Proof.Machine.execStoreScrubLine region bank s
  | .storeEccError addr uncorrectable reader => Sys2Proof.Machine.execStoreEccError addr uncorrectable reader s
  | .storeCorrectedWriteback region addr => Sys2Proof.Machine.execStoreCorrectedWriteback region addr s
  | .rnBgOffWrite who region high value => Sys2Proof.Machine.execRnBgOffWrite who region high value s
  | .bgZeroDone region group => Sys2Proof.Machine.execBgZeroDone region group s
  | .rnCoilCfgWrite who region coil value => Sys2Proof.Machine.execRnCoilCfgWrite who region coil value s
  | .hitchCmdOpen who region window => Sys2Proof.Machine.execHitchCmdOpen who region window s
  | .hitchCmdClose who region window => Sys2Proof.Machine.execHitchCmdClose who region window s
  | .burstLimitEffect addr => Sys2Proof.Machine.execBurstLimitEffect addr s
  | .arCtlWrite who addr value => Sys2Proof.Machine.execArCtlWrite who addr value s
  | .pileRefresh pile bank => Sys2Proof.Machine.execPileRefresh pile bank s
  | .pileNeighbourRefresh pile bank row => Sys2Proof.Machine.execPileNeighbourRefresh pile bank row s
  | .pileScrubUnit pile channel => Sys2Proof.Machine.execPileScrubUnit pile channel s
  | .pileCrcFail addr again reader => Sys2Proof.Machine.execPileCrcFail addr again reader s
  | .pileEccError addr kind scrub reader => Sys2Proof.Machine.execPileEccError addr kind scrub reader s
  | .nmoFill who pile => Sys2Proof.Machine.execNmoFill who pile s
  | .nmoCopy who pile => Sys2Proof.Machine.execNmoCopy who pile s
  | .nmoCompact who pile => Sys2Proof.Machine.execNmoCompact who pile s
  | .nmoExpand who pile => Sys2Proof.Machine.execNmoExpand who pile s
  | .nmoRefusedOp who pile op => Sys2Proof.Machine.execNmoRefusedOp who pile op s
  | .nmoDone pile => Sys2Proof.Machine.execNmoDone pile s
  | .frameReceive f => Sys2Proof.Machine.execFrameReceive f s
  | .rqDrainWord port parityBad => Sys2Proof.Machine.execRqDrainWord port parityBad s
  | .pfcRepeat port => Sys2Proof.Machine.execPfcRepeat port s
  | .pauseReceive env classes quanta => Sys2Proof.Machine.execPauseReceive env classes quanta s
  | .arpRequest env target sender mac => Sys2Proof.Machine.execArpRequest env target sender mac s
  | .neighbourSolicit env target sender mac => Sys2Proof.Machine.execNeighbourSolicit env target sender mac s
  | .icmpEcho frame target sender data => Sys2Proof.Machine.execIcmpEcho frame target sender data s
  | .ptpMessage frame data => Sys2Proof.Machine.execPtpMessage frame data s
  | .ptpSourceLoss => Sys2Proof.Machine.execPtpSourceLoss s
  | .holdoverAlert => Sys2Proof.Machine.execHoldoverAlert s
  | .linkUp port sub => Sys2Proof.Machine.execLinkUp port sub s
  | .linkDown port sub => Sys2Proof.Machine.execLinkDown port sub s
  | .openMsg => Sys2Proof.Machine.execOpenMsg s
  | .openAckMsg => Sys2Proof.Machine.execOpenAckMsg s
  | .closeMsg => Sys2Proof.Machine.execCloseMsg s
  | .ackMsg => Sys2Proof.Machine.execAckMsg s
  | .nakMsg => Sys2Proof.Machine.execNakMsg s
  | .pingMsg => Sys2Proof.Machine.execPingMsg s
  | .rejectMsg => Sys2Proof.Machine.execRejectMsg s
  | .unknownMessage => Sys2Proof.Machine.execUnknownMessage s
  | .retransmitTimer session => Sys2Proof.Machine.execRetransmitTimer session s
  | .ackTimer session => Sys2Proof.Machine.execAckTimer session s
  | .openRetry session => Sys2Proof.Machine.execOpenRetry session s
  | .suspendTimeout session => Sys2Proof.Machine.execSuspendTimeout session s
  | .mtCmdOpen who port => Sys2Proof.Machine.execMtCmdOpen who port s
  | .mtCmdClose who => Sys2Proof.Machine.execMtCmdClose who s
  | .cread => Sys2Proof.Machine.execCread s
  | .cwrite => Sys2Proof.Machine.execCwrite s
  | .dread => Sys2Proof.Machine.execDread s
  | .dwrite => Sys2Proof.Machine.execDwrite s
  | .dwritePerformed ix => Sys2Proof.Machine.execDwritePerformed ix s
  | .markMsg => Sys2Proof.Machine.execMarkMsg s
  | .dvMarkCmdRequest who => Sys2Proof.Machine.execDvMarkCmdRequest who s
  | .markTick => Sys2Proof.Machine.execMarkTick s
  | .telemetryUpdate r => Sys2Proof.Machine.execTelemetryUpdate r s
  | .dvTeleSeqRead who => Sys2Proof.Machine.execDvTeleSeqRead who s
  | .regLowRead who addr => Sys2Proof.Machine.execRegLowRead who addr s
  | .regLowWrite who addr value => Sys2Proof.Machine.execRegLowWrite who addr value s
  | .regHighWrite who addr value => Sys2Proof.Machine.execRegHighWrite who addr value s
  | .regWrite who addr value => Sys2Proof.Machine.execRegWrite who addr value s
  | .hbUnmappedClear who => Sys2Proof.Machine.execHbUnmappedClear who s
  | .coArithClear who region core => Sys2Proof.Machine.execCoArithClear who region core s
  | .coSpClear who region core => Sys2Proof.Machine.execCoSpClear who region core s
  | .rnSpClear who region => Sys2Proof.Machine.execRnSpClear who region s
  | .rnBcClear who region => Sys2Proof.Machine.execRnBcClear who region s
  | .rnStClear who region => Sys2Proof.Machine.execRnStClear who region s
  | .stClear who region channel => Sys2Proof.Machine.execStClear who region channel s
  | .plClear who pile => Sys2Proof.Machine.execPlClear who pile s
  | .coPlClear who region core => Sys2Proof.Machine.execCoPlClear who region core s
  | .llClear who => Sys2Proof.Machine.execLlClear who s
  | .etClear who port => Sys2Proof.Machine.execEtClear who port s
  | .mtClear who => Sys2Proof.Machine.execMtClear who s
  | .ttClear who => Sys2Proof.Machine.execTtClear who s
  | .erStateClear who addr => Sys2Proof.Machine.execErStateClear who addr s
  | .arClear who addr => Sys2Proof.Machine.execArClear who addr s
  | .coPfClear who region core => Sys2Proof.Machine.execCoPfClear who region core s
  | .etModeWrite who port value => Sys2Proof.Machine.execEtModeWrite who port value s
  | .mtPwinCtlWrite who window value => Sys2Proof.Machine.execMtPwinCtlWrite who window value s
  | .llRegRegister who => Sys2Proof.Machine.execLlRegRegister who s
  | .llRegUnregister who handle => Sys2Proof.Machine.execLlRegUnregister who handle s
  | .registrationDone => Sys2Proof.Machine.execRegistrationDone s
  | .hbFlkCtlCommit who => Sys2Proof.Machine.execHbFlkCtlCommit who s
  | .flkTableCopy => Sys2Proof.Machine.execFlkTableCopy s
  | .ttPairCommit who => Sys2Proof.Machine.execTtPairCommit who s
  | .ttCmdResume who => Sys2Proof.Machine.execTtCmdResume who s
  | .ttCmdRejoin who => Sys2Proof.Machine.execTtCmdRejoin who s
  | .joinMsg => Sys2Proof.Machine.execJoinMsg s
  | .fwdMsg => Sys2Proof.Machine.execFwdMsg s
  | .taskMsg => Sys2Proof.Machine.execTaskMsg s
  | .digestMsg => Sys2Proof.Machine.execDigestMsg s
  | .stateMsg => Sys2Proof.Machine.execStateMsg s
  | .detachMsg => Sys2Proof.Machine.execDetachMsg s
  | .beatMsg back => Sys2Proof.Machine.execBeatMsg back s
  | .beatSend => Sys2Proof.Machine.execBeatSend s
  | .beatCheck => Sys2Proof.Machine.execBeatCheck s
  | .seekRetry => Sys2Proof.Machine.execSeekRetry s
  | .soloTimeout => Sys2Proof.Machine.execSoloTimeout s
  | .compareTimeout task => Sys2Proof.Machine.execCompareTimeout task s
  | .pairReady => Sys2Proof.Machine.execPairReady s
  | .laneSingleBit region core lane item => Sys2Proof.Machine.execLaneSingleBit region core lane item s
  | .laneUncorrectable k w lane => Sys2Proof.Machine.execLaneUncorrectable k w lane s
  | .coreSingleBit region core unit item => Sys2Proof.Machine.execCoreSingleBit region core unit item s
  | .coreError region core unit item => Sys2Proof.Machine.execCoreError region core unit item s
  | .coreSelfCheckDone region core passed => Sys2Proof.Machine.execCoreSelfCheckDone region core passed s
  | .spareTestDone region index passed => Sys2Proof.Machine.execSpareTestDone region index passed s
  | .remapBusyEnd region index => Sys2Proof.Machine.execRemapBusyEnd region index s
  | .regionUnitFault region unit => Sys2Proof.Machine.execRegionUnitFault region unit s
  | .regionRecoveryDone region badCores passed => Sys2Proof.Machine.execRegionRecoveryDone region badCores passed s
  | .sliceFault region slice => Sys2Proof.Machine.execSliceFault region slice s
  | .linkReplay link => Sys2Proof.Machine.execLinkReplay link s
  | .linkDoubleFail link => Sys2Proof.Machine.execLinkDoubleFail link s
  | .linkRetrainDone passed => Sys2Proof.Machine.execLinkRetrainDone passed s
  | .hubFault unit => Sys2Proof.Machine.execHubFault unit s
  | .pllUnlock => Sys2Proof.Machine.execPllUnlock s
  | .powerStageFault value => Sys2Proof.Machine.execPowerStageFault value s
  | .taperRun region => Sys2Proof.Machine.execTaperRun region s
  | .tpCmdRun who region => Sys2Proof.Machine.execTpCmdRun who region s
  | .taperMeasureDone region g0 g1 g2 g3 => Sys2Proof.Machine.execTaperMeasureDone region g0 g1 g2 g3 s
  | .notchEffect region => Sys2Proof.Machine.execNotchEffect region s
  | .coldStart env => Sys2Proof.Machine.execColdStart env s
  | .inputRiseSlow => Sys2Proof.Machine.execInputRiseSlow s
  | .inputUndervolt mv => Sys2Proof.Machine.execInputUndervolt mv s
  | .inputOvervolt mv => Sys2Proof.Machine.execInputOvervolt mv s
  | .inputOff => Sys2Proof.Machine.execInputOff s
  | .pwrWarnAssert => Sys2Proof.Machine.execPwrWarnAssert s
  | .resetAssert => Sys2Proof.Machine.execResetAssert s
  | .throttleAssert => Sys2Proof.Machine.execThrottleAssert s
  | .throttleRelease => Sys2Proof.Machine.execThrottleRelease s
  | .throttleGate region => Sys2Proof.Machine.execThrottleGate region s
  | .pinRateWindowEnd pin => Sys2Proof.Machine.execPinRateWindowEnd pin s
  | .pinStuck pin => Sys2Proof.Machine.execPinStuck pin s
  | .ppsEdge => Sys2Proof.Machine.execPpsEdge s
  | .powerOverTdp => Sys2Proof.Machine.execPowerOverTdp s
  | .powerOverPeak value => Sys2Proof.Machine.execPowerOverPeak value s
  | .tempHot => Sys2Proof.Machine.execTempHot s
  | .tempCritical value => Sys2Proof.Machine.execTempCritical value s
  | .pileOverheat pile layer temp => Sys2Proof.Machine.execPileOverheat pile layer temp s
  | .pileCooled pile layer temp => Sys2Proof.Machine.execPileCooled pile layer temp s
  | .pileHotWindow pile layer temp => Sys2Proof.Machine.execPileHotWindow pile layer temp s
  | .cellLow => Sys2Proof.Machine.execCellLow s
  | .pwCmdPilot who => Sys2Proof.Machine.execPwCmdPilot who s
  | .pilotEntry => Sys2Proof.Machine.execPilotEntry s
  | .pwCmdWake env => Sys2Proof.Machine.execPwCmdWake env s
  | .ckDtSetWrite who value => Sys2Proof.Machine.execCkDtSetWrite who value s
  | .smbWrite32 addr value => Sys2Proof.Machine.execSmbWrite32 addr value s
  | .smbSetAddr addr => Sys2Proof.Machine.execSmbSetAddr addr s
  | .smbRead32 => Sys2Proof.Machine.execSmbRead32 s
  | .scStageFirmware who => Sys2Proof.Machine.execScStageFirmware who s
  | .scQuote who => Sys2Proof.Machine.execScQuote who s
  | .scChallenge who => Sys2Proof.Machine.execScChallenge who s
  | .scRelock who => Sys2Proof.Machine.execScRelock who s
  | .scCommandDone entropy => Sys2Proof.Machine.execScCommandDone entropy s
  | .scArbAdvance who => Sys2Proof.Machine.execScArbAdvance who s
  | .scOwnerCommit who => Sys2Proof.Machine.execScOwnerCommit who s
  | .scDbgUnlock who => Sys2Proof.Machine.execScDbgUnlock who s
  | .seizedChangeApply => Sys2Proof.Machine.execSeizedChangeApply s
  | .emSaveNet who => Sys2Proof.Machine.execEmSaveNet who s
  | .mirrorWrite => Sys2Proof.Machine.execMirrorWrite s
  | .sliceFenceDone region => Sys2Proof.Machine.execSliceFenceDone region s
  | .pwrWarnRelease => Sys2Proof.Machine.execPwrWarnRelease s
  | .inputAbove52v => Sys2Proof.Machine.execInputAbove52v s
  | .pauseQuantaExpiry port classes => Sys2Proof.Machine.execPauseQuantaExpiry port classes s
  | .ckFreeRunSet who => Sys2Proof.Machine.execCkFreeRunSet who s

end Sys2Proof.Machine
end

