-- ==== Sys2Proof/Machine/Idle.lean ====
section
/-! DEFINITION. What a step does when no command waits (R22, R442, log 9): 1 ns of the reference passes, and a pair's STATE follows its inputs. -/

namespace Sys2Proof.Machine

/-- 1 ns of the reference. At a multiple of 1,000 ns a changed STATE is sent again, which R442 asks for within 2 µs. -/
def Dev.idles (d : Dev) : Dev :=
  let d := d.passTime
  if d.dt.toNat % 1000 = 0 && d.hubRuns then d.stateRefresh else d

/-- A step without a command. -/
def idle (s : State) : Out := event Dev.idles s

end Sys2Proof.Machine
end

