-- ==== Sys2Proof/Machine/SlotWords.lean ====
section
/-! DEFINITION. The operations that the 32-bit slots of a bundle spell (R93, R132 to R138, R142, R143, R150, R151, R163, R164), for a context `k`:
the opcode chooses the operation and the fields of its format its operands. An undefined encoding spells none (R133). -/

namespace Sys2Proof.Machine

/-- A scalar or vector register, or another field of 6 bits, whose lowest bit is `lo`. -/
def f6 (w lo : Nat) : Fin 64 := Fin.ofNat 64 (w / 2 ^ lo)
/-- A Long Total, 5 bits. -/
def f5 (w lo : Nat) : Fin 32 := Fin.ofNat 32 (w / 2 ^ lo)
/-- A mask register, a handle, or another field of 4 bits. -/
def f4 (w lo : Nat) : Fin 16 := Fin.ofNat 16 (w / 2 ^ lo)
/-- A window set, a channel, or another field of 3 bits. -/
def f3 (w lo : Nat) : Fin 8 := Fin.ofNat 8 (w / 2 ^ lo)
/-- A field of 2 bits. -/
def f2 (w lo : Nat) : Fin 4 := Fin.ofNat 4 (w / 2 ^ lo)
/-- An immediate of 12 bits. -/
def imm12 (w : Nat) : BitVec 12 := BitVec.ofNat 12 w
/-- The branch target of format CB. -/
def target14 (w : Nat) : Fin 16384 := Fin.ofNat 16384 w

/-! ### Slot C (R137, R138) -/

/-- Format CR. -/
def opCR (c : Ctx → Fin 64 → Fin 64 → Fin 64 → Instr) (k : Ctx) (w : Nat) : Instr := c k (f6 w 18) (f6 w 12) (f6 w 6)
/-- Format CI. -/
def opCI (c : Ctx → Fin 64 → Fin 64 → BitVec 12 → Instr) (k : Ctx) (w : Nat) : Instr := c k (f6 w 18) (f6 w 12) (imm12 w)
/-- Format CS. -/
def opCS (c : Ctx → Fin 64 → Fin 64 → Fin 64 → Instr) (k : Ctx) (w : Nat) : Instr := c k (f6 w 18) (f6 w 12) (f6 w 0)
/-- Format CK. -/
def opCK (c : Ctx → Fin 64 → Fin 4 → BitVec 16 → Instr) (k : Ctx) (w : Nat) : Instr := c k (f6 w 18) (f2 w 16) (BitVec.ofNat 16 w)
/-- Format CB with a register. -/
def opCB (c : Ctx → Fin 64 → Fin 16384 → Instr) (k : Ctx) (w : Nat) : Instr := c k (f6 w 18) (target14 w)

/-- The operation of a slot C opcode. -/
def opC (k : Ctx) (w : Nat) : Option Instr :=
  match field w 30 24 with
  | 0x00 => some (.nop k (bit w 31))
  | 0x01 => some (opCR .add k w)
  | 0x02 => some (opCR .sub k w)
  | 0x03 => some (opCR .andOp k w)
  | 0x04 => some (opCR .orOp k w)
  | 0x05 => some (opCR .xorOp k w)
  | 0x06 => some (opCR .shl k w)
  | 0x07 => some (opCR .shr k w)
  | 0x08 => some (opCR .sra k w)
  | 0x09 => some (opCR .mul k w)
  | 0x0A => some (opCR .mulhu k w)
  | 0x0B => some (opCR .divu k w)
  | 0x0C => some (opCR .remu k w)
  | 0x0D => some (opCR .minOp k w)
  | 0x0E => some (opCR .maxOp k w)
  | 0x0F => some (opCR .cmpEq k w)
  | 0x10 => some (opCR .cmpLt k w)
  | 0x11 => some (opCR .cmpLtu k w)
  | 0x20 => some (opCI .addi k w)
  | 0x21 => some (opCI .andi k w)
  | 0x22 => some (opCI .ori k w)
  | 0x23 => some (opCI .xori k w)
  | 0x24 => some (opCS .shli k w)
  | 0x25 => some (opCS .shri k w)
  | 0x26 => some (opCS .srai k w)
  | 0x28 => some (opCK .movz k w)
  | 0x29 => some (opCK .movk k w)
  | 0x30 => some (.b k (target14 w))
  | 0x31 => some (opCB .beqz k w)
  | 0x32 => some (opCB .bnez k w)
  | 0x33 => some (opCB .bltz k w)
  | 0x34 => some (opCB .bgez k w)
  | 0x35 => some (.call k (target14 w))
  | 0x36 => some (.ret k)
  | 0x37 => some (opCB .loop k w)
  | 0x38 => some (.getc k (f6 w 18) (f4 w 0))
  | 0x39 => some (.stepInc k (f6 w 18))
  | 0x3A => some (.stepRd k (f6 w 18))
  | 0x3C => some (.drain k)
  | 0x3D => some (.endOp k)
  | _ => none

/-- The operation of a slot C value. -/
def decodeC (k : Ctx) (w : Nat) : Option Instr := if definedC w then opC k w else none

/-! ### Slot V (R142, R143) -/

/-- Formats VR and VS with three registers, a mask and a type. -/
def opVR (c : Ctx → Fin 64 → Fin 64 → Fin 64 → Fin 16 → Fin 4 → Instr) (k : Ctx) (w : Nat) : Instr := c k (f6 w 18) (f6 w 12) (f6 w 6) (f4 w 2) (f2 w 0)
/-- Format VR without a type. -/
def opVI (c : Ctx → Fin 64 → Fin 64 → Fin 64 → Fin 16 → Instr) (k : Ctx) (w : Nat) : Instr := c k (f6 w 18) (f6 w 12) (f6 w 6) (f4 w 2)
/-- Format VR with one source. -/
def opVU (c : Ctx → Fin 64 → Fin 64 → Fin 16 → Fin 4 → Instr) (k : Ctx) (w : Nat) : Instr := c k (f6 w 18) (f6 w 12) (f4 w 2) (f2 w 0)
/-- Format VR with one source and no mask. -/
def opVP (c : Ctx → Fin 64 → Fin 64 → Instr) (k : Ctx) (w : Nat) : Instr := c k (f6 w 18) (f6 w 12)
/-- Format VM. -/
def opVM (c : Ctx → Fin 16 → Fin 64 → Fin 64 → Fin 16 → Fin 4 → Instr) (k : Ctx) (w : Nat) : Instr := c k (f4 w 20) (f6 w 12) (f6 w 6) (f4 w 2) (f2 w 0)
/-- Format VF with a mask as destination. -/
def opVF (c : Ctx → Fin 16 → Fin 64 → Fin 64 → Fin 16 → Instr) (k : Ctx) (w : Nat) : Instr := c k (f4 w 20) (f6 w 12) (f6 w 6) (f4 w 2)
/-- Format VK. -/
def opVK (c : Ctx → Fin 16 → Fin 16 → Fin 16 → Fin 16 → Instr) (k : Ctx) (w : Nat) : Instr := c k (f4 w 20) (f4 w 16) (f4 w 12) (f4 w 8)

/-- The operation of a slot V opcode below 0x40 or above 0x8D. -/
def opVFixed (k : Ctx) (w : Nat) : Option Instr :=
  match field w 31 24 with
  | 0x00 => some (.vnop k)
  | 0x01 => some (opVR .vadd k w)
  | 0x02 => some (opVR .vsub k w)
  | 0x03 => some (opVR .vmul k w)
  | 0x04 => some (opVR .vfma k w)
  | 0x05 => some (opVR .vmin k w)
  | 0x06 => some (opVR .vmax k w)
  | 0x07 => some (opVU .vabs k w)
  | 0x08 => some (opVU .vneg k w)
  | 0x09 => some (opVI .vand k w)
  | 0x0A => some (opVI .vor k w)
  | 0x0B => some (opVI .vxor k w)
  | 0x0C => some (opVI .vshl k w)
  | 0x0D => some (opVI .vshr k w)
  | 0x0E => some (opVI .vsra k w)
  | 0x10 => some (opVR .vdiv k w)
  | 0x11 => some (opVU .vsqrt k w)
  | 0x12 => some (opVU .vexp2 k w)
  | 0x13 => some (opVU .vlog2 k w)
  | 0x18 => some (.vmov k (f6 w 18) (f6 w 12) (f4 w 2))
  | 0x19 => some (opVI .vperm k w)
  | 0x1A => some (.vidx k (f6 w 18) (f4 w 2))
  | 0x20 => some (opVM .vcmpEq k w)
  | 0x21 => some (opVM .vcmpLt k w)
  | 0x22 => some (opVM .vcmpLe k w)
  | 0x28 => some (.vbcast k (f6 w 18) (f6 w 6) (f4 w 2))
  | 0x29 => some (.vext k (f6 w 18) (f6 w 12) (f6 w 6))
  | 0x2A => some (.vrsum k (f6 w 18) (f6 w 12) (f4 w 2))
  | 0x2B => some (opVU .vrmax k w)
  | 0x30 => some (opVK .mand k w)
  | 0x31 => some (opVK .mor k w)
  | 0x32 => some (opVK .mxor k w)
  | 0x33 => some (opVK .mandn k w)
  | 0x34 => some (.mset k (f4 w 20) (f6 w 6))
  | 0x35 => some (.mget k (f6 w 18) (f4 w 12))
  | 0x36 => some (.mpop k (f6 w 18) (f4 w 12))
  | 0x90 => some (opVP .vpack4 k w)
  | 0x91 => some (opVP .vpack6 k w)
  | 0x92 => some (opVP .vpack8 k w)
  | 0x94 => some (opVP .vunpk4 k w)
  | 0x95 => some (opVP .vunpk6 k w)
  | 0x96 => some (opVP .vunpk8 k w)
  | 0xA0 => some (opVI .flkRaw k w)
  | 0xA1 => some (opVF .flkMask k w)
  | 0xA2 => some (opVI .flkTraw k w)
  | 0xA3 => some (opVF .flkTmask k w)
  | _ => none

/-- The operation of a slot V opcode: VCVT takes its type codes, and VMXQ its format and its source type, from the opcode. -/
def opV (k : Ctx) (w : Nat) : Option Instr :=
  let op := field w 31 24
  if 0x40 ≤ op && op < 0x80 then some (.vcvt k (Fin.ofNat 8 ((op - 0x40) / 8)) (Fin.ofNat 8 op) (f6 w 18) (f6 w 12) (f6 w 6) (f4 w 2) (f2 w 0))
  else if 0x80 ≤ op && op < 0x90 then some (.vmxq k (Fin.ofNat 6 (op % 8)) (decide (0x88 ≤ op)) (f6 w 18) (f6 w 12) (f6 w 6) (f4 w 2) (f2 w 0))
  else opVFixed k w

/-- The operation of a slot V value. -/
def decodeV (k : Ctx) (w : Nat) : Option Instr := if definedV w then opV k w else none

/-! ### Slot T (R150, R151) -/

/-- Format TR. -/
def opTR (c : Ctx → Fin 64 → Fin 32 → Fin 8 → Fin 64 → Fin 16 → Instr) (k : Ctx) (w : Nat) : Instr := c k (f6 w 18) (f5 w 13) (f3 w 10) (f6 w 4) (f4 w 0)
/-- Formats TK and TC with one source and two fields. -/
def opTK (c : Ctx → Fin 64 → Fin 64 → Fin 16 → Fin 4 → Instr) (k : Ctx) (w : Nat) : Instr := c k (f6 w 18) (f6 w 12) (f4 w 2) (f2 w 0)
/-- Formats TK and TC with three registers and a mask. -/
def opTC (c : Ctx → Fin 64 → Fin 64 → Fin 64 → Fin 16 → Instr) (k : Ctx) (w : Nat) : Instr := c k (f6 w 18) (f6 w 12) (f6 w 6) (f4 w 2)
/-- Format TU. -/
def opTU (c : Ctx → Fin 16 → Fin 64 → Fin 16 → Fin 8 → Fin 64 → Instr) (k : Ctx) (w : Nat) : Instr := c k (f4 w 20) (f6 w 14) (f4 w 10) (f3 w 7) (f6 w 1)
/-- Format TS with three registers. -/
def opTS (c : Ctx → Fin 64 → Fin 64 → Fin 64 → Instr) (k : Ctx) (w : Nat) : Instr := c k (f6 w 18) (f6 w 12) (f6 w 6)
/-- Format TS with two registers. -/
def opTP (c : Ctx → Fin 64 → Fin 64 → Instr) (k : Ctx) (w : Nat) : Instr := c k (f6 w 18) (f6 w 12)

/-- The operation of a slot T opcode. -/
def opT (k : Ctx) (w : Nat) : Option Instr :=
  match field w 31 24 with
  | 0x00 => some (.tnop k)
  | 0x10 => some (.topen k (f4 w 6) (f4 w 2) (f3 w 21) (f5 w 16) (f6 w 10))
  | 0x11 => some (.tdot k (f3 w 21) (f6 w 15) (f6 w 9) (f4 w 5) (f4 w 1))
  | 0x12 => some (.tdotSp k (f3 w 21) (f6 w 15) (f6 w 9) (f4 w 5))
  | 0x13 => some (.tpre k (f3 w 21) (f6 w 15) (f4 w 11))
  | 0x14 => some (.tclose k (f3 w 21))
  | 0x18 => some (opTR .troundNe k w)
  | 0x19 => some (opTR .troundRz k w)
  | 0x1A => some (opTR .troundSr k w)
  | 0x1C => some (.tadd k (f5 w 19) (f5 w 14))
  | 0x1D => some (.tclr k (f5 w 19))
  | 0x1E => some (.plait k (f5 w 19))
  | 0x1F => some (.plaitAll k (f5 w 19))
  | 0x20 => some (opTC .topk k w)
  | 0x21 => some (opTK .tepiAdd k w)
  | 0x22 => some (opTK .tepiMul k w)
  | 0x23 => some (.tcow k (f6 w 18) (f6 w 12) (f6 w 6) (f4 w 2) (f2 w 0))
  | 0x24 => some (opTU .tpruneI k w)
  | 0x25 => some (opTU .tpruneF k w)
  | 0x26 => some (opTU .tpruneBf k w)
  | 0x27 => some (opTU .tpruneH k w)
  | 0x28 => some (opTC .tcow4 k w)
  | 0x29 => some (opTC .tcow6 k w)
  | 0x30 => some (opTS .plyAnd k w)
  | 0x31 => some (opTS .plyPop k w)
  | 0x32 => some (opTS .plyCmp k w)
  | 0x33 => some (opTP .tmode k w)
  | 0x38 => some (opTP .splxMerge k w)
  | 0x39 => some (opTP .splxIsect k w)
  | 0x3A => some (opTP .tally k w)
  | _ => none

/-- The operation of a slot T value. -/
def decodeT (k : Ctx) (w : Nat) : Option Instr := if definedT w then opT k w else none

/-! ### Slot M (R163, R164) -/

/-- Format MA of a load. -/
def opMA (c : Ctx → Fin 64 → Fin 64 → BitVec 12 → Bool → Instr) (k : Ctx) (w : Nat) (late : Bool) : Instr := c k (f6 w 18) (f6 w 12) (imm12 w) late
/-- Format MA of a store. -/
def opMS (c : Ctx → Fin 64 → Fin 64 → BitVec 12 → Instr) (k : Ctx) (w : Nat) : Instr := c k (f6 w 18) (f6 w 12) (imm12 w)
/-- Format MV. -/
def opMV (c : Ctx → Fin 64 → Fin 64 → Fin 16 → BitVec 8 → Instr) (k : Ctx) (w : Nat) : Instr := c k (f6 w 18) (f6 w 12) (f4 w 8) (BitVec.ofNat 8 w)
/-- Format MG. -/
def opMG (c : Ctx → Fin 64 → Fin 64 → Fin 64 → Fin 16 → Instr) (k : Ctx) (w : Nat) : Instr := c k (f6 w 18) (f6 w 12) (f6 w 6) (f4 w 2)
/-- The field n−1 of format MR. -/
def rows8 (w : Nat) : BitVec 8 := BitVec.ofNat 8 (w / 16)
/-- Format MR without a format code. -/
def opMR (c : Ctx → Fin 64 → Fin 64 → BitVec 8 → Instr) (k : Ctx) (w : Nat) : Instr := c k (f6 w 18) (f6 w 12) (rows8 w)
/-- Format MC with the register at [17:12]. -/
def opMC (c : Ctx → Fin 16 → Fin 64 → Instr) (k : Ctx) (w : Nat) : Instr := c k (f4 w 20) (f6 w 12)
/-- Format MC with sb. -/
def opMB (c : Ctx → Fin 16 → Fin 64 → Instr) (k : Ctx) (w : Nat) : Instr := c k (f4 w 20) (f6 w 6)

/-- The operation of a slot M opcode. `late` says that a load's word arrives late, which no encoding tells (R106). -/
def opM (k : Ctx) (w : Nat) (late : Bool) : Option Instr :=
  match field w 31 24 with
  | 0x00 => some (.mnop k)
  | 0x01 => some (opMA .ldW k w late)
  | 0x02 => some (opMA .ldD k w late)
  | 0x03 => some (opMS .stW k w)
  | 0x04 => some (opMS .stD k w)
  | 0x08 => some (.vld k (f6 w 18) (f6 w 12) (f4 w 8) (BitVec.ofNat 8 w) late)
  | 0x09 => some (opMV .vst k w)
  | 0x0A => some (opMG .gath k w)
  | 0x0B => some (opMG .scatAdd k w)
  | 0x0C => some (.tldl k (f5 w 19) (f6 w 12) (imm12 w) late)
  | 0x0D => some (.tstl k (f5 w 19) (f6 w 12) (imm12 w))
  | 0x10 => some (opMV .sld k w)
  | 0x11 => some (opMV .sst k w)
  | 0x12 => some (.stag k (f6 w 12) (rows8 w) (f4 w 0))
  | 0x18 => some (.rowLd k (f6 w 18) (f6 w 12) (rows8 w) (f4 w 0))
  | 0x19 => some (opMR .rowSt k w)
  | 0x1A => some (.rowWait k)
  | 0x1B => some (opMR .fill k w)
  | 0x1C => some (opMR .copy k w)
  | 0x20 => some (opMC .coilTake k w)
  | 0x21 => some (.coilDrop k (f4 w 20))
  | 0x22 => some (opMB .coilWait k w)
  | 0x23 => some (opMB .coilPush k w)
  | 0x24 => some (opMB .coilPop k w)
  | 0x25 => some (opMC .coilPtr k w)
  | 0x26 => some (opMC .coilTptr k w)
  | 0x28 => some (opMC .hitchOpen k w)
  | 0x29 => some (.hitchClose k (f4 w 20))
  | 0x2A => some (opMC .hitchStat k w)
  | 0x30 => some (.strTake k (f3 w 21) (f6 w 12))
  | 0x31 => some (.strIssue k (f3 w 21) (f6 w 12))
  | 0x32 => some (.strDrop k (f3 w 21))
  | 0x33 => some (.strShort k (f6 w 12) (f6 w 6))
  | 0x34 => some (.knotRel k (f3 w 21) (Fin.ofNat 256 (w / 2 ^ 8)))
  | 0x35 => some (.knotWait k (f3 w 21) (Fin.ofNat 256 (w / 2 ^ 8)))
  | 0x36 => some (.blyArr k (f6 w 0))
  | 0x37 => some (.blyWait k (f6 w 0) (f6 w 6))
  | 0x3F => some (.csave k (f6 w 12))
  | _ => none

/-- The operation of a slot M value. -/
def decodeM (k : Ctx) (w : Nat) (late : Bool) : Option Instr := if definedM w then opM k w late else none

/-- The operations of a bundle in the order in which its slots act (R93): none when a slot has an undefined encoding. -/
def Word4.ops (b : Word4) (k : Ctx) (late : Bool) : Option (List Instr) :=
  match decodeC k b.c, decodeV k b.v, decodeT k b.t, decodeM k b.m late with
  | some c, some v, some t, some m => some [c, v, t, m]
  | _, _, _, _ => none

/-- The next bundle of a context, as the instruction store of its core holds it (R93, R122). -/
def Dev.nextBundle (d : Dev) (k : Ctx) : Option W128 :=
  let c := d.ctx k
  (d.task? c.task).bind fun t => (d.core k.region k.core).ipages.findSome? fun p => match p with
    | none => none
    | some g => if g.handle == t.image && g.program == t.program && g.page == c.pc / 1024 then g.code[c.pc % 1024]? else none

/-- The operations that the next bundle of a context spells. -/
def Dev.nextOps (d : Dev) (k : Ctx) (late : Bool) : Option (List Instr) := (d.nextBundle k).bind fun x => (Word4.of x.toNat).ops k late

end Sys2Proof.Machine
end

