-- ==== Sys2Proof/Safety.lean ====
section
/-! DEFINITION. What a safe run is, and the words in which claims speak of the operations of a bundle. The machine raises no fault, so a safe
run is one of which no step is refused. -/

namespace Sys2Proof

/-- A step that answers a next state. -/
def Machine.State.Steps (s t : Machine.State) : Prop := Machine.step s = .next t

/-- A state from which the next step is taken: the command in front is well formed. -/
def Machine.State.Safe (s : Machine.State) : Prop := ∃ t, s.Steps t

/-- An operation of slot `slot` of context `k` executes in state `s` (R95): it joins the bundle in progress, or it opens the next bundle of a
context that may issue, of which every result due has arrived and no due SST write meets a pinned row. `d0` is the device before its bundle, and `d` the device it acts on. -/
def Machine.State.Acts (s : Machine.State) (slot : Nat) (k : Ctx) (d0 d : Machine.Dev) : Prop :=
  s.joins slot k = some (d0, d) ∨
  (s.joins slot k = none ∧ s.dev.mayIssue k = true ∧ (s.dev.ctx k).unarrived (s.dev.ctx k).cyc = [] ∧
    s.dev.sstPinned k (s.dev.ctx k).cyc = false ∧ d0 = s.dev ∧ d = s.dev.issue k)

/-- The state after an operation that left the device as `d`: with the bundle complete, a context that has executed END is flushed and without
resources. The bundle stays open for its later slots, which act on `d` (R141). -/
def Machine.State.after (s : Machine.State) (slot : Nat) (k : Ctx) (d0 d : Machine.Dev) : Machine.State :=
  { s with dev := d.bundleDone k, base := some ⟨k, slot, d0, d⟩ }

/-- The state in which the task of context `k` has been aborted by an operation (R118): nothing of the bundle has taken effect but its issue
and what `post` counts. -/
def Machine.State.abortedBy (s : Machine.State) (k : Ctx) (d0 : Machine.Dev) (st : Status) (post : Machine.Post) : Machine.State :=
  { s with dev := (post (d0.ctx k).task (d0.issue k)).abortTask (d0.ctx k).task st (some (d0.faultAt k)), base := none }

/-- The state in which an operation holds its bundle before issue (R106): nothing of the bundle has taken effect. -/
def Machine.State.heldBy (s : Machine.State) (k : Ctx) (d0 : Machine.Dev) (h : Machine.Hold) : Machine.State :=
  { s with dev := (if h.why.plait h.kind then d0.countPlaitHold k else d0).addHold k { h with before := true }, base := none }

/-- Command `i`, an operation of slot `slot` of context `k`, completes whenever it executes, and changes its context by `f`. -/
def Performs (i : Instr) (slot : Nat) (k : Ctx) (f : Machine.Context → Machine.Context) : Prop :=
  ∀ s d0 d, s.Acts slot k d0 d → Machine.exec i s = .next (s.after slot k d0 (d.modCtx k f))

/-- Command `i` completes whenever it executes on a device of which `c` holds, and leaves the device as `f`. -/
def PerformsIf (i : Instr) (slot : Nat) (k : Ctx) (c : Machine.Dev → Prop) (f : Machine.Dev → Machine.Dev → Machine.Dev) : Prop :=
  ∀ s d0 d, s.Acts slot k d0 d → c d → Machine.exec i s = .next (s.after slot k d0 (f d0 d))

/-- Command `i` aborts the task of context `k` with status `st` whenever it executes on a device of which `c` holds. -/
def AbortsIf (i : Instr) (slot : Nat) (k : Ctx) (c : Machine.Dev → Prop) (st : Status) : Prop :=
  ∀ s d0 d, s.Acts slot k d0 d → c d → Machine.exec i s = .next (s.abortedBy k d0 st Machine.noPost)

/-- Command `i` holds its bundle whenever it executes on a device of which `c` holds. -/
def HoldsIf (i : Instr) (slot : Nat) (k : Ctx) (c : Machine.Dev → Prop) (h : Machine.Hold) : Prop :=
  ∀ s d0 d, s.Acts slot k d0 d → c d → Machine.exec i s = .next (s.heldBy k d0 h)

/-- The event `i` takes the device from `d` to `e`, whatever the queue; the bundle in progress is complete. -/
def Takes (i : Instr) (d e : Machine.Dev) : Prop :=
  ∀ base pending, Machine.exec i { dev := d, base := base, pending := pending } = .next { dev := e, base := Option.none, pending := pending }

/-- The register write `i` of `who` at the address `a` takes the device from `d` to `e` when `who` reaches that register, and leaves it when not
(R518). -/
def TakesBy (who : Requester) (a : Nat) (i : Instr) (d e : Machine.Dev) : Prop := Takes i d (if d.reaches who a then e else d)

end Sys2Proof
end

