-- ==== Sys2Proof/Certificates/Slice0/Obligations.lean ====
section
/-! DEFINITION. The statements for the provers. The rules of the spec that each formalises stand in its docstring. -/

open Sys2Proof Sys2Proof.Machine

/-! ### Slot C -/

/-- R139: every register operation of slot C writes its result to sd, `lat` issue cycles after its bundle, and changes nothing else. -/
def ScalarRegisterOperationsHold : Prop := ∀ (k : Ctx) (sd sa sb : Fin 64),
  Performs (.add k sd sa sb) 0 k (fun c => c.later 0 4 (.s sd (c.getS sa + c.getS sb))) ∧
  Performs (.sub k sd sa sb) 0 k (fun c => c.later 0 4 (.s sd (c.getS sa - c.getS sb))) ∧
  Performs (.andOp k sd sa sb) 0 k (fun c => c.later 0 4 (.s sd (c.getS sa &&& c.getS sb))) ∧
  Performs (.orOp k sd sa sb) 0 k (fun c => c.later 0 4 (.s sd (c.getS sa ||| c.getS sb))) ∧
  Performs (.xorOp k sd sa sb) 0 k (fun c => c.later 0 4 (.s sd (c.getS sa ^^^ c.getS sb))) ∧
  Performs (.shl k sd sa sb) 0 k (fun c => c.later 0 4 (.s sd (c.getS sa <<< ((c.getS sb).toNat % 64)))) ∧
  Performs (.shr k sd sa sb) 0 k (fun c => c.later 0 4 (.s sd (c.getS sa >>> ((c.getS sb).toNat % 64)))) ∧
  Performs (.sra k sd sa sb) 0 k (fun c => c.later 0 4 (.s sd ((c.getS sa).sshiftRight ((c.getS sb).toNat % 64)))) ∧
  Performs (.mul k sd sa sb) 0 k (fun c => c.later 0 6 (.s sd (c.getS sa * c.getS sb))) ∧
  Performs (.mulhu k sd sa sb) 0 k (fun c => c.later 0 6 (.s sd (BitVec.ofNat 64 ((c.getS sa).toNat * (c.getS sb).toNat / 2 ^ 64)))) ∧
  Performs (.divu k sd sa sb) 0 k (fun c => c.later 0 24 (.s sd (if c.getS sb = 0 then 0xFFFFFFFFFFFFFFFF else c.getS sa / c.getS sb))) ∧
  Performs (.remu k sd sa sb) 0 k (fun c => c.later 0 24 (.s sd (if c.getS sb = 0 then c.getS sa else c.getS sa % c.getS sb))) ∧
  Performs (.minOp k sd sa sb) 0 k (fun c => c.later 0 4 (.s sd (if (c.getS sa).sle (c.getS sb) then c.getS sa else c.getS sb))) ∧
  Performs (.maxOp k sd sa sb) 0 k (fun c => c.later 0 4 (.s sd (if (c.getS sa).sle (c.getS sb) then c.getS sb else c.getS sa))) ∧
  Performs (.cmpEq k sd sa sb) 0 k (fun c => c.later 0 4 (.s sd (if c.getS sa = c.getS sb then 1 else 0))) ∧
  Performs (.cmpLt k sd sa sb) 0 k (fun c => c.later 0 4 (.s sd (if (c.getS sa).toInt < (c.getS sb).toInt then 1 else 0))) ∧
  Performs (.cmpLtu k sd sa sb) 0 k (fun c => c.later 0 4 (.s sd (if (c.getS sa).toNat < (c.getS sb).toNat then 1 else 0)))

/-- R139: the operations on a register and an immediate; imm12 is sign-extended. -/
def ScalarImmediateOperationsHold : Prop := ∀ (k : Ctx) (sd sa sh : Fin 64) (pos : Fin 4) (imm : BitVec 12) (imm16 : BitVec 16),
  Performs (.addi k sd sa imm) 0 k (fun c => c.later 0 4 (.s sd (c.getS sa + imm.signExtend 64))) ∧
  Performs (.andi k sd sa imm) 0 k (fun c => c.later 0 4 (.s sd (c.getS sa &&& imm.signExtend 64))) ∧
  Performs (.ori k sd sa imm) 0 k (fun c => c.later 0 4 (.s sd (c.getS sa ||| imm.signExtend 64))) ∧
  Performs (.xori k sd sa imm) 0 k (fun c => c.later 0 4 (.s sd (c.getS sa ^^^ imm.signExtend 64))) ∧
  Performs (.shli k sd sa sh) 0 k (fun c => c.later 0 4 (.s sd (c.getS sa <<< sh.val))) ∧
  Performs (.shri k sd sa sh) 0 k (fun c => c.later 0 4 (.s sd (c.getS sa >>> sh.val))) ∧
  Performs (.srai k sd sa sh) 0 k (fun c => c.later 0 4 (.s sd ((c.getS sa).sshiftRight sh.val))) ∧
  Performs (.movz k sd pos imm16) 0 k (fun c => c.later 0 4 (.s sd (imm16.setWidth 64 <<< (16 * pos.val)))) ∧
  Performs (.movk k sd pos imm16) 0 k (fun c => c.later 0 4
    (.s sd ((c.getS sd &&& ~~~ ((0xFFFF : W64) <<< (16 * pos.val))) ||| (imm16.setWidth 64 <<< (16 * pos.val)))))

/-- R140: branches, CALL and RET set the redirect that the two delay bundles count down; CALL pushes the return index and RET pops it; LOOP
starts its body at the next bundle, or goes on behind its target when the count is 0. -/
def Obligations.BranchOperations : Prop := ∀ (k : Ctx) (sa : Fin 64) (target : Fin 16384),
  Performs (.b k target) 0 k (fun c => { c with redirect := some (2, target.val) }) ∧
  Performs (.beqz k sa target) 0 k (fun c => if c.getS sa = 0 then { c with redirect := some (2, target.val) } else c) ∧
  Performs (.bnez k sa target) 0 k (fun c => if c.getS sa ≠ 0 then { c with redirect := some (2, target.val) } else c) ∧
  Performs (.bltz k sa target) 0 k (fun c => if (c.getS sa).toInt < 0 then { c with redirect := some (2, target.val) } else c) ∧
  Performs (.bgez k sa target) 0 k (fun c => if 0 ≤ (c.getS sa).toInt then { c with redirect := some (2, target.val) } else c) ∧
  Performs (.call k target) 0 k (fun c => { c with redirect := some (2, target.val), calls := (c.pc + 2) :: c.calls }) ∧
  Performs (.ret k) 0 k (fun c => match c.calls with | [] => c | t :: ts => { c with redirect := some (2, t), calls := ts }) ∧
  PerformsIf (.loop k sa target) 0 k (fun _ => True) (fun _ d => (d.modCtx k fun c =>
    if (c.getS sa).toNat = 0 then { c with pc := target.val + 1 }
    else { c with loops := { start := c.pc, stop := target.val, left := (c.getS sa).toNat } :: c.loops }).passEnd k)

/-- R104, R107, R109, R141: NOP, GETC, STEP.INC, STEP.RD, DRAIN and END. -/
def Obligations.ControlOperations : Prop := ∀ (k : Ctx) (sp : Bool) (sd : Fin 64) (num : Fin 16),
  Performs (.nop k sp) 0 k id ∧
  (num.val ≤ 10 → PerformsIf (.getc k sd num) 0 k (fun _ => True) (fun _ d => d.modCtx k fun c => c.later 0 4 (.s sd (d.constant k num)))) ∧
  (10 < num.val → ∀ s, exec (.getc k sd num) s = .refused .undefinedEncoding) ∧
  Performs (.stepInc k sd) 0 k (fun c => { c with step := c.step + 1 }.later 0 4 (.s sd (c.step + 1))) ∧
  Performs (.stepRd k sd) 0 k (fun c => c.later 0 4 (.s sd c.step)) ∧
  PerformsIf (.drain k) 0 k (fun _ => True) (fun _ d => d.addHold k { why := .drain, kind := 6, slot := 0 }) ∧
  PerformsIf (.endOp k) 0 k (fun _ => True) (fun _ d => d.endCtx k)

/-! ### Slot V -/

/-- R102, R143, R144: the lane operations write the lanes of vd whose mask bit is 1. -/
def Obligations.VectorLaneOperations : Prop := ∀ (k : Ctx) (vd va vb sb : Fin 64) (mk : Fin 16) (ty : Fin 4),
  Performs (.vnop k) 1 k id ∧
  Performs (.vadd k vd va vb mk ty) 1 k (fun c => c.later 1 (if ty = 0 then 2 else 4)
    (.v vd (c.getM mk) ((upto 64).map fun l => laneAdd ty (c.lane va l) (c.lane vb l)))) ∧
  Performs (.vsub k vd va vb mk ty) 1 k (fun c => c.later 1 (if ty = 0 then 2 else 4)
    (.v vd (c.getM mk) ((upto 64).map fun l => laneSub ty (c.lane va l) (c.lane vb l)))) ∧
  Performs (.vmul k vd va vb mk ty) 1 k (fun c => c.later 1 4
    (.v vd (c.getM mk) ((upto 64).map fun l => laneMul ty (c.lane va l) (c.lane vb l)))) ∧
  Performs (.vmin k vd va vb mk ty) 1 k (fun c => c.later 1 (if ty = 0 then 2 else 4)
    (.v vd (c.getM mk) ((upto 64).map fun l => laneMinMax false ty (c.lane va l) (c.lane vb l)))) ∧
  Performs (.vmax k vd va vb mk ty) 1 k (fun c => c.later 1 (if ty = 0 then 2 else 4)
    (.v vd (c.getM mk) ((upto 64).map fun l => laneMinMax true ty (c.lane va l) (c.lane vb l)))) ∧
  Performs (.vabs k vd va mk ty) 1 k (fun c => c.later 1 2 (.v vd (c.getM mk) ((upto 64).map fun l => laneAbs ty (c.lane va l)))) ∧
  Performs (.vneg k vd va mk ty) 1 k (fun c => c.later 1 2 (.v vd (c.getM mk) ((upto 64).map fun l => laneNeg ty (c.lane va l)))) ∧
  Performs (.vand k vd va vb mk) 1 k (fun c => c.later 1 2 (.v vd (c.getM mk) ((upto 64).map fun l => c.lane va l &&& c.lane vb l))) ∧
  Performs (.vor k vd va vb mk) 1 k (fun c => c.later 1 2 (.v vd (c.getM mk) ((upto 64).map fun l => c.lane va l ||| c.lane vb l))) ∧
  Performs (.vxor k vd va vb mk) 1 k (fun c => c.later 1 2 (.v vd (c.getM mk) ((upto 64).map fun l => c.lane va l ^^^ c.lane vb l))) ∧
  Performs (.vshl k vd va vb mk) 1 k (fun c => c.later 1 2
    (.v vd (c.getM mk) ((upto 64).map fun l => c.lane va l <<< ((c.lane vb l).toNat % 32)))) ∧
  Performs (.vshr k vd va vb mk) 1 k (fun c => c.later 1 2
    (.v vd (c.getM mk) ((upto 64).map fun l => c.lane va l >>> ((c.lane vb l).toNat % 32)))) ∧
  Performs (.vsra k vd va vb mk) 1 k (fun c => c.later 1 2
    (.v vd (c.getM mk) ((upto 64).map fun l => (c.lane va l).sshiftRight ((c.lane vb l).toNat % 32)))) ∧
  Performs (.vmov k vd va mk) 1 k (fun c => c.later 1 2 (.v vd (c.getM mk) ((upto 64).map fun l => c.lane va l))) ∧
  Performs (.vperm k vd va vb mk) 1 k (fun c => c.later 1 4
    (.v vd (c.getM mk) ((upto 64).map fun l => c.lane va ((c.lane vb l).toNat % 64)))) ∧
  Performs (.vidx k vd mk) 1 k (fun c => c.later 1 2 (.v vd (c.getM mk) ((upto 64).map fun l => BitVec.ofNat 32 (c.rank * 64 + l)))) ∧
  Performs (.vbcast k vd sb mk) 1 k (fun c => c.later 1 2 (.v vd (c.getM mk) ((upto 64).map fun _ => (c.getS sb).setWidth 32)))

/-- R142 to R144: the floating-only lane operations complete for FP32, BF16 and FP16, and their encoding with ty I32 is refused (R133). -/
def FloatingOnlyOperationsHold : Prop := ∀ (k : Ctx) (vd va vb : Fin 64) (mk : Fin 16) (ty : Fin 4),
  (ty ≠ 0 →
    Performs (.vfma k vd va vb mk ty) 1 k (fun c => c.later 1 6
      (.v vd (c.getM mk) ((upto 64).map fun l => laneFma ty (c.lane vd l) (c.lane va l) (c.lane vb l)))) ∧
    Performs (.vdiv k vd va vb mk ty) 1 k (fun c => c.later 1 16
      (.v vd (c.getM mk) ((upto 64).map fun l => laneDiv ty (c.lane va l) (c.lane vb l)))) ∧
    Performs (.vsqrt k vd va mk ty) 1 k (fun c => c.later 1 16 (.v vd (c.getM mk) ((upto 64).map fun l => laneSqrt ty (c.lane va l)))) ∧
    Performs (.vexp2 k vd va mk ty) 1 k (fun c => c.later 1 12 (.v vd (c.getM mk) ((upto 64).map fun l => laneExp2 ty (c.lane va l)))) ∧
    Performs (.vlog2 k vd va mk ty) 1 k (fun c => c.later 1 12 (.v vd (c.getM mk) ((upto 64).map fun l => laneLog2 ty (c.lane va l))))) ∧
  ∀ s, exec (.vfma k vd va vb mk 0) s = .refused .undefinedEncoding ∧ exec (.vdiv k vd va vb mk 0) s = .refused .undefinedEncoding ∧
    exec (.vsqrt k vd va mk 0) s = .refused .undefinedEncoding ∧ exec (.vexp2 k vd va mk 0) s = .refused .undefinedEncoding ∧
    exec (.vlog2 k vd va mk 0) s = .refused .undefinedEncoding

/-- The mask whose bit `l` is `f l`. -/
def maskOf (f : Nat → Bool) : W64 := (upto 64).foldl (fun (x : W64) l => if f l then x ||| (1 <<< l) else x) 0

/-- R144: comparisons into masks, mask operations, and the operations between vectors, masks and scalars. -/
def MaskAndReductionOperationsHold : Prop := ∀ (k : Ctx) (sd va vb sb : Fin 64) (md ma mb mk : Fin 16) (ty : Fin 4),
  Performs (.vcmpEq k md va vb mk ty) 1 k (fun c => c.later 1 2 (.m md (c.getM mk) (maskOf fun l => laneCmp .eq ty (c.lane va l) (c.lane vb l)))) ∧
  Performs (.vcmpLt k md va vb mk ty) 1 k (fun c => c.later 1 2 (.m md (c.getM mk) (maskOf fun l => laneCmp .lt ty (c.lane va l) (c.lane vb l)))) ∧
  Performs (.vcmpLe k md va vb mk ty) 1 k (fun c => c.later 1 2 (.m md (c.getM mk) (maskOf fun l => laneCmp .le ty (c.lane va l) (c.lane vb l)))) ∧
  Performs (.vext k sd va sb) 1 k (fun c => c.later 1 4 (.s sd ((c.lane va ((c.getS sb).toNat % 64)).setWidth 64))) ∧
  Performs (.vrsum k sd va mk) 1 k (fun c => c.later 1 6 (.s sd (((c.activeLanes va mk).foldl (· + ·) 0).signExtend 64))) ∧
  (ty.val ≤ 1 → Performs (.vrmax k sd va mk ty) 1 k (fun c => c.later 1 6 (.s sd (rmax ty (c.activeLanes va mk))))) ∧
  (1 < ty.val → ∀ s, exec (.vrmax k sd va mk ty) s = .refused .undefinedEncoding) ∧
  Performs (.mand k md ma mb mk) 1 k (fun c => c.later 1 1 (.m md (c.getM mk) (c.getM ma &&& c.getM mb))) ∧
  Performs (.mor k md ma mb mk) 1 k (fun c => c.later 1 1 (.m md (c.getM mk) (c.getM ma ||| c.getM mb))) ∧
  Performs (.mxor k md ma mb mk) 1 k (fun c => c.later 1 1 (.m md (c.getM mk) (c.getM ma ^^^ c.getM mb))) ∧
  Performs (.mandn k md ma mb mk) 1 k (fun c => c.later 1 1 (.m md (c.getM mk) (c.getM ma &&& ~~~ c.getM mb))) ∧
  Performs (.mset k md sb) 1 k (fun c => c.later 1 2 (.m md 0xFFFFFFFFFFFFFFFF (c.getS sb))) ∧
  Performs (.mget k sd ma) 1 k (fun c => c.later 1 2 (.s sd (c.getM ma))) ∧
  Performs (.mpop k sd ma) 1 k (fun c => c.later 1 2 (.s sd (BitVec.ofNat 64 (popcount 64 (c.getM ma).toNat))))

/-- R144 to R146: conversions, packs and unpacks complete; VCVT and VMXQ encodings that R142 to R146 do not allow are refused. -/
def ConversionOperationsHold : Prop := ∀ (k : Ctx) (src dst : Fin 8) (fmt : Fin 6) (bf : Bool) (vd va vb : Fin 64) (mk : Fin 16) (mode : Fin 4),
  (src ≠ dst → src ≠ 7 → dst ≠ 7 → mode ≠ 3 → Performs (.vcvt k src dst vd va vb mk mode) 1 k (fun c => c.later 1 4
    (.v vd (c.getM mk) ((upto 64).map fun l => laneCvt src dst (rndOf mode) (c.lane va l) (c.lane vb l))))) ∧
  (src = dst ∨ src = 7 ∨ dst = 7 ∨ mode = 3 → ∀ s, exec (.vcvt k src dst vd va vb mk mode) s = .refused .undefinedEncoding) ∧
  (mode ≠ 3 → Performs (.vmxq k fmt bf vd va vb mk mode) 1 k (fun c => c.later 1 8
    (.v vd (c.getM mk) (vmxq fmt (if bf then 2 else 1) (rndOf mode) (c.getM mk) (c.getV va) (c.getV vb))))) ∧
  (∀ s, exec (.vmxq k fmt bf vd va vb mk 3) s = .refused .undefinedEncoding) ∧
  Performs (.vpack4 k vd va) 1 k (fun c => c.later 1 4 (.v vd 0xFFFFFFFFFFFFFFFF (vpack 4 (c.getV va)))) ∧
  Performs (.vpack6 k vd va) 1 k (fun c => c.later 1 4 (.v vd 0xFFFFFFFFFFFFFFFF (vpack 6 (c.getV va)))) ∧
  Performs (.vpack8 k vd va) 1 k (fun c => c.later 1 4 (.v vd 0xFFFFFFFFFFFFFFFF (vpack 8 (c.getV va)))) ∧
  Performs (.vunpk4 k vd va) 1 k (fun c => c.later 1 4 (.v vd 0xFFFFFFFFFFFFFFFF (vunpack 4 (c.getV va)))) ∧
  Performs (.vunpk6 k vd va) 1 k (fun c => c.later 1 4 (.v vd 0xFFFFFFFFFFFFFFFF (vunpack 6 (c.getV va)))) ∧
  Performs (.vunpk8 k vd va) 1 k (fun c => c.later 1 4 (.v vd 0xFFFFFFFFFFFFFFFF (vunpack 8 (c.getV va))))

/-- R147, R360, R365: the Flicker draws, native and by the region's active table; an odd va is refused. -/
def FlickerOperationsHold : Prop := ∀ (k : Ctx) (vd va sb : Fin 64) (md mk : Fin 16),
  (va.val % 2 = 0 →
    PerformsIf (.flkRaw k vd va sb mk) 1 k (fun _ => True) (fun _ d => d.modCtx k fun c => c.later 1 6 (.v vd (c.getM mk)
      ((upto 64).map fun l => if (c.getM mk).getLsbD l then d.flickerWord k (c.drawIndex va l) ((c.getS sb).setWidth 32) else 0))) ∧
    PerformsIf (.flkTraw k vd va sb mk) 1 k (fun _ => True) (fun _ d => d.modCtx k fun c => c.later 1 6 (.v vd (c.getM mk)
      ((upto 64).map fun l => if (c.getM mk).getLsbD l then d.flickerTableWord k (c.drawIndex va l) ((c.getS sb).setWidth 32) else 0))) ∧
    PerformsIf (.flkMask k md va sb mk) 1 k (fun _ => True) (fun _ d => d.modCtx k fun c => c.later 1 6 (.m md (c.getM mk) (maskOf fun l =>
      (c.getM mk).getLsbD l && decide ((d.flickerWord k (c.drawIndex va l) ((c.getS sb).setWidth 32)).toNat / 2 ^ 16 <
        min (field (c.getS sb).toNat 48 32) 65536)))) ∧
    PerformsIf (.flkTmask k md va sb mk) 1 k (fun _ => True) (fun _ d => d.modCtx k fun c => c.later 1 6 (.m md (c.getM mk) (maskOf fun l =>
      (c.getM mk).getLsbD l && decide ((d.flickerTableWord k (c.drawIndex va l) ((c.getS sb).setWidth 32)).toNat / 2 ^ 16 <
        min (field (c.getS sb).toNat 48 32) 65536))))) ∧
  (va.val % 2 = 1 → ∀ s, exec (.flkRaw k vd va sb mk) s = .refused .undefinedEncoding ∧
    exec (.flkTraw k vd va sb mk) s = .refused .undefinedEncoding ∧ exec (.flkMask k md va sb mk) s = .refused .undefinedEncoding ∧
    exec (.flkTmask k md va sb mk) s = .refused .undefinedEncoding)


/-- R139: the scalar operations with register and with immediate operands. -/
def Obligations.ScalarOperations : Prop := ScalarRegisterOperationsHold ∧ ScalarImmediateOperationsHold

/-- R133, R142 to R147, R360, R365: the conversions, packs and unpacks of slot V, and the Flicker draws. -/
def Obligations.ConversionAndFlickerOperations : Prop := ConversionOperationsHold ∧ FlickerOperationsHold

/-- R133, R142 to R144: the floating-only lane operations, the comparisons into masks, the mask operations and the reductions. -/
def Obligations.FloatingAndMaskOperations : Prop := FloatingOnlyOperationsHold ∧ MaskAndReductionOperationsHold
/-! ### Slot T -/

/-- The tensor array of the core of context `k` is free, and no ROW.LD of the context has still to write a row of `rows`: a tensor dot or a
preload is not held (R106, R155, R169). -/
def arrayReady (d : Dev) (k : Ctx) (rows : List Nat) : Prop :=
  (d.core k.region k.core).replaying = none ∧ ∀ r ∈ rows, r ∉ (d.ctx k).rowsAwaited

/-- R68 to R78, R152 to R158: TNOP; TOPEN opens a chunk with an empty log, empty windows and the anchor of R71; the tensor dots and TPRE count
their tensor-array cycles and run their terms into the open chunk of their window set; TCLOSE closes it, and the end of a replay lets its
promotion arrive. -/
def TensorOperationsHold : Prop := ∀ (k : Ctx) (fa fb : Fin 16) (w : Fin 8) (t : Fin 32) (sa sb : Fin 64) (mk n1 : Fin 16) (n : Nat),
  Performs (.tnop k) 2 k id ∧
  (fa.val ≤ 12 → fb.val ≤ 12 → PerformsIf (.topen k fa fb w t sa) 2 k
    (fun d =>
      let x := ((d.ctx k).getS sa).toNat
      let co := d.core k.region k.core
      let rp := if bit x 54 then spanRows (field x 44 36) (field x 53 45 + 1) else []
      (d.ctx k).chunk? w = none ∧ (bit x 54 = true → field x 57 55 ≠ 7) ∧ (d.ctx k).rowsAwaited = [] ∧
      (∀ r ∈ spanRows (field x 8 0) (field x 17 9 + 1), co.tagBad (spanCode fa) r = false) ∧
      (∀ r ∈ spanRows (field x 26 18) (field x 35 27 + 1), co.tagBad (spanCode fb) r = false) ∧
      ∀ r ∈ rp, co.tagBad (field x 57 55) r = false)
    (fun _ d =>
      let x := ((d.ctx k).getS sa).toNat
      let rp := if bit x 54 then spanRows (field x 44 36) (field x 53 45 + 1) else []
      let a := anchorOf (d.core k.region k.core) fa fb (spanRows (field x 8 0) (field x 17 9 + 1)) (spanRows (field x 26 18) (field x 35 27 + 1)) rp
      d.modCtx k fun c => (c.setW w (List.replicate 64 (Window.zero.opened t a))).putChunk
        { w := w, fa := fa, fb := fb, pre := if bit x 54 then some (field x 57 55) else none, target := t, anchor := a })) ∧
  (∀ h : Chunk, ∀ op : Dev → LogOp,
    (op = fun d => { kind := 0, elemA := stAddr64 ((d.ctx k).getS sa).toNat 0, scaleA := stAddr ((d.ctx k).getS sa).toNat 18,
                     elemB := stAddr64 ((d.ctx k).getS sb).toNat 0, scaleB := stAddr ((d.ctx k).getS sb).toNat 18,
                     mask := (d.ctx k).getM mk, n := n1 + 1, d := dotCycles h.fa h.fb (n1 + 1) }) →
    PerformsIf (.tdot k w sa sb mk n1) 2 k
      (fun d => (d.ctx k).chunk? w = some h ∧ arrayReady d k ((op d).rows h none) ∧ pairAllowed h.fa h.fb = true ∧
        (op d).scaleOver (d.core k.region k.core).stageByte h = false ∧ h.log.length < 4096)
      (fun _ d => ((d.modCtx k fun c => c.hideWindows w (dotCycles h.fa h.fb (n1 + 1) + 6)).inc64 (aCo k.region k.core + rCoPfTarray) (dotCycles h.fa h.fb (n1 + 1))).runLogged k w ((op d).rows h none)
        ((op d).groups h + 1) (op d))) ∧
  (∀ h : Chunk, ∀ op : Dev → LogOp,
    (op = fun d => { kind := 1, elemA := stAddr64 ((d.ctx k).getS sa).toNat 0, scaleA := stAddr ((d.ctx k).getS sa).toNat 18,
                     elemB := stAddr64 ((d.ctx k).getS sb).toNat 0, scaleB := stAddr ((d.ctx k).getS sb).toNat 18,
                     pos := (d.core k.region k.core).positions (stAddr64 ((d.ctx k).getS sa).toNat 36), mask := (d.ctx k).getM mk,
                     d := max (ceilDiv ((d.core k.region k.core).positions (stAddr64 ((d.ctx k).getS sa).toNat 36)).length (64 * pairRate h.fa h.fb))
                       (ceilDiv (listSpan ((d.core k.region k.core).positions (stAddr64 ((d.ctx k).getS sa).toNat 36))) (512 * pairRate h.fa h.fb)) }) →
    PerformsIf (.tdotSp k w sa sb mk) 2 k
      (fun d => (d.ctx k).chunk? w = some h ∧
        arrayReady d k ((op d).rows h (some (stAddr64 ((d.ctx k).getS sa).toNat 36, 4 + 2 * (op d).pos.length))) ∧ pairAllowed h.fa h.fb = true ∧
        (op d).scaleOver (d.core k.region k.core).stageByte h = false ∧ h.log.length < 4096)
      (fun _ d => ((d.inc64 (aCo k.region k.core + rCoPfTarray) (op d).d).runLogged k w
        ((op d).rows h (some (stAddr64 ((d.ctx k).getS sa).toNat 36, 4 + 2 * (op d).pos.length))) ((op d).groups h + 1) (op d)).addHold k
          { why := .metered, kind := 1, slot := 2 })) ∧
  (∀ h : Chunk, ∀ op : Dev → LogOp,
    (op = fun d => { kind := 2, elemA := stAddr ((d.ctx k).getS sa).toNat 0, mask := (d.ctx k).getM mk }) →
    PerformsIf (.tpre k w sa mk) 2 k
      (fun d => (d.ctx k).chunk? w = some h ∧ arrayReady d k ((op d).rows h none) ∧ h.pre.isSome = true ∧ h.log.length < 4096)
      (fun _ d => ((d.modCtx k fun c => c.hideWindows w 4).inc64 (aCo k.region k.core + rCoPfTarray) 1).runLogged k w ((op d).rows h none)
        ((op d).groups h + 1) (op d))) ∧
  (∀ h : Chunk, PerformsIf (.tclose k w) 2 k (fun d => (d.ctx k).chunk? w = some h) (fun _ d => (d.closeChunk k h).1)) ∧
  (∀ d : Dev, (d.ctx k).replays w = true → ((d.replayEnds k w).ctx k).holds.filter (((d.replayEnds k w).ctx k).replayHold w) = [] →
    Takes (.replayDone k w n) d (d.replayEnds k w)) ∧
  (∀ d : Dev, (d.ctx k).replays w = true → ((d.replayEnds k w).ctx k).holds.filter (((d.replayEnds k w).ctx k).replayHold w) ≠ [] →
    Takes (.replayDone k w n) d (((d.replayEnds k w).modCtx k fun c => { c with holds := c.holds.filter fun h => !c.replayHold w h }).countHold k n))

/-- R92, R152 to R158: a tensor operation on a window set without an open chunk, a TOPEN on one with an open chunk, and a tensor dot of a pair of
formats that R61 does not allow abort the task; nothing of their bundle takes effect. -/
def TensorFaultsHold : Prop := ∀ (k : Ctx) (fa fb : Fin 16) (w : Fin 8) (t : Fin 32) (sa sb : Fin 64) (mk n1 : Fin 16),
  AbortsIf (.tdot k w sa sb mk n1) 2 k (fun d => (d.ctx k).chunk? w = none) 0x3005 ∧
  AbortsIf (.tdotSp k w sa sb mk) 2 k (fun d => (d.ctx k).chunk? w = none) 0x3005 ∧
  AbortsIf (.tpre k w sa mk) 2 k (fun d => (d.ctx k).chunk? w = none) 0x3005 ∧
  AbortsIf (.tclose k w) 2 k (fun d => (d.ctx k).chunk? w = none) 0x3005 ∧
  (fa.val ≤ 12 → fb.val ≤ 12 → AbortsIf (.topen k fa fb w t sa) 2 k (fun d => ((d.ctx k).chunk? w).isSome = true ∧ (d.ctx k).rowsAwaited = []) 0x3005) ∧
  AbortsIf (.tdot k w sa sb mk n1) 2 k
    (fun d => ∃ h, (d.ctx k).chunk? w = some h ∧ pairAllowed h.fa h.fb = false ∧ (d.core k.region k.core).replaying = none ∧ (d.ctx k).rowsAwaited = []) 0x3001

/-- R84, R91, R159, R160: TROUND writes lane sk.lane of vd with the rounded Long Total and counts its saturations and invalids; TADD and TCLR
write a Long Total; a TROUND encoding that R133 leaves undefined is refused. -/
def Obligations.RoundingOperations : Prop := ∀ (k : Ctx) (vd sk : Fin 64) (t td : Fin 32) (fo : Fin 8) (draw : Fin 16),
  let word (d : Dev) : Nat := (d.flickerWord k (BitVec.ofNat 64 (field ((d.ctx k).getS sk).toNat 63 16)) (BitVec.ofNat 32 draw)).toNat
  let res (d : Dev) (m : Rnd) (r : Nat) : RoundResult := ((d.ctx k).getT t).round m fo (signed 10 ((d.ctx k).getS sk).toNat) r
  let put (d : Dev) (r : RoundResult) : Dev :=
    (d.modCtx k fun c => c.later 2 8 (.v vd (1 <<< field ((d.ctx k).getS sk).toNat 15 10) (List.replicate 64 r.bits))).countRound k ((d.ctx k).getT t) r
  (fo.val ≤ 6 →
    PerformsIf (.troundNe k vd t fo sk 0) 2 k (fun _ => True) (fun _ d => put d (res d .ne 0)) ∧
    PerformsIf (.troundRz k vd t fo sk 0) 2 k (fun _ => True) (fun _ d => put d (res d .rz 0)) ∧
    PerformsIf (.troundSr k vd t fo sk draw) 2 k (fun _ => True) (fun _ d => put d (res d .sr (word d)))) ∧
  (6 < fo.val ∨ draw ≠ 0 → ∀ s, exec (.troundNe k vd t fo sk draw) s = .refused .undefinedEncoding ∧
    exec (.troundRz k vd t fo sk draw) s = .refused .undefinedEncoding) ∧
  (6 < fo.val → ∀ s, exec (.troundSr k vd t fo sk draw) s = .refused .undefinedEncoding) ∧
  Performs (.tadd k td t) 2 k (fun c => c.later 2 4 (.t td ((c.getT td).combine (c.getT t)))) ∧
  Performs (.tclr k td) 2 k (fun c => c.later 2 2 (.t td LongTotal.zero))

/-- R328 to R337: PLAIT and PLAIT.ALL put their header into the context, count themselves and go on when they await no reduction record, or hold
their bundle when eight steps are in progress, until the oldest has ended; a record that meets its operation waits in the receive buffer until its turn and
is then combined, forwarded or delivered, and one of another step or sequence aborts the task. A record is a header of 16 bytes and a total. -/
def Obligations.PlaitOperations : Prop := ∀ (k : Ctx) (td : Fin 32) (sender : Nat) (seq : BitVec 32),
  (∀ all : Bool, ∀ i, i = (if all then Instr.plaitAll k td else Instr.plait k td) →
    PerformsIf i 2 k (fun d => (d.ctx k).plaits.length < 8)
      (fun d0 d =>
        let c := d.ctx k
        let cores := ((d.task? c.task).getD { id := 0 }).cores
        let o : PlaitOp := { seq := (c.plaitSeq + 1) % 2 ^ 32, all := all, step := (d0.ctx k).step, td := td, acc := c.getT td }
        let e := (d.inc64 (aCo k.region k.core + rCoPlOps) 1).modCtx k fun c =>
          if all || c.rank = 0 then
            { c with plaitSeq := o.seq, plaits := c.plaits ++ [o] }.later 2 (if all then plaitTA cores else plaitT cores) (.t td o.acc) 3 o.seq
          else { c with plaitSeq := o.seq, plaits := c.plaits ++ [o] }
        if plaitReceipts cores.length c.rank = 0 then e.plaitReduced k cores.length c.rank o else e) ∧
    ∀ o : PlaitOp, HoldsIf i 2 k (fun d => 8 ≤ (d.ctx k).plaits.length ∧ (d.ctx k).plaits.head? = some o) { why := .plaitRoom o.seq, kind := 3, slot := 2 }) ∧
  ∀ (d : Dev) (t : Task) (o : PlaitOp) (x : PlaitRec) (kind : Nat), d.task? (d.ctx k).task = some t →
    (d.ctx k).plaitMeets t sender = some (o, kind) →
    (t.plaits.find? fun x => !x.received && x.sender == sender && x.dest == (d.ctx k).rank) = some x → x.seq = seq.toNat →
    (x.seq = o.seq → x.kind = kind → x.step = o.step → Takes (.plaitRecordReceive k sender seq) d
      ((d.modTask t.id fun t => { t with plaits := t.plaits.map fun y => if y = x then { y with received := true } else y }).plaitSteps k t.plaits.length)) ∧
    (x.seq ≠ o.seq ∨ x.kind ≠ kind → Takes (.plaitRecordReceive k sender seq) d
      ((d.setBit (aCo k.region k.core + rCoPlSticky) 1).abortTask t.id 0x1012 (some (d.faultAt k)))) ∧
    (x.seq = o.seq → x.kind = kind → x.step ≠ o.step → Takes (.plaitRecordReceive k sender seq) d
      ((d.setBit (aCo k.region k.core + rCoPlSticky) 0).abortTask t.id 0x1011 (some (d.faultAt k)))) ∧
    (x.seq < 2 ^ 32 → x.kind < 2 ^ 8 → x.sender < 2 ^ 16 →
      let rd := bytesAt x.bytes
      leNat rd 0 8 = x.step.toNat ∧ leNat rd 8 4 = x.seq ∧ leNat rd 12 1 = x.kind ∧ leNat rd 13 1 = 0 ∧ leNat rd 14 2 = x.sender ∧
      x.bytes.drop 16 = x.total.record)

/-- R161, R341 to R343: TOPK, TEPI and TPRUNE complete; TCOW queues its segment and writes the segment's length when its address is legal and
the store queue has room; the encodings that R161 does not allow are refused. -/
def Obligations.OutputStageOperations : Prop := ∀ (k : Ctx) (sd vd va sa sb kk : Fin 64) (md mk : Fin 16) (ty esz : Fin 4) (mc : Fin 8),
  Performs (.topk k vd va sb mk) 2 k (fun c => c.later 2 8 (.v vd
    (maskOf fun l => decide (l < field (c.getS sb).toNat 36 32 + 1) || (decide (32 ≤ l) && decide (l < 32 + (field (c.getS sb).toNat 36 32 + 1))))
    (topk (bit (c.getS sb).toNat 37) (bit (c.getS sb).toNat 38) (field (c.getS sb).toNat 36 32 + 1) (BitVec.ofNat 32 (c.getS sb).toNat)
      (c.getM mk) (c.getV vd) (c.getV va)))) ∧
  Performs (.tepiAdd k vd va mk ty) 2 k (fun c => c.later 2 4
    (.v vd (c.getM mk) ((upto 64).map fun l => laneAdd ty (c.lane vd l) (c.lane va l)))) ∧
  Performs (.tepiMul k vd va mk ty) 2 k (fun c => c.later 2 4
    (.v vd (c.getM mk) ((upto 64).map fun l => laneMul ty (c.lane vd l) (c.lane va l)))) ∧
  (∀ (i : Instr) (w : Nat),
    (i = .tcow k sd va sa mk esz ∧ esz.val ≤ 2 ∧ w = 8 * 2 ^ esz.val) ∨ (i = .tcow4 k sd va sa mk ∧ w = 4) ∨ (i = .tcow6 k sd va sa mk ∧ w = 6) →
    PerformsIf i 2 k
      (fun d =>
        let a := ((d.ctx k).getS sa).toNat
        (d.core k.region k.core).storeQ.length < 16 ∧ a % 8 = 0 ∧ inStore a = true ∧
        inOneStore a (cowSegment w ((d.ctx k).getM mk) ((d.ctx k).getV va)).length = true ∧
        ((d.core k.region k.core).fixedPipe = true → regionOf a = k.region.val))
      (fun _ d =>
        let seg := cowSegment w ((d.ctx k).getM mk) ((d.ctx k).getV va)
        (d.queueStore k (cellsAt ((d.ctx k).getS sa).toNat seg)).modCtx k fun c => c.later 2 4 (.s sd (BitVec.ofNat 64 seg.length))) ∧
    AbortsIf i 2 k (fun d => (d.core k.region k.core).storeQ.length < 16 ∧ ((d.ctx k).getS sa).toNat % 8 ≠ 0) 0x4008 ∧
    HoldsIf i 2 k (fun d => 16 ≤ (d.core k.region k.core).storeQ.length) { why := .storeQueue, kind := 2, slot := 2 }) ∧
  (2 < esz.val → ∀ s, exec (.tcow k sd va sa mk esz) s = .refused .undefinedEncoding) ∧
  (mc.val ≤ 4 → 1 ≤ kk.val → kk.val < 4 * 2 ^ mc.val →
    Performs (.tpruneI k md va mk mc kk) 2 k (fun c => c.later 2 6 (.m md (c.getM mk) (tprune 0 (4 * 2 ^ mc.val) kk (c.getM mk) (c.getV va)))) ∧
    Performs (.tpruneF k md va mk mc kk) 2 k (fun c => c.later 2 6 (.m md (c.getM mk) (tprune 1 (4 * 2 ^ mc.val) kk (c.getM mk) (c.getV va)))) ∧
    Performs (.tpruneBf k md va mk mc kk) 2 k (fun c => c.later 2 6 (.m md (c.getM mk) (tprune 2 (4 * 2 ^ mc.val) kk (c.getM mk) (c.getV va)))) ∧
    Performs (.tpruneH k md va mk mc kk) 2 k (fun c => c.later 2 6 (.m md (c.getM mk) (tprune 3 (4 * 2 ^ mc.val) kk (c.getM mk) (c.getV va))))) ∧
  (4 < mc.val ∨ kk.val = 0 ∨ 4 * 2 ^ mc.val ≤ kk.val → ∀ s, exec (.tpruneI k md va mk mc kk) s = .refused .undefinedEncoding ∧
    exec (.tpruneF k md va mk mc kk) s = .refused .undefinedEncoding ∧ exec (.tpruneBf k md va mk mc kk) s = .refused .undefinedEncoding ∧
    exec (.tpruneH k md va mk mc kk) s = .refused .undefinedEncoding)

/-- No row of `rows` awaits a ROW.LD of the context. -/
def rowsReady (d : Dev) (k : Ctx) (rows : List Nat) : Prop := ∀ r ∈ rows, r ∉ (d.ctx k).rowsAwaited

/-- R162, R187, R191 to R195, R208, R209: the Ply operations, TMODE, the Splice operations and TALLY write their outputs and their count, and
all but TMODE hold the context after their bundle. The conditions are that their operands pass the checks of their rules. -/
def Obligations.SparseOperations : Prop := ∀ (k : Ctx) (sd sa sb : Fin 64),
  (∀ (i : Instr) (two : Bool) (lim : Nat) (f : (Nat → Byte) → Nat → Nat → Nat → PlyOut),
    (i = .plyAnd k sd sa sb ∧ two = true ∧ lim = 2097088 ∧ f = plyAnd) ∨
    (i = .plyPop k sd sa sb ∧ two = false ∧ lim = 2097088 ∧ f = fun rd a _ n => plyPop rd a n) ∨
    (i = .plyCmp k sd sa sb ∧ two = false ∧ lim = 65536 ∧ f = fun rd a _ n => plyCmp rd a n) →
    let bits (d : Dev) : Nat := field ((d.ctx k).getS sb).toNat 20 0
    let src1 (d : Dev) : Nat := stAddr64 ((d.ctx k).getS sa).toNat 0
    let src2 (d : Dev) : Nat := stAddr ((d.ctx k).getS sa).toNat 18
    let dst (d : Dev) : Nat := stAddr64 ((d.ctx k).getS sa).toNat 36
    let out (d : Dev) : PlyOut := f (d.core k.region k.core).stageByte (src1 d) (src2 d) (bits d)
    let apart (d : Dev) (a : Nat) : Prop := ringOverlap stageSize (dst d) (out d).bytes.length a (bits d / 8) = false ∨ (two = true ∧ a = dst d)
    PerformsIf i 2 k
      (fun d => bits d % 64 = 0 ∧ 64 ≤ bits d ∧ bits d ≤ lim ∧ rowsReady d k (stageRows (src1 d) (bits d / 8)) ∧
        (two = true → rowsReady d k (stageRows (src2 d) (bits d / 8))) ∧ apart d (src1 d) ∧ (two = true → apart d (src2 d)) ∧
        (d.core k.region k.core).anyPinned (stageRows (dst d) (out d).bytes.length) = false)
      (fun _ d => ((((d.modCore k.region k.core fun co => co.putStage (dst d) (out d).bytes).modCtx k fun c =>
        c.later 2 1 (.s sd (BitVec.ofNat 64 (out d).sd))).inc64 (aCo k.region k.core + rCoSpPlyBits) (bits d)).addHold k
          { why := .metered, kind := 1, slot := 2 })) ∧
    AbortsIf i 2 k (fun d => bits d % 64 ≠ 0 ∨ bits d < 64 ∨ lim < bits d) 0x4007) ∧
  (let hdr (d : Dev) : Nat := stAddr ((d.ctx k).getS sa).toNat 0
   let rd (d : Dev) : Nat → Byte := (d.core k.region k.core).stageByte
   let pop (d : Dev) : Nat := leNat (rd d) (hdr d) 2
   PerformsIf (.tmode k sd sa) 2 k
      (fun d => rowsReady d k (stageRows (hdr d) 16) ∧ (rd d (hdr d + 2)).toNat ≤ 12 ∧ rd d (hdr d + 3) = 0 ∧ pop d ≤ 4096)
      (fun _ d => if pop d < 2048
        then (d.inc64 (aCo k.region k.core + rCoSpTilesSparse) 1).modCtx k fun c => c.later 2 4 (.s sd 1)
        else (d.inc64 (aCo k.region k.core + rCoSpTilesDense) 1).modCtx k fun c => c.later 2 4 (.s sd 0))) ∧
  (∀ (i : Instr) (isect : Bool), (i = .splxMerge k sd sa ∧ isect = false) ∨ (i = .splxIsect k sd sa ∧ isect = true) →
    let at_ (d : Dev) : Nat := field ((d.ctx k).getS sa).toNat 47 0
    let src (d : Dev) (o l : Nat) : SpliceSrc :=
      { addr := leNat (d.loadByte k) (at_ d + o) 8, count := leNat (d.loadByte k) (at_ d + o + 8) 4, base := leNat (d.loadByte k) (at_ d + o + 12) 4,
        isLast := bit (d.loadByte k (at_ d + 60)).toNat l }
    let run (d : Dev) := spliceLoop (d.loadByte k) isect (src d 0 1) (src d 16 2) (leNat (d.loadByte k) (at_ d + 44) 4) (leNat (d.loadByte k) (at_ d + 48) 4)
      (leNat (d.loadByte k) (at_ d + 40) 4) ((src d 0 1).count + (src d 16 2).count + 2)
      { i := leNat (d.loadByte k) (at_ d + 52) 4, j := leNat (d.loadByte k) (at_ d + 56) 4 }
    let bytes (d : Dev) : List Byte := spliceBytes (bit (d.loadByte k (at_ d + 60)).toNat 0) (run d).out
    let out (d : Dev) : Nat := leNat (d.loadByte k) (at_ d + 32) 8
    let tail (d : Dev) : List Byte := leBytes (run d).i 4 ++ leBytes (run d).j 4 ++ [d.loadByte k (at_ d + 60),
      BitVec.ofNat 8 ((run d).complete.toNat + 2 * (run d).outFull.toNat)]
    PerformsIf i 2 k
      (fun d => ownRange k 64 (at_ d) 64 = true ∧ d.storeRead (at_ d) 64 false = none ∧ spliceOk k (d.loadByte k) (at_ d) = true ∧
        d.storeRead (src d 0 1).addr (4 * (src d 0 1).count) false = none ∧ d.storeRead (src d 16 2).addr (4 * (src d 16 2).count) false = none ∧
        (d.strict (d.ctx k).task = true → (run d).err.first = 0) ∧
        d.storeWrite (d.asWriter k) (out d) (bytes d).length false = none ∧ d.storeWrite (d.asWriter k) (at_ d + 52) 10 false = none)
      (fun _ d => (((((d.windowWrite (d.asWriter k) (out d) (bytes d)).windowWrite (d.asWriter k) (at_ d + 52) (tail d)).countDrops k (run d).err.range
        (run d).err.order).modCtx k fun c => c.later 2 1 (.s sd (BitVec.ofNat 64 (run d).n))).addHold k { why := .metered, kind := 1, slot := 2 })) ∧
    AbortsIf i 2 k (fun d => ownRange k 64 (at_ d) 64 = false) 0x4006) ∧
  (let at_ (d : Dev) : Nat := field ((d.ctx k).getS sa).toNat 47 0
   let rd (d : Dev) : Nat → Byte := d.loadByte k
   let n (d : Dev) : Nat := leNat (rd d) (at_ d + 8) 4
   let cs (d : Dev) := tallyCounts (rd d) (leNat (rd d) (at_ d) 8) (n d) (leNat (rd d) (at_ d + 16) 8) (rd d (at_ d + 24)).toNat
     (leNat (rd d) (at_ d + 40) 4) (leNat (rd d) (at_ d + 44) 4)
   let top (d : Dev) : Nat := (cs d).1.foldl max 0
   PerformsIf (.tally k sd sa) 2 k
      (fun d => ownRange k 64 (at_ d) 64 = true ∧ d.storeRead (at_ d) 64 false = none ∧ tallyOk k (rd d) (at_ d) = true ∧
        d.storeRead (leNat (rd d) (at_ d) 8) (4 * n d) false = none ∧ (d.strict (d.ctx k).task = true → (cs d).2 = n d) ∧
        d.storeWrite (d.asWriter k) (leNat (rd d) (at_ d + 32) 8) 2312 false = none)
      (fun _ d => (((d.windowWrite (d.asWriter k) (leNat (rd d) (at_ d + 32) 8)
        ((cs d).1.flatMap (fun x => leBytes x 4) ++ leBytes (top d) 4 ++ leBytes (cs d).2 4)).countDrops k (n d - (cs d).2) 0).modCtx k fun c =>
          c.later 2 1 (.s sd (BitVec.ofNat 64 (top d)))).addHold k { why := .metered, kind := 1, slot := 2 }) ∧
   AbortsIf (.tally k sd sa) 2 k (fun d => ownRange k 64 (at_ d) 64 = false) 0x4006)


/-- R61, R68 to R78, R92, R152 to R158: the tensor operations on chunks, and the statuses that abort them. -/
def Obligations.TensorOperations : Prop := TensorOperationsHold ∧ TensorFaultsHold
/-! ### Slot M -/

/-- The address `a` of an access of `n` bytes, aligned to `al`, keeps R165, R241 and R242. -/
def coreReaches (d : Dev) (k : Ctx) (a n al : Nat) : Prop :=
  a % al = 0 ∧ inStore a = true ∧ inOneStore a n = true ∧ ((d.core k.region k.core).fixedPipe = true → regionOf a = k.region.val)

/-- `n` bytes at `a` can be read: no bank group of them is off, no narrow access meets a fenced slice, and no word is poisoned or uncorrectable
(R243, R247, R249, R425). -/
def readable (d : Dev) (a n : Nat) (narrow : Bool) : Prop := d.anyOff a n = false ∧ (narrow = true → d.anyFenced a n = false) ∧ d.markIn a n = 0

/-- `n` bytes at `a` can be written by `w` (R243, R247, R249, R258). -/
def writable (d : Dev) (w : Writer) (a n : Nat) (narrow : Bool) : Prop :=
  d.anyOff a n = false ∧ (narrow = true → d.anyFenced a n = false) ∧ (d.hitchCheck w a n).1 = true ∧
  ∀ p ∈ d.marks, p.2 = 2 → 4 * p.1 < a + n → a < 4 * p.1 + 4 → a ≤ 4 * p.1 ∧ 4 * p.1 + 4 ≤ a + n

/-- R33, R98, R163 to R165, R238: a load whose address is legal and whose bytes can be read writes its destination after the contract latency of
its distance, TLDL one later; a load that lost arbitration waits for its data. GATH holds its context after its bundle. -/
def LoadOperationsHold : Prop := ∀ (k : Ctx) (sd vd va sa sb : Fin 64) (t : Fin 32) (mk : Fin 16) (imm : BitVec 12) (imm8 : BitVec 8) (late : Bool),
  let wait : Nat := if late then 2 else 0
  let A (d : Dev) : Nat := ((d.ctx k).getS sa + imm.signExtend 64).toNat
  let V (d : Dev) : Nat := ((d.ctx k).getS sa + imm8.signExtend 64 * 256).toNat
  let T (d : Dev) : Nat := ((d.ctx k).getS sa + imm.signExtend 64 * 128).toNat
  let G (d : Dev) (l : Nat) : Nat := ((d.ctx k).getS sb + ((d.ctx k).lane va l).setWidth 64 * 4).toNat
  let active (d : Dev) (l : Nat) : Prop := l < 64 ∧ ((d.ctx k).getM mk).getLsbD l = true
  Performs (.mnop k) 3 k id ∧
  PerformsIf (.ldW k sd sa imm late) 3 k (fun d => coreReaches d k (A d) 4 4 ∧ readable d (A d) 4 true)
    (fun _ d => d.modCtx k fun c => c.later 3 (loadLat k.region (A d)) (.s sd (BitVec.ofNat 64 (leNat (d.loadByte k) (A d) 4))) wait) ∧
  PerformsIf (.ldD k sd sa imm late) 3 k (fun d => coreReaches d k (A d) 8 8 ∧ readable d (A d) 8 true)
    (fun _ d => d.modCtx k fun c => c.later 3 (loadLat k.region (A d)) (.s sd (BitVec.ofNat 64 (leNat (d.loadByte k) (A d) 8))) wait) ∧
  PerformsIf (.vld k vd sa mk imm8 late) 3 k
    (fun d => V d % 64 = 0 ∧ ∀ l, active d l → coreReaches d k (V d + 4 * l) 4 4 ∧ readable d (V d + 4 * l) 4 true)
    (fun _ d => d.modCtx k fun c => c.later 3 (loadLat k.region (V d))
      (.v vd ((d.ctx k).getM mk) ((upto 64).map fun l => BitVec.ofNat 32 (leNat (d.loadByte k) (V d + 4 * l) 4))) wait) ∧
  PerformsIf (.gath k vd va sb mk) 3 k (fun d => ∀ l, active d l → coreReaches d k (G d l) 4 4 ∧ readable d (G d l) 4 true)
    (fun _ d => (d.modCtx k fun c => c.later 3 1 (.v vd (c.getM mk) ((upto 64).map fun l => BitVec.ofNat 32 (leNat (d.loadByte k) (G d l) 4)))).addHold k
      { why := .metered, kind := 1, slot := 3 }) ∧
  PerformsIf (.tldl k t sa imm late) 3 k (fun d => coreReaches d k (T d) 128 128 ∧ readable d (T d) 128 true)
    (fun _ d => d.modCtx k fun c => c.later 3 (loadLat k.region (T d) + 1) (.t t (LongTotal.ofRecord (d.loadByte k) (T d))) wait)

/-- R117, R165, R241, R249: a load aborts its task, with nothing of its bundle performed, when its address is misaligned, when it lies outside
the region stores, or when its bank group is off. -/
def LoadFaultsHold : Prop := ∀ (k : Ctx) (sd sa : Fin 64) (t : Fin 32) (imm : BitVec 12) (late : Bool) (i : Instr) (n u : Nat),
  (i = .ldW k sd sa imm late ∧ n = 4 ∧ u = 1) ∨ (i = .ldD k sd sa imm late ∧ n = 8 ∧ u = 1) ∨ (i = .tldl k t sa imm late ∧ n = 128 ∧ u = 128) →
  let A (d : Dev) : Nat := ((d.ctx k).getS sa + imm.signExtend 64 * BitVec.ofNat 64 u).toNat
  AbortsIf i 3 k (fun d => A d % n ≠ 0) 0x5001 ∧
  AbortsIf i 3 k (fun d => A d % n = 0 ∧ inStore (A d) = false) 0x5002 ∧
  AbortsIf i 3 k (fun d => coreReaches d k (A d) n n ∧ d.anyOff (A d) n = true) 0x5003

/-- R166, R238: a store queues its bytes at its core when its address is legal and the queue has room, and changes nothing else: its bytes reach
memory at STORE_QUEUE_WRITE. A full queue holds the bundle, and a misaligned store aborts the task. -/
def Obligations.StoreOperations : Prop := ∀ (k : Ctx) (ss vs sa : Fin 64) (t : Fin 32) (mk : Fin 16) (imm : BitVec 12) (imm8 : BitVec 8),
  let room (d : Dev) : Prop := (d.core k.region k.core).storeQ.length < 16
  let A (d : Dev) : Nat := ((d.ctx k).getS sa + imm.signExtend 64).toNat
  let V (d : Dev) : Nat := ((d.ctx k).getS sa + imm8.signExtend 64 * 256).toNat
  let T (d : Dev) : Nat := ((d.ctx k).getS sa + imm.signExtend 64 * 128).toNat
  PerformsIf (.stW k ss sa imm) 3 k (fun d => room d ∧ coreReaches d k (A d) 4 4)
    (fun _ d => d.queueStore k (cellsAt (A d) (leBytes ((d.ctx k).getS ss).toNat 4))) ∧
  PerformsIf (.stD k ss sa imm) 3 k (fun d => room d ∧ coreReaches d k (A d) 8 8)
    (fun _ d => d.queueStore k (cellsAt (A d) (leBytes ((d.ctx k).getS ss).toNat 8))) ∧
  PerformsIf (.vst k vs sa mk imm8) 3 k
    (fun d => room d ∧ V d % 64 = 0 ∧ ∀ l, l < 64 → ((d.ctx k).getM mk).getLsbD l = true → coreReaches d k (V d + 4 * l) 4 4)
    (fun _ d => d.queueStore k ((maskLanes ((d.ctx k).getM mk)).flatMap fun l => cellsAt (V d + 4 * l) (leBytes ((d.ctx k).lane vs l).toNat 4))) ∧
  PerformsIf (.tstl k t sa imm) 3 k (fun d => room d ∧ coreReaches d k (T d) 128 128)
    (fun _ d => d.queueStore k (cellsAt (T d) ((d.ctx k).getT t).record)) ∧
  (∀ i, i = .stW k ss sa imm ∨ i = .stD k ss sa imm ∨ i = .vst k vs sa mk imm8 ∨ i = .tstl k t sa imm →
    HoldsIf i 3 k (fun d => 16 ≤ (d.core k.region k.core).storeQ.length) { why := .storeQueue, kind := 2, slot := 3 }) ∧
  AbortsIf (.stW k ss sa imm) 3 k (fun d => room d ∧ A d % 4 ≠ 0) 0x5001 ∧
  AbortsIf (.stD k ss sa imm) 3 k (fun d => room d ∧ A d % 8 ≠ 0) 0x5001 ∧
  AbortsIf (.vst k vs sa mk imm8) 3 k (fun d => room d ∧ V d % 64 ≠ 0) 0x5001 ∧
  AbortsIf (.tstl k t sa imm) 3 k (fun d => room d ∧ T d % 128 ≠ 0) 0x5001

/-- R238, R258: the oldest store of a core leaves its queue and writes its bytes, the last of those at one address prevailing; every other byte
of memory is unchanged. (A waiting coil operation of its context may take effect with it: R254.) -/
def Obligations.StoresReachMemory : Prop := ∀ (region : Fin 8) (core : Fin 40) (e : StoreEntry) (q : List StoreEntry) (s : State),
  let k : Ctx := { region := region, core := core, slot := Fin.ofNat 12 e.slot }
  (s.dev.core region core).storeQ = e :: q → (s.dev.ctx k).coilOps = [] →
  (∀ p ∈ e.cells, s.dev.groupOff p.1 = false ∧ s.dev.sliceFenced p.1 = false) → (s.dev.hitchCells (.core k e.task) e.cells).1 = true →
  (∀ p ∈ s.dev.marks, p.2 = 2 → inStore (4 * p.1) = true → (∃ c ∈ e.cells, c.1 / 4 = p.1) → ∀ i < 4, ∃ c ∈ e.cells, c.1 = 4 * p.1 + i) →
  ∃ t, exec (.storeQueueWrite region core) s = .next t ∧ t.pending = s.pending ∧ (t.dev.core region core).storeQ = q ∧
    ∀ a, t.dev.byte a = ((e.cells.reverse.find? fun p => p.1 == a).map fun p => p.2).getD (s.dev.byte a)

/-- R197 to R202, R208: SCAT.ADD queues an addition for every active lane inside its buffer, counts the others, and holds its context; a queue has 16
places, beyond which the crossbar holds additions; a bank performs its oldest addition and counts it in the descriptor, behind its context's
earlier stores to the entry, and the oldest addition that the crossbar holds for the bank takes the place. -/
def Obligations.ScatteredAdditions : Prop := ∀ (k : Ctx) (vs va sb : Fin 64) (mk : Fin 16) (region : Fin 8) (bank : Fin 576),
  (let A (d : Dev) : Nat := ((d.ctx k).getS sb).toNat
   let type (d : Dev) : Nat := (d.loadByte k (A d + 12)).toNat
   let base (d : Dev) : Nat := leNat (d.loadByte k) (A d) 8
   let n (d : Dev) : Nat := leNat (d.loadByte k) (A d + 8) 4
   let lanes (d : Dev) : List Nat := maskLanes ((d.ctx k).getM mk)
   let inside (d : Dev) : List Nat := (lanes d).filter fun l => decide (((d.ctx k).lane va l).toNat < n d)
   let drops (d : Dev) : Nat := ((lanes d).filter fun l => !decide (((d.ctx k).lane va l).toNat < n d)).length
   PerformsIf (.scatAdd k vs va sb mk) 3 k
     (fun d => coreReaches d k (A d) 64 64 ∧ readable d (A d) 64 false ∧ accOk (d.loadByte k) (A d) = true ∧
       ((d.core k.region k.core).fixedPipe = true → regionOf (base d) = k.region.val) ∧ (d.strict (d.ctx k).task = true → drops d = 0) ∧
       (drops d ≠ 0 → writable d (d.asWriter k) (A d + 24) 8 false))
     (fun _ d =>
       let e := d.bumpField (A d + 24) (drops d)
       let e := if drops d = 0 then e
         else (e.inc64 (aCo k.region k.core + rCoSpScatDrops) (drops d)).setBit (aCo k.region k.core + rCoSpSticky) 2
       ((inside d).foldl (fun e l => e.queueAddition
         { owner := some k, task := (d.ctx k).task, entry := base d + ((d.ctx k).lane va l).toNat * accBytes (type d), type := type d,
           addend := (d.ctx k).lane vs l, desc := A d }) e).addHold k { why := .scatter, kind := 1, slot := 3 })) ∧
  (∀ (d : Dev) (x : Addition), d.queueAddition x = d.modRegion (regionOf x.entry) fun g =>
    let b := bankOf x.entry
    if (sget (fun _ => []) g.queues b).length < 16 then { g with queues := smod (fun _ => []) g.queues b fun q => q ++ [x] }
    else { g with crossbar := g.crossbar ++ [x] }) ∧
  ∀ (d : Dev) (x : Addition) (l : List Addition), sget (fun _ => []) (d.region region).queues bank = x :: l →
    let waits := ∃ k, x.owner = some k ∧ ∃ e ∈ (d.core k.region k.core).storeQ, e.slot = k.slot.val ∧
      ∃ c ∈ e.cells, overlap c.1 1 x.entry (accBytes x.type) = true
    let e := d.modRegion region fun g =>
      match g.crossbar.find? fun y => bankOf y.entry == bank with
      | none => { g with queues := sset (fun _ => []) g.queues bank (sget (fun _ => []) g.queues bank).tail }
      | some y => { g with queues := sset (fun _ => []) g.queues bank ((sget (fun _ => []) g.queues bank).tail ++ [y]), crossbar := g.crossbar.erase y }
    (waits → Takes (.scatAddition region bank) d d) ∧
    (¬ waits → readable e x.entry (accBytes x.type) true → writable e x.writer x.entry (accBytes x.type) true →
      writable e x.writer (x.desc + 16) 8 false →
      Takes (.scatAddition region bank) d ((e.windowWrite x.writer x.entry (x.result e.byte)).bumpField (x.desc + 16) 1))

/-- No row of `rows` is pinned on the core of context `k` (R73). -/
def rowsFree (d : Dev) (k : Ctx) (rows : List Nat) : Prop := (d.core k.region k.core).anyPinned rows = false

/-- R70, R73, R168, R169: SLD reads staging, SST queues a staging write for issue cycle i + 2, STAG tags rows; the row transfers start; a
transfer that is done is performed and leaves its context's list; ROW.WAIT holds. A write of a pinned row aborts the task. -/
def Obligations.StagingAndRows : Prop := ∀ (k : Ctx) (vd vs sa sb : Fin 64) (mk fmt : Fin 16) (imm8 : BitVec 8) (n1 : BitVec 8) (ix : Nat),
  let V (d : Dev) : Nat := stAddr64 ((d.ctx k).getS sa + imm8.signExtend 64 * 256).toNat 0
  let A (d : Dev) : Nat := ((d.ctx k).getS sa).toNat
  let B (d : Dev) : Nat := ((d.ctx k).getS sb).toNat
  let n : Nat := n1.toNat + 1
  let rows (d : Dev) : List Nat := spanRows (field (B d) 8 0) n
  let start (x : Xfer) (d : Dev) : Dev := d.modCtx k fun c => { c with xfers := c.xfers ++ [{ x with iat := c.cyc - 1 }] }
  PerformsIf (.sld k vd sa mk imm8) 3 k (fun d => rowsReady d k (sstRows (V d) ((d.ctx k).getM mk)))
    (fun _ d => d.modCtx k fun c => c.later 3 4 (.v vd (c.getM mk)
      ((upto 64).map fun l => BitVec.ofNat 32 (leNat (d.core k.region k.core).stageByte (V d + 4 * l) 4)))) ∧
  PerformsIf (.sst k vs sa mk imm8) 3 k (fun d => rowsFree d k (sstRows (V d) ((d.ctx k).getM mk)))
    (fun _ d => d.modCtx k fun c => { c with ssts := c.ssts ++ [{ addr := V d, mask := c.getM mk, x := c.getV vs, due := c.cyc + 1 }] }) ∧
  AbortsIf (.sst k vs sa mk imm8) 3 k (fun d => ¬ rowsFree d k (sstRows (V d) ((d.ctx k).getM mk))) 0x3004 ∧
  (fmt.val ≠ 14 →
    PerformsIf (.stag k sb n1 fmt) 3 k (fun d => rowsReady d k (rows d) ∧ rowsFree d k (rows d))
      (fun _ d => d.modCore k.region k.core fun co => (rows d).foldl (fun co r => co.tagRow r fmt) co) ∧
    PerformsIf (.rowLd k sa sb n1 fmt) 3 k (fun d => coreReaches d k (A d) (512 * n) 512 ∧ rowsFree d k (rows d))
      (fun _ d => start { kind := 0, addr := A d, row := field (B d) 8 0, n := n, fmt := fmt, iat := 0 } d)) ∧
  (∀ s, exec (.stag k sb n1 14) s = .refused .undefinedEncoding ∧ exec (.rowLd k sa sb n1 14) s = .refused .undefinedEncoding) ∧
  PerformsIf (.rowSt k sa sb n1) 3 k (fun d => rowsReady d k (rows d) ∧ coreReaches d k (A d) (512 * n) 512)
    (fun _ d => start { kind := 1, addr := A d, row := field (B d) 8 0, n := n, iat := 0 } d) ∧
  PerformsIf (.fill k sa sb n1) 3 k (fun d => coreReaches d k (A d) (512 * n) 512)
    (fun _ d => start { kind := 2, addr := A d, n := n, word := BitVec.ofNat 32 (B d), iat := 0 } d) ∧
  PerformsIf (.copy k sa sb n1) 3 k (fun d => coreReaches d k (A d) (512 * n) 512 ∧ coreReaches d k (B d) (512 * n) 512)
    (fun _ d => start { kind := 3, addr := A d, src := B d, n := n, iat := 0 } d) ∧
  PerformsIf (.rowWait k) 3 k (fun _ => True) (fun _ d => d.addHold k { why := .rowWait, kind := 2, slot := 3 }) ∧
  ∀ (d : Dev) (x : Xfer), (d.ctx k).xfers[ix]? = some x →
    (x.kind = 0 → readable d x.addr (512 * x.n) false ∧ rowsFree d k (spanRows x.row x.n)) →
    (x.kind = 3 → readable d x.src (512 * x.n) false ∧ ((d.region (regionOf x.addr)).fixedPipe = true → regionOf x.src = regionOf x.addr)) → (x.kind ≠ 0 → writable d (d.asWriter k) x.addr (512 * x.n) false) →
    Takes (.rowTransferDone k ix) d (((d.performXfer k x).modCtx k fun c => { c with xfers := c.xfers.eraseIdx ix }).settleCoils k)

/-- R252 to R255, R260: an operation on a valid coil handle does what its rule says; an operation on a stale or null handle aborts the task. -/
def Obligations.CoilOperations : Prop := ∀ (k : Ctx) (c : Fin 16) (sa sb sd : Fin 64),
  let h (d : Dev) : W32 := (d.ctx k).getC c
  let r (d : Dev) : Nat := hRegion (h d)
  let i (d : Dev) : Nat := hIndex (h d)
  let valid (d : Dev) : Prop := hKind (h d) = 1 ∧ hGen (h d) = d.coilGen (r d) (i d)
  let N (d : Dev) : Nat := ((d.ctx k).getS sb).toNat
  let tr (d : Dev) : Nat := field ((d.ctx k).getS sa).toNat 11 9
  let ti (d : Dev) : Nat := field ((d.ctx k).getS sa).toNat 8 0
  PerformsIf (.coilTake k c sa) 3 k
    (fun d => d.coilEnabled (tr d) (ti d) = true ∧ ∀ x ∈ (d.ctx k).coils ++ (d.ctx k).wins, x.2.2 < d.coilRank (tr d) (ti d))
    (fun _ d => (d.coilHold (tr d) (ti d)).modCtx k fun x => { x with coils := x.coils ++ [(tr d, ti d, d.coilRank (tr d) (ti d))] }.later 3 4
      (.c c (handleOf (ti d) (tr d) 1 (d.coilGen (tr d) (ti d))))) ∧
  PerformsIf (.coilDrop k c) 3 k valid (fun _ d => (d.dropCoil k (r d) (i d)).modCtx k fun x => x.later 3 1 (.c c 0)) ∧
  PerformsIf (.coilWait k c sb) 3 k (fun d => valid d ∧ N d % 4 = 0 ∧ N d ≤ d.coilSize (r d) (i d))
    (fun _ d => d.addHold k { why := .coilWait (r d) (i d) (N d), kind := 4, slot := 3 }) ∧
  (∀ push : Bool, ∀ op, op = (if push then Instr.coilPush k c sb else Instr.coilPop k c sb) →
    let o (d : Dev) : CoilOp := { push := push, region := r d, coil := i d, bytes := N d, iat := (d.ctx k).cyc - 1 }
    PerformsIf op 3 k
      (fun d => valid d ∧ N d % 4 = 0 ∧ (d.ctx k).coilOps = [] ∧ d.coilReady k (o d) = true ∧
        if push then d.coilReadable (r d) (i d) + N d ≤ d.coilSize (r d) (i d) else N d ≤ d.coilReadable (r d) (i d))
      (fun _ d => d.coilAdvance push (r d) (i d) (N d)) ∧
    PerformsIf op 3 k (fun d => valid d ∧ N d % 4 = 0 ∧ ((d.ctx k).coilOps ≠ [] ∨ d.coilReady k (o d) = false))
      (fun _ d => d.modCtx k fun x => { x with coilOps := x.coilOps ++ [o d] }) ∧
    AbortsIf op 3 k (fun d => valid d ∧ N d % 4 = 0 ∧ (d.ctx k).coilOps = [] ∧ d.coilReady k (o d) = true ∧
        if push then d.coilSize (r d) (i d) < d.coilReadable (r d) (i d) + N d else d.coilReadable (r d) (i d) < N d) 0x5008) ∧
  PerformsIf (.coilPtr k c sd) 3 k valid (fun _ d => d.modCtx k fun x => x.later 3 4 (.s sd (BitVec.ofNat 64 (d.coilHead (r d) (i d))))) ∧
  PerformsIf (.coilTptr k c sd) 3 k valid (fun _ d => d.modCtx k fun x => x.later 3 4 (.s sd (BitVec.ofNat 64 (d.coilTail (r d) (i d))))) ∧
  ∀ op, op = .coilDrop k c ∨ op = .coilWait k c sb ∨ op = .coilPush k c sb ∨ op = .coilPop k c sb ∨ op = .coilPtr k c sd ∨ op = .coilTptr k c sd →
    AbortsIf op 3 k (fun d => ¬ valid d) 0x5006

/-- R256 to R261: HITCH.OPEN takes the lowest free window of the region of its base for a legal descriptor; CLOSE and STAT act on a valid handle;
a window whose expiry DT has reached closes, and one whose expiry it has not reached stays. -/
def Obligations.HitchOperations : Prop := ∀ (k : Ctx) (h : Fin 16) (sa sd : Fin 64) (region : Fin 8) (window : Fin 256),
  (let A (d : Dev) : Nat := ((d.ctx k).getS sa).toNat
   let rd (d : Dev) : Nat → Byte := d.loadByte k
   let base (d : Dev) : Nat := leNat (rd d) (A d) 8
   let rank (d : Dev) : Nat := leNat (rd d) (A d + 12) 2
   ∀ i : Nat, PerformsIf (.hitchOpen k h sa) 3 k
     (fun d => coreReaches d k (A d) 32 32 ∧ readable d (A d) 32 false ∧
       d.winMayOpen (base d) (leNat (rd d) (A d + 8) 4) (rd d (A d + 14)).toNat (rd d (A d + 15)).toNat (leNat (rd d) (A d + 18) 2) (leNat (rd d) (A d + 24) 8) = true ∧
       ((upto 256).find? fun i => !d.winOpen (regionOf (base d)) i) = some i ∧ ∀ x ∈ (d.ctx k).coils ++ (d.ctx k).wins, x.2.2 < rank d)
     (fun _ d =>
       let r := regionOf (base d)
       let e := ((upto 8).foldl (fun e w => e.wr (winBase r i + 4 * w) (BitVec.ofNat 32 (leNat (rd d) (A d + 4 * w) 4))) d).openWindow r i (d.ctx k).task false (some k)
       e.modCtx k fun c => { c with wins := c.wins ++ [(r, i, rank d)] }.later 3 4 (.h h (handleOf i r 2 (e.winGen r i))))) ∧
  (let x (d : Dev) : W32 := (d.ctx k).getH h
   let valid (d : Dev) : Prop := hKind (x d) = 2 ∧ hGen (x d) = d.winGen (hRegion (x d)) (hIndex (x d))
   PerformsIf (.hitchClose k h) 3 k valid (fun _ d => d.endWindow (hRegion (x d)) (hIndex (x d))) ∧
   PerformsIf (.hitchStat k h sd) 3 k valid
     (fun _ d => d.modCtx k fun c => c.later 3 4 (.s sd (BitVec.ofNat 64 (d.rd64 (winBase (hRegion (x d)) (hIndex (x d)) + 0x28))))) ∧
   AbortsIf (.hitchClose k h) 3 k (fun d => ¬ valid d) 0x5006 ∧ AbortsIf (.hitchStat k h sd) 3 k (fun d => ¬ valid d) 0x5006) ∧
  ∀ d : Dev, d.winOpen region window = true →
    (d.winExpiry region window ≠ 0 → d.winExpiry region window ≤ d.dt.toNat → Takes (.hitchExpiry region window) d (d.endWindow region window)) ∧
    (d.winExpiry region window = 0 ∨ d.dt.toNat < d.winExpiry region window → Takes (.hitchExpiry region window) d d)

/-- R123, R265, R270 to R275, R281: the channel operations, the short path, knots, belays and CSAVE. -/
def Obligations.ChannelOperations : Prop := ∀ (k : Ctx) (q : Fin 8) (sa sb : Fin 64) (knot : Fin 256) (b : Fin 64) (region : Fin 8),
  let x (d : Dev) : W32 := (d.ctx k).getQ q
  let i (d : Dev) : Nat := hRegion (x d) * 8 + hIndex (x d)
  let valid (d : Dev) : Prop := hKind (x d) = 3 ∧ hGen (x d) = (d.chan (i d)).generation.toNat
  let A (d : Dev) : Nat := ((d.ctx k).getS sa).toNat
  let n (d : Dev) : Nat := field (A d) 2 0
  let ch (d : Dev) : Nat := k.region.val * 8 + n d
  PerformsIf (.strTake k q sa) 3 k
    (fun d => field (A d) 5 3 = k.region.val ∧
      ((d.chan (ch d)).task = (d.ctx k).task ∨ ((d.chan (ch d)).holders = [] ∧ (d.chan (ch d)).queue = [])) ∧
      ∃ t, d.task? (d.ctx k).task = some t ∧ t.channels.contains (ch d) = true)
    (fun _ d => ((if (d.chan (ch d)).task = (d.ctx k).task then d
        else (d.resetKnots (ch d)).modChan (ch d) fun c => { c with gate := none, remotes := [], nextBlock := 0 }).modChan (ch d) fun c => { c with task := (d.ctx k).task, holders := if c.holders.contains k then c.holders else c.holders ++ [k] }).modCtx k fun c =>
      { c with chans := if c.chans.contains (n d) then c.chans else c.chans ++ [n d] }.later 3 4
        (.q q (handleOf (n d) k.region 3 (d.chan (ch d)).generation.toNat))) ∧
  AbortsIf (.strTake k q sa) 3 k (fun d => field (A d) 5 3 ≠ k.region.val) 0x2006 ∧
  PerformsIf (.strIssue k q sa) 3 k
    (fun d => valid d ∧ (d.chan (i d)).queue.length < 64 ∧ A d % 64 = 0 ∧ inStoreOf (i d / 8) (A d) 64 = true ∧ readable d (A d) 64 false ∧
      (d.rawAt (A d)).ctl 0 = false ∧ d.armCheck (i d) (A d) ((d.task? (d.ctx k).task).getD { id := (d.ctx k).task }) (d.rawAt (A d)) = none ∧
      writable d (.chan (d.ctx k).task) (A d + 2) 1 false ∧ writable d (.chan (d.ctx k).task) (A d + 58) 2 false)
    (fun _ d =>
      let e := d.writeCells ((A d + 2, d.byte (A d + 2) ||| 1) :: cellsAt (A d + 58) (leBytes ((d.rawAt (A d)).u 58 2 + 1) 2))
      let e := if (d.rawAt (A d)).ctl 1 then e.setReached (i d) (d.rawAt (A d)).knot false else e
      e.modChan (i d) fun c => { c with queue := c.queue ++ [{ addr := A d, raw := e.rawAt (A d), task := (d.ctx k).task, owner := k }] }) ∧
  PerformsIf (.strIssue k q sa) 3 k
    (fun d => valid d ∧ (d.chan (i d)).queue.length < 64 ∧ A d % 64 = 0 ∧ inStoreOf (i d / 8) (A d) 64 = true ∧ readable d (A d) 64 false ∧
      (d.rawAt (A d)).ctl 0 = true ∧ writable d (.chan (d.ctx k).task) (A d + 58) 2 false)
    (fun _ d => ((d.writeCells (cellsAt (A d + 58) (leBytes ((d.rawAt (A d)).u 58 2 + 1) 2))).inc64 (aSt (i d / 8) (i d % 8) + rStRearms) 1).setBit (aSt (i d / 8) (i d % 8) + rStSticky) 0) ∧
  (∀ j, HoldsIf (.strIssue k q sa) 3 k (fun d => valid d ∧ i d = j ∧ 64 ≤ (d.chan j).queue.length) { why := .chanQueue j, kind := 3, slot := 3 }) ∧
  PerformsIf (.strDrop k q) 3 k valid (fun _ d => (d.dropChan (i d) k).modCtx k fun c => { c with chans := c.chans.filter fun m => m != i d % 8 }) ∧
  PerformsIf (.knotRel k q knot) 3 k valid (fun _ d => d.setReleased (i d) knot true) ∧
  PerformsIf (.knotWait k q knot) 3 k valid (fun _ d => d.addHold k { why := .knotWait (i d) knot, kind := 3, slot := 3 }) ∧
  (∀ op, op = .strIssue k q sa ∨ op = .strDrop k q ∨ op = .knotRel k q knot ∨ op = .knotWait k q knot → AbortsIf op 3 k (fun d => ¬ valid d) 0x2006) ∧
  PerformsIf (.blyArr k b) 3 k (fun _ => True)
    (fun _ d => d.modTask (d.ctx k).task fun t => { t with belays := smod (fun _ => 0) t.belays b (· + 1) }) ∧
  PerformsIf (.blyWait k b sb) 3 k (fun _ => True)
    (fun _ d => d.addHold k { why := .belayWait b (field ((d.ctx k).getS sb).toNat 15 0), kind := 3, slot := 3 })

/-- R281: STR.SHORT queues a transfer of legal ends, and the region's short path moves the bytes of the oldest one. -/
def Obligations.ShortPath : Prop := ∀ (k : Ctx) (sa sb : Fin 64) (region : Fin 8),
  (let src (d : Dev) : Nat := ((d.ctx k).getS sa).toNat
   let dst (d : Dev) : Nat := field ((d.ctx k).getS sb).toNat 47 0
   let n (d : Dev) : Nat := field ((d.ctx k).getS sb).toNat 55 48 + 1
   let legal (d : Dev) : Prop := src d % 4 = 0 ∧ dst d % 4 = 0 ∧ n d % 4 = 0 ∧ src d / 512 = (src d + n d - 1) / 512 ∧ dst d / 512 = (dst d + n d - 1) / 512
   PerformsIf (.strShort k sa sb) 3 k
     (fun d => (d.region k.region).shorts.length < 64 ∧ legal d ∧ inStore (src d) = true ∧ inStore (dst d) = true)
     (fun _ d => d.modRegion k.region fun g => { g with shorts := g.shorts ++
       [{ owner := k, task := (d.ctx k).task, src := src d, dst := dst d, len := n d, iat := (d.ctx k).cyc - 1 }] }) ∧
   AbortsIf (.strShort k sa sb) 3 k (fun d => (d.region k.region).shorts.length < 64 ∧ ¬ legal d) 0x2004 ∧
   AbortsIf (.strShort k sa sb) 3 k
     (fun d => (d.region k.region).shorts.length < 64 ∧ legal d ∧ (inStore (src d) = false ∨ inStore (dst d) = false)) 0x2005 ∧
   HoldsIf (.strShort k sa sb) 3 k (fun d => 64 ≤ (d.region k.region).shorts.length) { why := .shortQueue, kind := 3, slot := 3 }) ∧
  ∀ (d : Dev) (x : ShortXfer) (l : List ShortXfer), (d.region region).shorts = x :: l →
    let e := d.modRegion region fun g => { g with shorts := l }
    readable e x.src x.len false → writable e (.core x.owner x.task) x.dst x.len false →
    Takes (.shortTransfer region) d (e.windowWrite (.core x.owner x.task) x.dst (readBytes (e.rowByte x.owner x.iat) x.src x.len))

/-- R123 to R126: a CSAVE of a rank notes it and holds its context; the CSAVE that completes the ranks writes the task's image at the address of
rank 0. A CSAVE with an open chunk aborts the task. -/
def ContextSaveHold : Prop := ∀ (k : Ctx) (sa : Fin 64) (t : Task),
  let A (d : Dev) : Nat := ((d.ctx k).getS sa).toNat
  let note (d : Dev) (t : Task) : Task :=
    { t with csaves := if t.csaves.contains (d.ctx k).rank then t.csaves else (d.ctx k).rank :: t.csaves
             csaveAddr := if (d.ctx k).rank = 0 then A d else t.csaveAddr, savedAt := if (d.ctx k).rank = 0 then d.dt else t.savedAt }
  let noted (d : Dev) : Dev := (d.modTask t.id (note d)).addHold k { why := .csave, kind := 3, slot := 3 }
  let legal (d : Dev) : Prop := d.task? (d.ctx k).task = some t ∧ (d.ctx k).chunks = [] ∧
    ((d.ctx k).rank = 0 → A d % 64 = 0 ∧ runMapped ((A d : Int), imageLength t.cores.length) = true)
  PerformsIf (.csave k sa) 3 k (fun d => legal d ∧ (note d t).csaves.length ≠ t.cores.length) (fun _ d => noted d) ∧
  PerformsIf (.csave k sa) 3 k
    (fun d => legal d ∧ (note d t).csaves.length = t.cores.length ∧
      (noted d).dataWrite ((noted d).asWriter k) (note d t).csaveAddr ((note d t).imageBytes ((note d t).places.map fun p => (noted d).ctx p)).length false = none)
    (fun _ d => ((noted d).putData ((noted d).asWriter k) (note d t).csaveAddr ((note d t).imageBytes ((note d t).places.map fun p => (noted d).ctx p))).modTask t.id
      fun t => { t with csaves := [] }) ∧
  AbortsIf (.csave k sa) 3 k (fun d => d.task? (d.ctx k).task = some t ∧ (d.ctx k).chunks ≠ []) 0x3005


/-- R33, R98, R117, R163 to R165, R238, R241, R249: loads, and the statuses that abort them. -/
def Obligations.LoadOperations : Prop := LoadOperationsHold ∧ LoadFaultsHold
/-! ### Contexts, switches and tasks -/

/-- R96, R97, R106, R107, R110 to R114, R118, R168: results become visible, a hold whose condition holds ends, a core switches to its ready
context with the earliest deadline and completes the switch after its 64 cyc, and a quiet slot becomes free. -/
def ContextEventsHold : Prop := ∀ (k : Ctx) (region : Fin 8) (core : Fin 40) (ix n : Nat) (d : Dev),
  Takes (.fixedResultVisible k) d ((d.settleSst k (d.ctx k).cyc).modCtx k fun c => c.settle (d.ctx k).cyc) ∧
  (∀ h, (d.ctx k).holds[ix]? = some h → d.holdDone k h = true →
    let plait : Bool := h.why.plait h.kind
    let e := (d.holdEffect k h).countHold k n
    Takes (.holdEnd k ix n) d
      ((if plait then e.inc64 (aCo k.region k.core + rCoPlHoldCyc) n else e).modCtx k fun c => { c with holds := c.holds.eraseIdx ix })) ∧
  (∀ h, (d.ctx k).holds[ix]? = some h → d.holdDone k h = false → Takes (.holdEnd k ix n) d d) ∧
  (∀ i, (d.core region core).switching = none → d.nextSlot (d.core region core) = some i →
    ((d.core region core).running = none → Takes (.contextSwitch region core n) d
      (((d.inc64 (aCo region core + rCoPfIdle) n).modCore region core fun co => { co with switching := some i }).inc64 (aCo region core + rCoSwitches) 1)) ∧
    (∀ j c, (d.core region core).running = some j → nth (d.core region core).slots j none = some c → c.holds ≠ [] → d.heldSp (d.core region core) c = true →
      Takes (.contextSwitch region core n) d
        (((d.countHold (ctxAt region core j) n).modCore region core fun co => { co with switching := some i }).inc64 (aCo region core + rCoSwitches) 1))) ∧
  (∀ i, (d.core region core).switching = some i →
    let flushed := match (d.core region core).running with | none => d | some j => d.settleAllSst (ctxAt region core j)
    let lives : Bool := match nth (d.core region core).slots i none with | none => false | some c => c.active
    Takes (.switchDone region core) d
      ((flushed.modCore region core fun co => { co with running := if lives then some i else none, switching := none }).inc64 (aCo region core + rCoPfSwitch) 64)) ∧
  (d.slotQuiet k = true → (d.ctx k).lanesHandled = 0 → Takes (.slotFree k) d (d.setCtx k none)) ∧
  (d.slotQuiet k = true → (d.ctx k).lanesHandled ≠ 0 →
    Takes (.slotFree k) d ((d.setCtx k none).settleLanes k.region k.core (d.ctx k).lanesHandled)) ∧
  (d.slotQuiet k = false → Takes (.slotFree k) d d)

/-- R31, R52, R108, R122, R242: a task is bound at its planned start when every logical core is placed and has a free slot and room for the code, and
is aborted with REVALIDATE when not; it waits before its start, until the VERDICT that accepted it has left, and
while a substitution or a recovery of one of its cores runs. -/
def TaskBindingHold : Prop := ∀ (id : W32) (d : Dev) (t : Task), d.task? id = some t →
  (t.started = false → t.start.toNat ≤ d.dt.toNat → t.cores.any d.remapBusy = false → d.verdictHeld t = false → t.cores.any d.pipeBusy = false →
    (∀ places m, d.placesFor t.cores = some places → d.image? t.image = some m →
      ((∀ k ∈ places, d.codeRoom (d.core k.region k.core) t.image m = true) → Takes (.taskBind id) d (d.bindAt t m places)) ∧
      ((∃ k ∈ places, d.codeRoom (d.core k.region k.core) t.image m = false) → Takes (.taskBind id) d (d.abortTask id 0x1010))) ∧
    (d.placesFor t.cores = none → Takes (.taskBind id) d (d.abortTask id 0x1010))) ∧
  (t.started = true ∨ d.dt.toNat < t.start.toNat ∨ t.cores.any d.remapBusy = true ∨ d.verdictHeld t = true ∨ t.cores.any d.pipeBusy = true →
    Takes (.taskBind id) d d)

/-- The message `m` stands at the head of the receive queues with every word taken, and `rest` follows it (R416, R425). -/
def atHead (d : Dev) (m : InMsg) (rest : List InMsg) : Prop := d.net.inbox = m :: rest ∧ m.left = 0

/-- The device once the head of the receive queues has been taken. -/
def taken (d : Dev) (rest : List InMsg) : Dev := { d with net := { d.net with inbox := rest } }

/-- R378, R388 to R391, R395, R417: a well-formed SUBMIT at the head of the queues is evaluated: it is accepted under the first variant that
passes, or refused with the status found; outside Lit it is refused with NOT_LIT, and with no evaluator free with ADMIT_BUSY; a poisoned one is answered
with POISON, and a malformed one is rejected. -/
def Obligations.SubmitIsAnswered : Prop := ∀ (d : Dev) (m : InMsg) (rest : List InMsg) (busy : Bool) (ns : W32),
  atHead d m rest → m.msg.type = 0x10 → m.msg.response = false →
  let e := taken d rest
  let f := if e.rd (aLl + rLlEvalMax) < ns then e.wr (aLl + rLlEvalMax) ns else e
  let s := m.msg.session
  (m.poison ≠ [] → Takes (.submit busy ns) d (e.sendVerdict s m.msg.seq (verdictBody 0x6001 0xFFFF 0 0 0 0 []))) ∧
  (m.poison = [] → submitOk m.msg.body = false → Takes (.submit busy ns) d (e.reject s m.msg.seq 0x6002)) ∧
  (m.poison = [] → submitOk m.msg.body = true →
    (f.admitsWork = false → Takes (.submit busy ns) d (f.refuseSubmit s m.msg.seq 0x100C)) ∧
    (f.admitsWork = true → busy = true → Takes (.submit busy ns) d (f.refuseSubmit s m.msg.seq 0x100B)) ∧
    (∀ g st rs, busy = false → f.judge m = (g, .refused st rs) → Takes (.submit busy ns) d (g.refuseSubmit s m.msg.seq st rs)) ∧
    (∀ g im c rs, busy = false → f.judge m = (g, .fits im c rs) → Takes (.submit busy ns) d (g.acceptSubmit s m.msg.seq im m.msg.body c rs)))

/-- R53, R392, R447, R454: the digest of a task whose ranks have all ended and whose writes have all been performed is written behind its result table and the task ends, or its check's
status aborts it; a task that reaches E - 2,000 ns unwritten lets the youngest overrunning task be aborted with OVERRUN, further ones at 8 µs,
and it is aborted itself at its deadline - 2,000 ns. -/
def Obligations.TaskEnds : Prop := ∀ (id : W32) (d : Dev) (t : Task), d.task? id = some t →
  (t.written = none → d.allWritten t = true →
    (∀ st post, d.digestCheck t.args = some (st, post) → Takes (.resultDigest id) d ((post id d).abortTask id st)) ∧
    (d.digestCheck t.args = none →
      let dg := BitVec.ofNat 64 (crc64 ((d.resultRanges t.args).flatMap d.bytesOf))
      let e := (d.writeBytes (d.digestPlace t.args) (leBytes dg.toNat 8)).modTask id fun t => { t with written := some (d.dt, dg) }
      Takes (.resultDigest id) d
        (((if e.mirrorReady then e.sendRaw tether { type := 0x43, session := 0, body := digestBody id 0 dg e.dt } else e).settleDigest id).settleCopy id))) ∧
  (t.written.isSome = true ∨ d.allWritten t = false → Takes (.resultDigest id) d d) ∧
  (d.late t = true → t.overrun = false → Takes (.overrunCheck id) d d.markOverruns.abortYoungest) ∧
  (d.late t = false → Takes (.overrunCheck id) d d) ∧
  (∀ at_, d.lamp.lastOverrun = some at_ → at_.toNat + 8000 ≤ d.dt.toNat → Takes .overrunNextAbort d d.abortYoungest) ∧
  (∀ at_, d.lamp.lastOverrun = some at_ → d.dt.toNat < at_.toNat + 8000 → Takes .overrunNextAbort d d) ∧
  (d.late t = true → d.due t.deadline = true → Takes (.overrunDeadlineAbort id) d (d.markOverruns.abortOverrun id)) ∧
  (∀ w : W64 × W64, t.written = some w → t.mirrored = true → t.twinDigest = none → w.1.toNat + d.fld (aTt + rTtCfg) 15 0 ≤ d.dt.toNat →
    d.ttPrimary = true → Takes (.compareTimeout id) d (d.countUnmirrored.sendDone t))

/-- R369, R370: registering sets reg_busy and reads the image at LL_REG_ADDR; when it is done, a valid image takes the lowest free handle, and
an invalid one gives IMAGE_INVALID; unregistering frees a handle that no task uses. -/
def Obligations.ImageRegistration : Prop := ∀ (who : Requester) (h : BitVec 16) (d : Dev),
  let free (d : Dev) (r : Nat) : Dev := { d with lamp := { d.lamp with images := sset (fun _ => none) d.lamp.images r none } }
  (d.regBusy = false →
    TakesBy who (aLl + rLlRegCmd) (.llRegRegister who) d
      ({ d with lamp := { d.lamp with job := some (d.rd64 (aLl + rLlRegAddr) % 2 ^ 48) } }.setBit (aLl + rLlState) 0) ∧
    (d.image? h.toNat = none → TakesBy who (aLl + rLlRegCmd) (.llRegUnregister who h) d (d.regResult (d.fld (aLl + rLlRegResult) 15 0) 0x1006)) ∧
    ((d.image? h.toNat).isSome = true → (∀ t ∈ d.tasks, t.image ≠ h.toNat) →
      TakesBy who (aLl + rLlRegCmd) (.llRegUnregister who h) d ((free d h.toNat).regResult (d.fld (aLl + rLlRegResult) 15 0) 0)) ∧
    ((d.image? h.toNat).isSome = true → (∃ t ∈ d.tasks, t.image = h.toNat) →
      TakesBy who (aLl + rLlRegCmd) (.llRegUnregister who h) d (d.regResult (d.fld (aLl + rLlRegResult) 15 0) 0x100E))) ∧
  (d.regBusy = true → Takes (.llRegRegister who) d d ∧ Takes (.llRegUnregister who h) d d) ∧
  ∀ a, d.lamp.job = some a →
    let e : Dev := { (d.readImage a).2 with lamp := { (d.readImage a).2.lamp with job := none } }
    ((d.readImage a).1 = none → Takes .registrationDone d (e.regResult 0 0x1004)) ∧
    (∀ m i, (d.readImage a).1 = some m → ((upto 1024).find? fun j => (e.image? (j + 1)).isNone) = some i → e.lamp.recordBytes + m.record.length ≤ 2 ^ 25 →
      Takes .registrationDone d
        (({ e with lamp := { e.lamp with images := sset (fun _ => none) e.lamp.images (i + 1) (some m) } }.notFresh).regResult (i + 1) 0))


/-- R31, R52, R96, R97, R106 to R108, R110 to R114, R118, R122 to R126, R168, R242: the life of a context from binding to a free slot, and its
image. -/
def Obligations.ContextLife : Prop := ContextSaveHold ∧ ContextEventsHold ∧ TaskBindingHold

/-! ### Stream channels at work -/

/-- The first queued descriptor of channel `i` that has not started, and its task, when it may start (R273, R274): the previous one has issued
its last beat, the knot that gates it is released, the region's stream unit has its clock, and the channels are not stopped (R475, R502). -/
def startable (d : Dev) (i : Nat) (x : Desc) (t : Task) : Prop :=
  ((d.chan i).queue.find? fun y => !y.started) = some x ∧ d.task? x.task = some t ∧ ((d.chan i).queue.any fun y => y.started && !y.moved) = false ∧
  (∀ k, (d.chan i).gate = some k → d.knotReleased i k = true) ∧ (d.region (i / 8)).gated = false ∧
  d.chansStopped = false

/-- The channel number of channel `c` of region `r`. -/
def chanNo (r c : Fin 8) : Nat := r.val * 8 + c.val

/-- R273 to R276, R278, R289, R296 to R298: the next descriptor of a channel starts when it may: a transfer is checked and performed, its fault
goes to the channel and aborts the task; a BRAID performs its stages in turn; a REMOTE starts its blocks; a transfer whose coil has no room or
no data waits. -/
def DescriptorsStartHold : Prop := ∀ (r c : Fin 8) (d : Dev) (x : Desc) (t : Task), startable d (chanNo r c) x t →
  let i := chanNo r c
  let e := d.markStarted i x
  let w : Writer := .chan t.id
  (x.raw.kind ≠ 11 → x.raw.kind ≠ 12 → d.coilStarts (d.chan i) x (d.moved i t x.raw) = true →
    (∀ st post, firstRefusal [e.chanReach i (e.moved i t x.raw), (e.moved i t x.raw).checks e w] = some (st, post) →
      Takes (.descStart r c) d ((post t.id e).chanFault i t.id st)) ∧
    (e.chanReach i (e.moved i t x.raw) = none → (e.moved i t x.raw).checks e w = none →
      let m := e.moved i t x.raw
      let f := e.perform i w m
      let g := if x.raw.coilUse = 2 then f.coilAdvance false x.raw.coilRegion x.raw.coil (x.raw.n1 * x.raw.n2 * x.raw.len) else f
      Takes (.descStart r c) d
        ((g.modDesc i x.addr fun y => { y with bytes := y.bytes + m.bytes, close := m.close, push := m.push }).modDesc i x.addr
          fun y => { y with moved := true }))) ∧
  (x.raw.kind ≠ 11 → x.raw.kind ≠ 12 → d.coilStarts (d.chan i) x (d.moved i t x.raw) = false → Takes (.descStart r c) d d) ∧
  (x.raw.kind = 11 → Takes (.descStart r c) d (e.runStages i t x (x.raw.stages.map d.rawAt))) ∧
  (x.raw.kind = 12 → Takes (.descStart r c) d (e.remoteSettle i { x with started := true }))

/-- R272, R274, R275, R229: the oldest descriptor of a channel completes once all its data has moved: its coil shows the pushed bytes, its status
and length are written, its knot becomes reached, its belay is arrived at, the channel counts it and its queue place is free; a write of the device that
its store refuses (R245, R249, R258) is a fault of the channel. -/
def DescriptorsCompleteHold : Prop := ∀ (r c : Fin 8) (d : Dev) (x : Desc) (l : List Desc), (d.chan (chanNo r c)).queue = x :: l →
  let i := chanNo r c
  let d1 := match x.raw.kind, d.task? x.task with | 9, some t => d.closeLayer i t x | _, _ => d
  let d2 := if x.raw.coilUse = 1 then d1.coilAdvance true x.raw.coilRegion x.raw.coil x.push else d1
  let d3 := d2.descWrite x.task x.addr 0 x.bytes
  let d4 := if x.raw.ctl 1 then d3.setReached i x.raw.knot true else d3
  let d5 := if x.raw.ctl 2 then d4.arrive x.task x.raw.belay else d4
  (x.moved = true → d.chanAdds i = false → d.completeCheck x = none →
    Takes (.descComplete r c) d ((d5.inc64 (aSt r c + rStDescs) 1).modChan i fun ch => { ch with queue := l })) ∧
  (∀ st post, x.moved = true → d.chanAdds i = false → d.completeCheck x = some (st, post) →
    Takes (.descComplete r c) d ((post x.task d).chanFault i x.task st)) ∧
  (x.moved = false ∨ d.chanAdds i = true → Takes (.descComplete r c) d d)

/-- R297, R423, R425: a segment of a block in flight is written into the window as a write of the channel and counted; a status fails the
transfer with REMOTE_LATE; a segment of no block is discarded and counted, and one of a wrong layout is rejected (R429); a block that outlives its limit fails the transfer. -/
def RemoteBlocksHold : Prop := ∀ (d : Dev) (m : InMsg) (rest : List InMsg), atHead d m rest →
  let e := taken d rest
  let lost := e.inc64 (aMt + rMtDiscarded) 1
  let off := leNat (bytesAt m.msg.body) 4 4
  let data := m.msg.body.drop 8
  let status := if m.poison.contains 0 then 0x6001 else leNat (bytesAt m.msg.body) 0 2
  let marks := (m.poison.filter (0 < ·)).flatMap fun p => [2 * (p - 1), 2 * (p - 1) + 1]
  (m.msg.type = 0x22 → m.msg.response = true →
    (m.msg.body.length < 8 ∨ leNat (bytesAt m.msg.body) 2 2 ≠ 0 → Takes .dreadSegmentReceive d (e.reject m.msg.session m.msg.seq 0x6002)) ∧
    (8 ≤ m.msg.body.length → leNat (bytesAt m.msg.body) 2 2 = 0 → e.blockOfSegment m = none → Takes .dreadSegmentReceive d lost) ∧
    (∀ i b x, e.blockOfSegment m = some (i, b) → (e.chan i).remote = some x → 8 ≤ m.msg.body.length →
      leNat (bytesAt m.msg.body) 2 2 = 0 →
      let done := fun f : Dev => if b.left ≤ data.length then (f.dropRemote i b).remoteSettle i x
        else f.modChan i fun ch => { ch with remotes := ch.remotes.map fun y => if y = b then { y with left := y.left - data.length } else y }
      (status ≠ 0 → Takes .dreadSegmentReceive d ((e.dropRemote i b).chanFault i x.task 0x200B)) ∧
      (status = 0 → off + data.length ≤ 2 ^ x.raw.u 12 1 →
        (∀ st post, e.dataWrite (.chan x.task) (b.dst + off) data.length (narrowRun (b.dst + off) data.length) = some (st, post) →
          Takes .dreadSegmentReceive d ((post x.task e).chanFault i x.task st)) ∧
        (e.dataWrite (.chan x.task) (b.dst + off) data.length (narrowRun (b.dst + off) data.length) = none →
          Takes .dreadSegmentReceive d
            (done (((marks.foldl (fun f p => f.setMark (b.dst + off + 4 * p) 1) (e.putData (.chan x.task) (b.dst + off) data)).inc64 (aSt (i / 8) (i % 8) + rStBytes) data.length).modDesc i x.addr
              fun y => { y with bytes := y.bytes + data.length })))))) ∧
  ∀ (r c : Fin 8) (block : Nat) (x : Desc) (b : RemoteBlock), (d.chan (chanNo r c)).remote = some x →
    ((d.chan (chanNo r c)).remotes.find? fun y => y.block == block) = some b →
    (b.limit.toNat ≤ d.dt.toNat → Takes (.remoteLimitExpiry r c block) d (d.chanFault (chanNo r c) x.task 0x200B)) ∧
    (d.dt.toNat < b.limit.toNat → Takes (.remoteLimitExpiry r c block) d d)

/-- R258, R259, R422, R437: the first beat of a remote write is checked at its store or pile, and refused with the status found and no data, or it
goes on; its last row writes its data, which an open window counts, and the answer follows once the twin has it too. -/
def RemoteWritesHold : Prop := ∀ (ix : Nat) (d : Dev) (w : RemoteWrite), d.net.writes[ix]? = some w →
  (w.checked = false →
    (∀ st post, d.arriveCheck w = some (st, post) → Takes (.remoteWriteArrive ix) d (((post 0 d).dropWrite ix).answerWrite w st 0)) ∧
    (d.arriveCheck w = none →
      let win := if inStore w.addr then (d.hitchCheck w.writer w.addr w.data.length).2.map fun k => (regionOf w.addr, k, d.winGen (regionOf w.addr) k)
        else none
      Takes (.remoteWriteArrive ix) d (d.modWrite ix fun w => { w with checked := true, win := win }))) ∧
  (w.checked = true → Takes (.remoteWriteArrive ix) d d) ∧
  (w.checked = false → Takes (.dwritePerformed ix) d d) ∧
  (w.checked = true →
    let e := if w.done then d else (d.performWrite w).modWrite ix fun w => { w with done := true }
    (e.twinPending w = true → Takes (.dwritePerformed ix) d e) ∧
    (e.twinPending w = false → w.status = 0 →
      Takes (.dwritePerformed ix) d ((e.dropWrite ix).answerWrite w (if w.poison.isEmpty then 0 else 0x6001) w.data.length)) ∧
    (e.twinPending w = false → w.status ≠ 0 → Takes (.dwritePerformed ix) d ((e.dropWrite ix).answerWrite w w.status 0)))

/-- R229, R272 to R278, R289, R296 to R298: descriptors start and complete. -/
def Obligations.StreamDescriptors : Prop := DescriptorsStartHold ∧ DescriptorsCompleteHold

/-- R258, R259, R297, R422, R423, R425, R437: segments of a remote block, and remote writes to this module. -/
def Obligations.RemoteTransfers : Prop := RemoteBlocksHold ∧ RemoteWritesHold

/-! ### The region store and its units -/

/-- R247, R248: a single-bit error is corrected, recorded and waits for its write-back, which counts it; an uncorrectable word is marked and
recorded and the reading task aborted; the scrubber reads the next line of a powered bank, writes its corrected words back and records its
uncorrectable ones; nothing is scrubbed while scrubbing is off, in a group that is off, or in a group that Pilot has powered down. -/
def StoreCorrectionHold : Prop := ∀ (r : Fin 8) (b : Fin 576) (a : Nat) (reader : W32) (d : Dev),
  let w := a / 4 * 4
  let q := regionOf w
  (inStore w = true → d.groupOff w = false →
    Takes (.storeEccError a true reader) d (((d.setMark w 2).noteStore w reader).abortTask reader 0x8003) ∧
    Takes (.storeEccError a false reader) d
      ((d.enterError (aErRn q) 128 0x800A 0x20 (bankOf w) w reader.toNat 0).modRegion q
        fun g => { g with writebacks := if g.writebacks.contains w then g.writebacks else g.writebacks ++ [w] })) ∧
  (inStore w = false ∨ d.groupOff w = true → ∀ u, Takes (.storeEccError a u reader) d d) ∧
  ((d.region r).writebacks.contains a = true →
    Takes (.storeCorrectedWriteback r a) d
      (((d.modRegion r fun g => { g with writebacks := g.writebacks.filter fun x => x != a }).inc64 (aRs r + rRnStCorrected) 1).setBit
        (aRs r + rRnStSticky) 0)) ∧
  ((d.region r).writebacks.contains a = false → Takes (.storeCorrectedWriteback r a) d d) ∧
  let n := sget (fun _ => 0) (d.region r).scrubLine b
  let line := lineAddr r b n
  let idle := d.flag (aRs r + rRnStScrubCtl) 0 = false ∨ d.groupOff line = true ∨ d.pilotOff r (b / 8) = true
  (idle → Takes (.storeScrubLine r b) d d) ∧
  (¬ idle →
    let ws := (upto 16).map fun i => line + 4 * i
    let e := ws.foldl (fun d w => if d.mark w = 2 then d.noteStore w 0 else d) (ws.foldl (fun d w => d.storeWriteback r w) d)
    let f := e.modRegion r fun g => { g with scrubLine := sset (fun _ => 0) g.scrubLine b ((n + 1) % 2048) }
    Takes (.storeScrubLine r b) d (if n = 2047 then f.scrubPassDone r b else f))

/-- R249, R250, R388: one written bit of RN_BG_OFF powers its group down and loses its contents, unless the group holds an open window or an
enabled coil, which sets RN_ST_STICKY.4; writing 0 to an off group makes it busy until it has been zeroed. A locked register keeps its value. -/
def BankGroupPowerHold : Prop := ∀ (who : Requester) (r : Fin 8) (g : Fin 72) (v : W32) (d : Dev),
  (d.locked (aRs r) = false →
    TakesBy who (aRs r + rRnBgOffHi) (.rnBgOffWrite who r true v) d ((upto 8).foldl (fun d g => d.bgWrite r (64 + g) (bit v.toNat g)) d) ∧
    TakesBy who (aRs r + (rRnBgOffLo + 4)) (.rnBgOffWrite who r false v) d
      (((upto 64).foldl (fun e g => e.bgWrite r g (bit ((d.lowFor who (aRs r + rRnBgOffLo)).toNat + v.toNat * 2 ^ 32) g)) d).endLow who
        (aRs r + rRnBgOffLo))) ∧
  (d.locked (aRs r) = true → ∀ high, Takes (.rnBgOffWrite who r high v) d d) ∧
  (d.bgOff r g = false → d.groupHeld r g = true → d.bgWrite r g true = d.setBit (aRs r + rRnStSticky) 4) ∧
  (d.bgOff r g = false → d.groupHeld r g = false → d.bgWrite r g true = ((d.eraseGroup r g).setBgOff r g true).setBgBusy r g false) ∧
  (d.bgOff r g = true → d.bgWrite r g false = (d.setBgOff r g false).setBgBusy r g true) ∧
  (d.bgBusy r g = true → Takes (.bgZeroDone r g) d ((d.eraseGroup r g).setBgBusy r g false)) ∧
  (d.bgBusy r g = false → Takes (.bgZeroDone r g) d d)

/-- R251, R252, R254, R388: a write of RN_COIL_CFG is refused with RN_ST_STICKY.3 while a task holds the coil or when the buffer would break its
limits, whatever its enable bit, and with RN_ST_STICKY.6 when more than 16 groups would be retained; otherwise it takes effect, and enabling sets
both pointers to 0. A write of RN_COIL_BASE is refused alike: while a task holds the coil, outside the limits of a base, or where the buffer of
the enabled coil would break its limits (RN_ST_STICKY.3); a base that would make more than 16 groups retained is refused with RN_ST_STICKY.6,
which is the model's choice (log 22). -/
def CoilConfigurationHold : Prop := ∀ (who : Requester) (r : Fin 8) (c : Fin 512) (v : W32) (base : Nat) (d : Dev),
  let b := coilBase r c
  let u := v.toNat - field v.toNat 15 8 * 2 ^ 8
  let e := d.wr (b + 8) (BitVec.ofNat 32 u)
  let bad := d.coilHolders r c ≠ 0 ∨ coilBufferOk r (d.rd64 b % 2 ^ 48) (field u 7 2) = false
  let many := u % 4 = 3 ∧ 16 < (e.retainedGroups r).length
  (d.locked (aRs r) = true → Takes (.rnCoilCfgWrite who r c v) d d) ∧
  (d.locked (aRs r) = false →
    (bad → TakesBy who (aRs r + rRnCoilCfg + 32 * c) (.rnCoilCfgWrite who r c v) d (d.setBit (aRs r + rRnStSticky) 3)) ∧
    (¬ bad → many → TakesBy who (aRs r + rRnCoilCfg + 32 * c) (.rnCoilCfgWrite who r c v) d (d.setBit (aRs r + rRnStSticky) 6)) ∧
    (¬ bad → ¬ many →
      (u % 2 = 1 → TakesBy who (aRs r + rRnCoilCfg + 32 * c) (.rnCoilCfgWrite who r c v) d (((e.wr64 (b + 0x10) 0).wr64 (b + 0x18) 0).coilBump r c)) ∧
      (u % 2 = 0 → d.coilEnabled r c = true → TakesBy who (aRs r + rRnCoilCfg + 32 * c) (.rnCoilCfgWrite who r c v) d (e.coilBump r c)) ∧
      (u % 2 = 0 → d.coilEnabled r c = false → TakesBy who (aRs r + rRnCoilCfg + 32 * c) (.rnCoilCfgWrite who r c v) d e))) ∧
  let x := base % 2 ^ 48
  let no := d.coilHolders r c ≠ 0 ∨ coilBaseOk r x = false ∨ (d.coilEnabled r c = true ∧ coilBufferOk r x (d.fld (b + 8) 7 2) = false)
  (no → d.coilBaseWrite r c base = d.setBit (aRs r + rRnStSticky) 3) ∧
  (¬ no → 16 < ((d.wr64 b x).retainedGroups r).length → d.coilBaseWrite r c base = d.setBit (aRs r + rRnStSticky) 6) ∧
  (¬ no → ((d.wr64 b x).retainedGroups r).length ≤ 16 → d.coilBaseWrite r c base = d.wr64 b x)

/-- R257, R259, R388: HITCH_CMD opens window `k` from its registers when it is closed and its range and roles are allowed, and sets RN_ST_STICKY.3
when not; it closes a window that it opened, and no other. -/
def HostWindowsHold : Prop := ∀ (who : Requester) (r : Fin 8) (k : Fin 256) (d : Dev),
  let b := winBase r k
  let base := d.winAddr r k
  let ok := d.winOpen r k = false ∧ inStore base = true ∧ regionOf base = r ∧
    d.winMayOpen base (d.winLen r k) (d.winWriters r k) (d.fld (b + 12) 31 24) (d.fld (b + 16) 31 16) (d.rd64 (b + 24)) = true
  (d.locked (aRs r) = true → Takes (.hitchCmdOpen who r k) d d ∧ Takes (.hitchCmdClose who r k) d d) ∧
  (d.locked (aRs r) = false →
    (ok → TakesBy who (aRs r + rRnHitchCmd + 64 * k) (.hitchCmdOpen who r k) d (d.openWindow r k 0 true none)) ∧
    (¬ ok → TakesBy who (aRs r + rRnHitchCmd + 64 * k) (.hitchCmdOpen who r k) d (d.setBit (aRs r + rRnStSticky) 3)) ∧
    (d.winOpen r k = true → d.flag (winState r k) 1 = true →
      TakesBy who (aRs r + rRnHitchCmd + 64 * k) (.hitchCmdClose who r k) d (d.closeWindow r k)) ∧
    (d.winOpen r k = false ∨ d.flag (winState r k) 1 = false → Takes (.hitchCmdClose who r k) d d))

/-- R486, R488: a written burst limit is pending, for the tasks accepted before it that can use the arbiter, and governs once they have ended;
the store unit's arbiter shows it in RN_ST_STICKY.5 meanwhile. -/
def BurstLimitsHold : Prop := ∀ (who : Requester) (addr v : W32) (d : Dev) (place : Option Nat) (n : Nat),
  arbiterAt addr.toNat = some (place, n) →
  let a := addr.toNat
  let ids := (d.tasks.filter fun t => match place with | none => true | some r => t.inRegion r).map fun t => t.id
  let e := (d.setFld a 7 0 v.toNat).setBit (a + 4) 8
  let f : Dev := { e with burstWait := sset (fun _ => []) e.burstWait a ids }
  let store (g : Dev) (on : Bool) : Dev := match place with
    | some r => if a = aArRn r then (if on then g.setBit (aRs r + rRnStSticky) 5 else g.clrBit (aRs r + rRnStSticky) 5) else g
    | none => g
  let done := (d.setFld (a + 4) 7 0 (d.fld a 7 0)).clrBit (a + 4) 8
  (d.locked a = false → TakesBy who addr.toNat (.arCtlWrite who addr v) d (store f true)) ∧
  (d.locked a = true → Takes (.arCtlWrite who addr v) d d) ∧
  (d.flag (a + 4) 8 = true → (∀ i ∈ sget (fun _ => []) d.burstWait a, d.task? i = none) →
    Takes (.burstLimitEffect addr) d (store { done with burstWait := sset (fun _ => []) done.burstWait a [] } false)) ∧
  (d.flag (a + 4) 8 = false ∨ (∃ i ∈ sget (fun _ => []) d.burstWait a, (d.task? i).isSome = true) → Takes (.burstLimitEffect addr) d d)

/-- R246 to R250, R252, R254, R257, R259, R388, R486, R488: the correction of a region's store words, and what a host configures: bank-group power,
coils, windows and burst limits. -/
def Obligations.RegionUpkeep : Prop := StoreCorrectionHold ∧ BankGroupPowerHold ∧ CoilConfigurationHold ∧ HostWindowsHold ∧ BurstLimitsHold

/-! ### The piles -/

/-- R309 to R313, R320, R425: in a ready pile a refresh takes the neighbour rows and corrected words that wait for its bank; an activated row's
neighbours come to wait; the patrol reads the next unit of a channel; a failed interface retry and an uncorrectable word are recorded with the
reading task and abort it, and a failed retry of a remote read (reader 0) is kept for its answer; a correction inside a layer is only counted. -/
def Obligations.PileUpkeep : Prop := ∀ (p : Fin 8) (b : Fin 3072) (row : Fin 8192) (c : Fin 16) (d : Dev),
  let n := p.val
  (d.pileReady n = true →
    Takes (.pileRefresh p b) d (d.modPile n fun q =>
      { q with refresh := b, neighbours := q.neighbours.filter (fun r => r / 8192 != b.val)
               writebacks := q.writebacks.filter fun a => (pileLocate (pileOffset a)).bankKey != b.val }) ∧
    Takes (.pileNeighbourRefresh p b row) d (d.modPile n fun q =>
      { q with neighbours := (q.neighbours ++ ((if row.val = 0 then [] else [row.val - 1]) ++
          (if row.val = 8191 then [] else [row.val + 1])).map fun r => b.val * 8192 + r).eraseDups }) ∧
    (d.flag (aPl n + rPlScrubCtl) 0 = true →
      let u := sget (fun _ => 0) (d.pile n).scrubNext c
      let a := pileAddr n (512 * (16 * u + c))
      let e := (upto 64).foldl (fun d w => if d.markIn (a + 8 * w) 8 = 2 then d.notePile (a + 8 * w) 2 true 0 else d) d
      let f := e.modPile n fun p =>
        { p with writebacks := p.writebacks.filter fun x => !(decide (a ≤ x) && decide (x < a + 512))
                 scrubNext := sset (fun _ => 0) p.scrubNext c ((u + 1) % channelUnits) }
      Takes (.pileScrubUnit p c) d (if u + 1 = channelUnits then f.pilePassDone n c else f))) ∧
  (d.pileReady n = false → Takes (.pileRefresh p b) d d ∧ Takes (.pileNeighbourRefresh p b row) d d ∧ Takes (.pileScrubUnit p c) d d) ∧
  (d.flag (aPl n + rPlScrubCtl) 0 = false → Takes (.pileScrubUnit p c) d d) ∧
  ∀ (a : Nat) (scrub : Bool) (reader : W32), let w := a / 8 * 8
    (inPile a = true → d.pileReady (regionOf a) = true →
      let e := d.inc64 (aPl (regionOf a) + rPlLinkRetries) 1
      Takes (.pileCrcFail a false reader) d e ∧
      (reader ≠ 0 → Takes (.pileCrcFail a true reader) d ((e.notePile a 3 false reader).abortTask reader 0x8004)) ∧
      Takes (.pileCrcFail a true 0) d
        (((e.modPile (regionOf a) fun p => { p with lost := a :: p.lost }).notePile a 3 false 0).abortTask 0 0x8004)) ∧
    (inPile a = false ∨ d.pileReady (regionOf a) = false → ∀ again, Takes (.pileCrcFail a again reader) d d) ∧
    (inPile w = true → d.pileReady (regionOf w) = true →
      Takes (.pileEccError a 0 scrub reader) d (d.inc64 (aPl (regionOf w) + rPlLayerFixes) 1) ∧
      Takes (.pileEccError a 1 scrub reader) d ((d.notePile w 1 scrub reader).modPile (regionOf w)
        fun p => { p with writebacks := if p.writebacks.contains w then p.writebacks else p.writebacks ++ [w] }) ∧
      Takes (.pileEccError a 2 scrub reader) d ((((d.setMark w 2).setMark (w + 4) 2).notePile w 2 scrub reader).abortTask reader 0x8004)) ∧
    (inPile w = false ∨ d.pileReady (regionOf w) = false → ∀ k, Takes (.pileEccError a k scrub reader) d d)

/-- R315 to R318, R320: a written operation starts when no other runs, the pile is ready and no Pilot entry is in progress; it is refused with
PL_STICKY.4 otherwise, as are operations 5 to 7; at its end what it computed from its parameter registers is written, its counts and its status
are shown, an uncorrectable word that ended it is recorded, the busy bit clears and PL_STICKY.3 tells of the end. -/
def Obligations.NearMemoryOperations : Prop := ∀ (who : Requester) (p : Fin 8) (d : Dev),
  let n := p.val
  let start (op : Nat) : Dev := (d.modPile n fun q => { q with nmo := some op }).setBit (aPl n + rPlState) 4
  let refused := d.setBit (aPl n + rPlSticky) 4
  (d.nmoClosed n = false →
    TakesBy who (aPl p + rPlNmoOp) (.nmoFill who p) d (start 1) ∧ TakesBy who (aPl p + rPlNmoOp) (.nmoCopy who p) d (start 2) ∧
    TakesBy who (aPl p + rPlNmoOp) (.nmoCompact who p) d (start 3) ∧
    TakesBy who (aPl p + rPlNmoOp) (.nmoExpand who p) d (start 4) ∧ ∀ op, TakesBy who (aPl p + rPlNmoOp) (.nmoRefusedOp who p op) d refused) ∧
  (d.nmoClosed n = true →
    TakesBy who (aPl p + rPlNmoOp) (.nmoFill who p) d refused ∧ TakesBy who (aPl p + rPlNmoOp) (.nmoCopy who p) d refused ∧
    TakesBy who (aPl p + rPlNmoOp) (.nmoCompact who p) d refused ∧
    TakesBy who (aPl p + rPlNmoOp) (.nmoExpand who p) d refused ∧ ∀ op, TakesBy who (aPl p + rPlNmoOp) (.nmoRefusedOp who p op) d refused) ∧
  ((d.pile n).nmo = none → Takes (.nmoDone p) d d) ∧
  ∀ op, (d.pile n).nmo = some op →
    let m := d.nmoResult n op
    let noted (e : Dev) : Dev := match m.bad with | some w => e.notePile w 2 false 0 | none => e
    let count (e : Dev) (k counter stick : Nat) : Dev := if k = 0 then e else (e.inc64 (aRn n + counter) k).setBit (aRn n + rRnSpSticky) stick
    let e := count (count (noted (m.out.foldl (fun d p => d.writeBytes p.1 p.2) d)) m.popFixes rRnSpPopFixes 0) m.prefixFixes rRnSpPrefixFixes 1
    let f := ((e.inc64 (aPl n + rPlNmoRerounded) m.rerounded).wr (aPl n + rPlNmoStatus) (m.status.setWidth 32)).wr64 (aPl n + rPlNmoDoneBytes)
      (m.out.foldl (fun k p => k + p.2.length) 0)
    Takes (.nmoDone p) d (((f.modPile n fun p => { p with nmo := none }).clrBit (aPl n + rPlState) 4).setBit (aPl n + rPlSticky) 3)

/-! ### Ethernet and device time -/

/-- What a frame meets before its message is read (R399, R401, R427): the device `g` that the checks of MACsec leave, when the frame passes them
all. Beside the module's own MAC addresses it may go to those of `groups`; `clear` says that it is a PTP frame. -/
def Passes (d : Dev) (e : Envelope) (groups : List Nat) (clear : Bool) (g : Dev) : Prop :=
  let c := d.countFec e
  let a := aEt e.port
  d.flag (a + rEtState) e.sub = true ∧ e.fcsOk = true ∧ 64 ≤ e.size ∧ e.size ≤ c.fld (a + rEtMode) 17 4 ∧
  (c.ownMac e.port e.dstMac = true ∨ groups.contains e.dstMac.toNat = true) ∧ (c.flag (a + rEtMode) 2 = false → e.sec = none) ∧
  c.macsecCheck e clear = some g

/-- A frame command that does not pass: nothing happens without a link; a bad check sequence is counted; a frame that MACsec refuses is dropped
and counted; one that another filter refuses, its tag among them, is dropped. -/
def Filtered (i : Instr) (d : Dev) (e : Envelope) (groups : List Nat) (clear : Bool) : Prop :=
  let c := d.countFec e
  let a := aEt e.port
  let fits : Prop := 64 ≤ e.size ∧ e.size ≤ c.fld (a + rEtMode) 17 4 ∧
    (c.ownMac e.port e.dstMac = true ∨ groups.contains e.dstMac.toNat = true) ∧ (c.flag (a + rEtMode) 2 = false → e.sec = none)
  (d.flag (a + rEtState) e.sub = false → Takes i d d) ∧
  (d.flag (a + rEtState) e.sub = true →
    (e.fcsOk = false → Takes i d (c.inc64 (a + rEtFcsErrors) 1)) ∧
    (e.fcsOk = true → ¬ fits → Takes i d c) ∧
    (e.fcsOk = true → fits → c.macsecCheck e clear = none → Takes i d ((c.inc64 (a + rEtMacsecDrops) 1).setBit (a + rEtSticky) 4))) ∧
  ∀ g, Passes d e groups clear g → g.vidOk e = false → Takes i d g

/-- R399, R401, R424, R427: the checks that every frame meets, whatever it carries; what the FEC found is counted with it, and ET_STICKY.3 tells of
codewords that it could not correct. A protected frame is refused by its check, its association or a packet number below the lowest acceptable;
one that passes moves that number on. Only a PTP frame may come unprotected, when ptp_clear says so. -/
def FrameChecksHold : Prop := ∀ (e : Envelope) (f : Frame) (t4 s4 : BitVec 32) (t6 s6 : BitVec 128) (mac : BitVec 48) (x : EchoFrame) (data : List Byte)
    (y : PtpFrame) (cs : BitVec 8) (quanta : BitVec 16) (d : Dev),
  (f.dstPort ≠ 319 → f.dstPort ≠ 320 → Filtered (.frameReceive f) d f.toEnvelope [] false) ∧
  Filtered (.arpRequest e t4 s4 mac) d e [0xFFFFFFFFFFFF] false ∧
  Filtered (.neighbourSolicit e t6 s6 mac) d e (ndGroups t6) false ∧
  Filtered (.icmpEcho x t6 s6 data) d x.toEnvelope [] false ∧
  Filtered (.pauseReceive e cs quanta) d e [0x0180C2000001] false ∧
  Filtered (.ptpMessage y data) d y.toEnvelope (ptpGroups y.transport) true ∧
  (let a := aEt e.port
   let c := if e.fecCorrected = 0 then d else d.inc64 (a + rEtFecCorrected) e.fecCorrected
   d.countFec e = if e.fecUncorrected = 0 then c else (c.inc64 (a + rEtFecUncorrected) e.fecUncorrected).setBit (a + rEtSticky) 3) ∧
  (∀ clear, d.flag (aEt e.port + rEtMode) 2 = true →
    (e.sec = none → d.macsecCheck e clear = if clear = true ∧ d.flag (aEt e.port + rEtMode) 3 = true then some d else none) ∧
    ∀ t, e.sec = some t →
      let a := aEt e.port + rEtSaPn + 64 * t.sa
      let good := t.intact = true ∧ d.fld (aEt e.port + rEtSaCtl + 64 * t.sa) 1 0 = 1 ∧ d.rd64 a ≤ t.pn.toNat
      (good → d.macsecCheck e clear = some (d.wr64 a ((t.pn.toNat + 1) % 2 ^ 64))) ∧ (¬ good → d.macsecCheck e clear = none))

/-- R399, R401, R407, R424 to R426: the datagram of a frame that passes every check is dropped by a filter of its headers, counted when the checks
of its message fail or the queue has no room, and delivered otherwise; one to a PTP port goes to the time logic. Taking a word of a queue drains
it, marks a word of bad parity poisoned and releases the sender at the low watermark; a pause holds its priorities until its quanta end or
quanta 0 arrives. -/
def FramesAndPausesHold : Prop := ∀ (f : Frame) (p : Fin 2) (env : Envelope) (cs : BitVec 8) (quanta : BitVec 16) (d : Dev),
  let a := aEt f.port
  let toPtp := f.dstPort = 319 ∨ f.dstPort = 320
  (¬ toPtp → ∀ e, Passes d f.toEnvelope [] false e → e.vidOk f.toEnvelope = true →
    (e.frameAccepted f = false → Takes (.frameReceive f) d e) ∧
    (e.frameAccepted f = true → mbtParse f.data = none →
      Takes (.frameReceive f) d ((e.inc64 (aMt + rMtCheckFails) 1).setBit (aMt + rMtSticky) 0)) ∧
    (∀ m, e.frameAccepted f = true → mbtParse f.data = some m →
      let words := ceilDiv m.body.length 8
      (0x800000 < e.rqLevel f.port + 8 * words → Takes (.frameReceive f) d ((e.inc64 (a + rEtRqDrops) 1).setBit (a + rEtSticky) 1)) ∧
      (e.rqLevel f.port + 8 * words ≤ 0x800000 →
        Takes (.frameReceive f) d (e.deliver { port := f.port, msg := m, left := words, arrived := e.dt, protect := f.sec.isSome,
                                               src := f.src, srcUdp := f.srcPort, dst := f.dst })))) ∧
  (toPtp → f.oddIp = false → f.checksumOk = true →
    ∀ tr : Fin 3, tr.val = (if ipIsV4 f.dst = true then 1 else 2) →
      d.answersFor f.port f.dst = true ∨ f.dst = ptpAddr tr false ∨ f.dst = ptpAddr tr true →
      ∀ e, Takes (.ptpMessage { toEnvelope := f.toEnvelope, transport := tr } f.data) d e → Takes (.frameReceive f) d e) ∧
  (∀ bad, d.rqLevel p ≠ 0 →
    let e : Dev := { d with net := { d.net with inbox := drainFirst p bad d.net.inbox } }
    Takes (.rqDrainWord p bad) d
      ((if bad then (e.inc64 (aEt p + rEtRqPoison) 1).setBit (aEt p + rEtSticky) 2 else e).watermarks p)) ∧
  (∀ bad, d.rqLevel p = 0 → Takes (.rqDrainWord p bad) d d) ∧
  (d.xoff p = true → 65536 * d.fld (aEt p + rEtRqCfg) 14 8 ≤ d.rqLevel p →
    Takes (.pfcRepeat p) d (d.sendPfc p (d.fld (aEt p + rEtPfc) 31 16))) ∧
  (d.xoff p = false ∨ d.rqLevel p < 65536 * d.fld (aEt p + rEtRqCfg) 14 8 → Takes (.pfcRepeat p) d d) ∧
  (∀ e, Passes d env [0x0180C2000001] false e → e.vidOk env = true → e.portUp env.port = true →
    let n := env.port
    (quanta ≠ 0 → Takes (.pauseReceive env cs quanta) d
      (((e.modPort n fun q => { q with paused := q.paused ||| cs }).inc64 (aEt n + rEtPausesReceived) 1).flushHeld n)) ∧
    (quanta = 0 → Takes (.pauseReceive env cs quanta) d
      (((e.modPort n fun q => { q with paused := q.paused &&& ~~~ cs }).inc64 (aEt n + rEtPausesReceived) 1).flushHeld n))) ∧
  Takes (.pauseQuantaExpiry p cs) d ((d.modPort p fun q => { q with paused := q.paused &&& ~~~ cs }).flushHeld p)

/-- R397, R398, R403, R408, R427, R434: a port answers ARP, neighbour solicitation and echo for its addresses, and nothing else; a link comes up on
a sublink that the mode has, ends the training when it is the last, and becomes home to sessions whose port has none; a lost link sets
ET_STICKY.0 and moves the sessions, and a port without links forgets its time source and its neighbours; a write of ET_MODE from a requester that
may change macsec, or leaves it, takes effect. -/
def Obligations.PortsAndLinks : Prop := ∀ (env : Envelope) (p sub : Fin 2) (t4 s4 : BitVec 32) (t6 s6 : BitVec 128) (mac : BitVec 48) (data : List Byte)
    (who : Requester) (v : W32) (d : Dev),
  let n := env.port
  (∀ e, Passes d env [0xFFFFFFFFFFFF] false e → e.vidOk env = true →
    (e.answersFor n (mapV4 t4) = true → Takes (.arpRequest env t4 s4 mac) d
      ((e.hears n (mapV4 s4)).transmit n (mapV4 s4) (.arpReply (mapV4 t4) (e.macFor n (mapV4 t4)) mac) (some (mapV4 t4)))) ∧
    (e.answersFor n (mapV4 t4) = false → Takes (.arpRequest env t4 s4 mac) d e)) ∧
  (∀ e, Passes d env (ndGroups t6) false e → e.vidOk env = true →
    (e.answersFor n t6 = true → ipIsV4 t6 = false → Takes (.neighbourSolicit env t6 s6 mac) d
      ((e.hears n s6).transmit n s6 (.neighbourAdvert t6 (e.macFor n t6) mac) (some t6))) ∧
    (e.answersFor n t6 = false ∨ ipIsV4 t6 = true → Takes (.neighbourSolicit env t6 s6 mac) d e)) ∧
  (∀ e, Passes d env [] false e → e.vidOk env = true →
    (e.answersFor n t6 = true → Takes (.icmpEcho { toEnvelope := env } t6 s6 data) d (e.transmit n s6 (.echoReply data) (some t6))) ∧
    (e.answersFor n t6 = false → Takes (.icmpEcho { toEnvelope := env } t6 s6 data) d e) ∧
    Takes (.icmpEcho { toEnvelope := env, oddIp := true } t6 s6 data) d e) ∧
  (let mode := d.fld (aEt p + rEtMode) 1 0
   let state := d.fld (aPw + rPwState) 2 0
   (state ≠ 0 → state ≠ 4 → mode = 2 ∨ (mode = 1 ∧ sub = 0) →
     let e := d.setBit (aEt p + rEtState) sub
     let last := mode = 1 ∨ e.flag (aEt p + rEtState) (1 - sub.val) = true
     (last → Takes (.linkUp p sub) d (((e.clrBit (aEt p + rEtState) 2).rehome p).ptpListen p)) ∧
     (¬ last → Takes (.linkUp p sub) d ((e.rehome p).ptpListen p))) ∧
   (mode = 0 ∨ mode = 3 ∨ (mode = 1 ∧ sub = 1) ∨ state = 0 ∨ state = 4 → Takes (.linkUp p sub) d d)) ∧
  (d.flag (aEt p + rEtState) sub = true →
    let e := ((d.clrBit (aEt p + rEtState) sub).setBit (aEt p + rEtState) 2).setBit (aEt p + rEtSticky) 0
    (e.portUp p = true → Takes (.linkDown p sub) d (e.rehome (1 - p))) ∧
    (e.portUp p = false → Takes (.linkDown p sub) d ((e.modPort p fun q => { q with known := [], ptp := {} }).rehome (1 - p)))) ∧
  (d.flag (aEt p + rEtState) sub = false → Takes (.linkDown p sub) d d) ∧
  (let secured := portSecured p who
   let same := v.getLsbD 2 = d.flag (aEt p + rEtMode) 2
   (secured = true ∨ same → TakesBy who (aEt p + rEtMode) (.etModeWrite who p v) d (d.etModeWrite p v.toNat secured)) ∧
   (secured = false → ¬ same → Takes (.etModeWrite who p v) d d))

/-- R403, R509 to R511, R514: losing the source of a locked DT, with no valid pulses, enters holdover, which is alerted after 60 s; the next edge of
PPS_IN outside a rate window is acted on, and one inside only noted; a pulse 1 s after the one before, within 100 ppm, aligns DT and is valid, and
any other is counted; DT may be set over the management bus before Lit, and free running may be set before Lit and ends the wait of a cold start. -/
def TimeSourcesHold : Prop := ∀ (v : W64) (who : Requester) (d : Dev),
  (let e := (match d.timePort with | some p => d.modPtp p fun _ => {} | none => d).modClock fun c => { c with ptp := false }
   (e.timeState = 2 → e.ppsValid = false → Takes .ptpSourceLoss d e.enterHoldover) ∧
   (e.timeState ≠ 2 ∨ e.ppsValid = true → Takes .ptpSourceLoss d e)) ∧
  (∀ t, d.clock.holdover = some t → d.timeState = 3 →
    (t.toNat + 60000000000 ≤ d.dt.toNat → Takes .holdoverAlert d ((d.modClock fun c => { c with holdover := none }).raiseFreeAlert)) ∧
    (d.dt.toNat < t.toNat + 60000000000 → Takes .holdoverAlert d d)) ∧
  (d.clock.holdover = none ∨ d.timeState ≠ 3 → Takes .holdoverAlert d d) ∧
  (d.power.input = false → Takes .ppsEdge d d) ∧
  (d.power.input = true →
    let level := !d.power.pps.high
    let e := d.modPower fun q => { q with pps := { q.pps with high := level } }
    ((∃ w, d.power.pps.window = some w ∧ d.dt.toNat < w.toNat) → Takes .ppsEdge d (e.setBit (aPw + rPwPinSticky) 3)) ∧
    ((∀ w, d.power.pps.window = some w → w.toNat ≤ d.dt.toNat) →
      let f := e.modPower fun q => { q with pps := { q.pps with acted := level, window := some (e.dt + 1000000) } }
      Takes .ppsEdge d (if level = true ∧ f.hubRuns = true then f.ppsPulse.coldLocked else f))) ∧
  (let e := d.modClock fun c => { c with pps := some d.dt }
   let valid := ∃ t, d.clock.pps = some t ∧ t.toNat + 1000000000 ≤ d.dt.toNat + 100000 ∧ d.dt.toNat ≤ t.toNat + 1000100000
   (valid →
     let g := e.setBit (aCk + rCkState) 3
     d.ppsPulse = (if g.clock.ptp then g else g.countOffset g.ppsOffset).modClock fun c => { c with slew := -g.ppsOffset }) ∧
   (¬ valid → d.ppsPulse = ((e.clrBit (aCk + rCkState) 3).inc32 (aCk + rCkPpsRejects) 1).sourceLost)) ∧
  (d.pwState ≤ 1 →
    TakesBy .bus (aCk + rCkDtSet) (.ckDtSetWrite .bus v) d (d.stepTime v) ∧ (isBus who = false → Takes (.ckDtSetWrite who v) d d) ∧
    (let e := d.setBit (aCk + rCkTimeCfg) 0
     (∀ env, d.power.cold = some env → d.pwState = 1 → d.pwStep = 4 → TakesBy who (aCk + rCkTimeCfg) (.ckFreeRunSet who) d (e.coldTime env)) ∧
     (d.power.cold = none ∨ d.pwState = 0 ∨ d.pwStep ≠ 4 → TakesBy who (aCk + rCkTimeCfg) (.ckFreeRunSet who) d e))) ∧
  (1 < d.pwState → Takes (.ckDtSetWrite who v) d d ∧ Takes (.ckFreeRunSet who) d d)

/-- R403, R509: a PTP message that a port accepts, on its transport and in its domain, has its effect, and no other has one. Of two announced
masters of a port, the one with the lower dataset is taken; a Sync of the master is stamped, and gives, with the path delay, the offset of DT,
which ET_PTP_OFFSET shows and by which the better port of the two corrects DT; either mechanism measures the path delay; a Pdelay_Req is answered.
The messages and their fields are those of IEEE 1588-2019, not the spec's text (log 72). -/
def PtpExchangeHold : Prop := ∀ (env : Envelope) (tr : Fin 3) (bs : List Byte) (d g : Dev),
  Passes d env (ptpGroups tr) true g → g.vidOk env = true →
  let p := env.port.val
  let ours := (g.portUp p && g.flag (aEt p + rEtPtpCfg) 0 && g.hubRuns) = true ∧ g.ptpTransport p = tr.val
  let i : Instr := .ptpMessage { toEnvelope := env, transport := tr } bs
  (¬ ours ∨ ptpParse bs = none → Takes i d g) ∧
  ∀ m, ours → ptpParse bs = some m →
    (m.domain ≠ g.fld (aEt p + rEtPtpCfg) 11 4 → Takes i d g) ∧
    (m.domain = g.fld (aEt p + rEtPtpCfg) 11 4 →
      let q := (g.port p).ptp
      let x := g.stamp.2
      let t := g.stamp.1
      let key := m.rank * 2 ^ 80 + m.src
      (m.type = 11 → 64 ≤ bs.length → q.master = none → Takes i d ((g.modPtp p fun _ => { master := some key }).ptpListen p)) ∧
      (m.type = 11 → 64 ≤ bs.length → ∀ k, q.master = some k → k % 2 ^ 80 ≠ m.src →
        (key < k → Takes i d ((g.modPtp p fun _ => { master := some key }).ptpListen p)) ∧ (k ≤ key → Takes i d g)) ∧
      (m.type = 0 → ∀ k, q.master = some k → k % 2 ^ 80 = m.src →
        (m.twoStep = true → Takes i d (x.modPtp p fun q => { q with sync := some (m.seq, t, m.corr) })) ∧
        (m.twoStep = false →
          let y := x.modPtp p fun q => { q with sync := none, last := some (m.time + m.corr, t) }
          ((y.port p).ptp.delay = none → Takes i d (y.askDelay p)) ∧
          (∀ w, (y.port p).ptp.delay = some w →
            let o := t - (m.time + m.corr) - w
            let z := (y.wr64 (aEt p + rEtPtpOffset) (o % 2 ^ 64).toNat).ptpListen p
            (z.timePort ≠ some p → Takes i d (z.askDelay p)) ∧
            (z.timePort = some p → Takes i d
              ((((z.ptpOffset o).setFld (aEt p + rEtState) 5 4 (z.ptpOffset o).timeState).coldLocked).askDelay p))))) ∧
      (m.type = 0 → (∀ k, q.master = some k → k % 2 ^ 80 ≠ m.src) → Takes i d g) ∧
      (m.type = 2 → g.ptpPeer p = true → Takes i d (x.ptpSend p 3 m.seq ((m.corr * 65536) % 2 ^ 64).toNat t m.src)) ∧
      (m.type = 2 → g.ptpPeer p = false → Takes i d g))

/-- R399, R401, R407, R424 to R427: the checks of a frame, its delivery, the receive queues and the pauses. -/
def Obligations.FramesAndPauses : Prop := FrameChecksHold ∧ FramesAndPausesHold

/-- R403, R509 to R511, R514: the sources of device time, PTP among them. -/
def Obligations.TimeSources : Prop := TimeSourcesHold ∧ PtpExchangeHold

/-! ### MBT sessions -/

/-- R410, R411, R433: OPEN from an address that is not allowed is refused; on a closed session, or with no session named on the lowest free one,
it opens a session that takes the peer's numbers; with no session free, or to resume one that is closed, it is refused; on an opening session it
completes the opening; on an open one it starts anew; on a suspended one it resumes from the peer's expected number. -/
def Obligations.SessionsOpen : Prop := ∀ (d : Dev) (m : InMsg) (rest : List InMsg), atHead d m rest → m.msg.type = 1 →
  let e := taken d rest
  let own := leNat (bytesAt m.msg.body) 0 2
  let init := leNat (bytesAt m.msg.body) 4 4
  let resume := bit m.msg.flags 2
  let want := m.msg.session
  let admitted : Prop := e.allowed m.src = true ∧ ¬ (want = tether ∧ e.pairMode ≠ 0 ∧ m.src ≠ e.peerIp ∧ m.src ≠ e.peerIpAlt)
  let pair : Bool := e.servesPair && m.dst == e.pairIp
  let refuse (st : Nat) : Dev := e.rejectTo m.port m.src m.srcUdp.toNat own 0 0 st
  let target := if want = 0xFFFF then e.freeSession else if want < 4096 then some want else none
  (m.msg.body.length ≠ 16 → Takes .openMsg d e) ∧
  (m.msg.body.length = 16 → ¬ admitted → Takes .openMsg d (refuse 0x6005)) ∧
  (m.msg.body.length = 16 → admitted →
    (target = none → want = 0xFFFF → Takes .openMsg d (refuse 0x6004)) ∧
    (target = none → want ≠ 0xFFFF → Takes .openMsg d e) ∧
    ∀ s, target = some s →
      let x := e.session s
      let known := x.peerSession = 0xFFFF ∨ x.peerSession.toNat = own
      (x.state = 0 → resume = true → Takes .openMsg d (refuse 0x6003)) ∧
      (x.state = 0 → resume = false → Takes .openMsg d (((e.bindSession s m pair own init).sendOpenAck s false).sessionOpened s)) ∧
      (x.state = 1 → x.fromPeer m = true → known → Takes .openMsg d
        (((e.modSession s fun x => { x with state := 2, protect := m.protect, peerSession := BitVec.ofNat 16 own, rxExpect := BitVec.ofNat 32 init,
                                            ackNo := BitVec.ofNat 32 init, opens := 0 }).sendOpenAck s false).sessionOpened s)) ∧
      (x.state = 1 → x.fromPeer m = false ∨ ¬ known → Takes .openMsg d e) ∧
      (x.state = 2 → x.fromPeer m = true → resume = false →
        Takes .openMsg d (((e.bindSession s m x.pair own init).sendOpenAck s false).sessionOpened s)) ∧
      (x.state = 2 → x.fromPeer m = false ∨ resume = true → Takes .openMsg d e) ∧
      (x.state = 3 → x.fromPeer m = true → resume = true → x.peerSession.toNat = own →
        let n := BitVec.ofNat 32 (leNat (bytesAt m.msg.body) 8 4)
        Takes .openMsg d (((((e.modSession s fun x => { x with state := 2, protect := m.protect, retries := 0 }).sendOpenAck s true).resendFrom s
          n).applyAck s { m.msg with ack := n }).pump s)) ∧
      (x.state = 3 → x.fromPeer m = false ∨ resume = false ∨ x.peerSession.toNat ≠ own → Takes .openMsg d e))

/-- R410, R412, R413, R415, R416: the small messages of a session from its peer: OPEN_ACK completes an opening, CLOSE closes, ACK covers messages,
NAK has them sent again, and suspends the session after 8 times in a row without its ack advancing; PING is answered with its token and the arrival time; REJECT asks for nothing; a sequenced message of an unlisted type
is rejected. A message from another peer or on a session that is not open has no effect. -/
def SmallMessagesHold : Prop := ∀ (d : Dev) (m : InMsg) (rest : List InMsg), atHead d m rest →
  let e := taken d rest
  let s := m.msg.session
  let x := e.session s
  let open_ := x.state = 2 ∧ x.fromPeer m = true
  let own := leNat (bytesAt m.msg.body) 0 2
  let init := BitVec.ofNat 32 (leNat (bytesAt m.msg.body) 4 4)
  let answered := x.state = 1 ∧ x.fromPeer m = true ∧ m.msg.body.length = 16 ∧ (x.peerSession = 0xFFFF ∨ x.peerSession.toNat = own)
  (m.msg.type = 2 →
    (answered → Takes .openAckMsg d ((e.modSession s fun x => { x with state := 2, protect := m.protect, peerSession := BitVec.ofNat 16 own, opens := 0,
                                                                       rxExpect := init, ackNo := init }).sessionOpened s)) ∧
    (¬ answered → Takes .openAckMsg d e)) ∧
  (m.msg.type = 3 → (open_ → Takes .closeMsg d (e.closeSession s)) ∧ (¬ open_ → Takes .closeMsg d e)) ∧
  (m.msg.type = 4 → (open_ → Takes .ackMsg d (e.applyAck s m.msg)) ∧ (¬ open_ → Takes .ackMsg d e)) ∧
  (m.msg.type = 5 →
    (open_ →
      let advances : Bool := x.unacked.any fun u => decide (0 < serialDiff m.msg.ack u.msg.seq)
      let g := if advances then e.modSession s fun x => { x with retries := 0 } else e
      let n := nakStart m.msg
      let none_ : Bool := (g.session s).unacked.all fun u => decide (serialDiff u.msg.seq n < 0)
      (m.msg.body.length ≠ 4 ∨ none_ = true → Takes .nakMsg d (g.applyAck s m.msg)) ∧
      (m.msg.body.length = 4 → none_ = false →
        ((g.session s).retries < 8 →
          Takes .nakMsg d (((g.modSession s fun x => { x with retries := x.retries + 1 }).resendFrom s n).applyAck s m.msg)) ∧
        (8 ≤ (g.session s).retries → Takes .nakMsg d
          (((g.modSession s fun x => { x with state := 3, suspendedAt := g.dt, ackOwed := none }).setBit (aMt + rMtSticky) 1).applyAck s m.msg)))) ∧
    (¬ open_ → Takes .nakMsg d e)) ∧
  (m.msg.type = 6 →
    (open_ → m.msg.body.length = 16 → Takes .pingMsg d (e.sendUnseq s 6 (m.msg.body.take 8 ++ leBytes m.arrived.toNat 8) 1)) ∧
    (¬ open_ ∨ m.msg.body.length ≠ 16 → Takes .pingMsg d e)) ∧
  (m.msg.type = 7 → Takes .rejectMsg d e) ∧
  (mbtKnown m.msg.type = false →
    (mbtSequenced m.msg.type = true → Takes .unknownMessage d (e.reject s m.msg.seq 0x6002)) ∧
    (mbtSequenced m.msg.type = false → Takes .unknownMessage d e))

/-- R410, R412, R413, R428: a message unacknowledged for 20 µs is sent again with those after it, and after 8 times its session is suspended; an
ack owed for 2 µs is sent; OPEN is repeated every 20 µs and given up after 8; a session suspended for 2 ms closes; MT_CMD opens a closed session
towards the registers' address, on the port that it names or, where that has no link, on the other, and closes an open one. -/
def SessionTimersHold : Prop := ∀ (sn : Fin 4096) (who : Requester) (port : Fin 2) (d : Dev),
  let s := sn.val
  let x := d.session s
  let fails (e : Dev) : Dev := (e.inc64 (aMt + rMtSessionFails) 1).setBit (aMt + rMtSticky) 1
  (∀ u us, x.unacked = u :: us →
    (x.state = 2 → u.sentAt.toNat + 20000 ≤ d.dt.toNat →
      (x.retries < 8 → Takes (.retransmitTimer sn) d ((d.modSession s fun x => { x with retries := x.retries + 1 }).resendFrom s u.msg.seq)) ∧
      (8 ≤ x.retries → Takes (.retransmitTimer sn) d
        ((d.modSession s fun x => { x with state := 3, suspendedAt := d.dt, ackOwed := none }).setBit (aMt + rMtSticky) 1))) ∧
    (x.state ≠ 2 ∨ d.dt.toNat < u.sentAt.toNat + 20000 → Takes (.retransmitTimer sn) d d)) ∧
  (x.unacked = [] → Takes (.retransmitTimer sn) d d) ∧
  (∀ t, x.ackOwed = some t → x.state = 2 → t.toNat + 2000 ≤ d.dt.toNat → Takes (.ackTimer sn) d (d.sendUnseq s 4)) ∧
  (∀ t, x.ackOwed = some t → x.state ≠ 2 ∨ d.dt.toNat < t.toNat + 2000 → Takes (.ackTimer sn) d d) ∧
  (x.ackOwed = none → Takes (.ackTimer sn) d d) ∧
  (x.state = 1 → x.openAt.toNat + 20000 ≤ d.dt.toNat →
    (x.opens < 8 → Takes (.openRetry sn) d (d.sendOpen s)) ∧ (8 ≤ x.opens → Takes (.openRetry sn) d (fails (d.closeSession s)))) ∧
  (x.state ≠ 1 ∨ d.dt.toNat < x.openAt.toNat + 20000 → Takes (.openRetry sn) d d) ∧
  (x.state = 3 → x.suspendedAt.toNat + 2000000 ≤ d.dt.toNat → Takes (.suspendTimeout sn) d ((d.closeSession s).inc64 (aMt + rMtSessionFails) 1)) ∧
  (x.state ≠ 3 ∨ d.dt.toNat < x.suspendedAt.toNat + 2000000 → Takes (.suspendTimeout sn) d d) ∧
  (let k := d.selected
   let peer := d.rd (aMt + rMtOpenPeer)
   ((d.session k).state = 0 → TakesBy who (aMt + rMtCmd) (.mtCmdOpen who port) d
     (((d.modSession k fun x => { x with state := 1, home := port.val, localOpen := true, pair := false, addr := d.rd128 (aMt + rMtOpenAddr),
                                         udp := peer.setWidth 16, peerSession := (peer >>> 16).setWidth 16, txSeq := d.dt.setWidth 32, opens := 0,
                                         unacked := [], waiting := [] }).rehome (1 - port.val)).sendOpen k)) ∧
   ((d.session k).state ≠ 0 → Takes (.mtCmdOpen who port) d d) ∧
   ((d.session k).state = 2 → TakesBy who (aMt + rMtCmd) (.mtCmdClose who) d ((d.sendUnseq k 3).closeSession k)) ∧
   ((d.session k).state ≠ 2 → Takes (.mtCmdClose who) d d))

/-- R415, R416, R419 to R422, R425, R435, R475, R494: CREAD, CWRITE and MARK act in turn, behind an unanswered MARK of their session, but for a MARK whose answer
comes behind it by its tick; a DREAD is
answered in segments; a DWRITE starts its write, or is refused: in Safe Hold, on a secondary that it reaches from a host, with a poisoned address, misaligned or mapped to
nothing. -/
def Obligations.DataAndControlMessages : Prop := ∀ (d : Dev) (m : InMsg) (rest : List InMsg), atHead d m rest → m.msg.response = false →
  let e := taken d rest
  let s := m.msg.session
  let waits : Bool := e.obs.awaiting.contains s || e.obs.deferred.any fun x => x.msg.session == s
  let put : Dev := { e with obs := { e.obs with deferred := e.obs.deferred ++ [m] } }
  (m.msg.type = 0x20 → (waits = true → Takes .cread d put) ∧ (waits = false → Takes .cread d (e.creadReceived m))) ∧
  (m.msg.type = 0x21 → (waits = true → Takes .cwrite d put) ∧ (waits = false → Takes .cwrite d (e.cwriteReceived m))) ∧
  (m.msg.type = 0x30 →
    (waits = true → e.markFollows m = false → Takes .markMsg d put) ∧
    (waits = false ∨ e.markFollows m = true → Takes .markMsg d (e.markReceived m))) ∧
  (m.msg.type = 0x22 →
    let a := leNat (bytesAt m.msg.body) 0 8
    let len := leNat (bytesAt m.msg.body) 8 4
    let wellFormed := m.msg.body.length = 16 ∧ leNat (bytesAt m.msg.body) 12 4 = 0
    let aligned := a % 64 = 0 ∧ len % 64 = 0 ∧ 64 ≤ len ∧ len ≤ 2 ^ 24
    (¬ wellFormed → Takes .dread d (e.reject s m.msg.seq 0x6002)) ∧
    (wellFormed → m.poison ≠ [] → Takes .dread d (e.respond s 0x22 m.msg.seq (segmentBody 0x6001 0 []))) ∧
    (wellFormed → m.poison = [] → ¬ aligned → Takes .dread d (e.respond s 0x22 m.msg.seq (segmentBody 0x600A 0 []))) ∧
    (wellFormed → m.poison = [] → aligned → Takes .dread d (e.readSegments s m.msg.seq a len ((e.maxBody - 8) / 64 * 64) (len / 64 + 1) 0))) ∧
  (m.msg.type = 0x23 →
    let w := writeOf m
    (m.msg.body.length < 8 → Takes .dwrite d (e.reject s m.msg.seq 0x6002)) ∧
    (8 ≤ m.msg.body.length →
      (e.safeHold = true → Takes .dwrite d (e.answerWrite w 0x100C 0)) ∧
      (e.safeHold = false → e.isSecondary = true → w.twin = false → Takes .dwrite d (e.answerWrite w 0x7005 0)) ∧
      (e.safeHold = false → e.isSecondary = false ∨ w.twin = true →
        (m.poison.contains 0 = true → Takes .dwrite d (e.answerWrite w 0x6001 0)) ∧
        (m.poison.contains 0 = false →
          let shape := w.addr % 4 = 0 ∧ w.data.length % 4 = 0 ∧ 0 < w.data.length ∧ w.data.length ≤ e.maxBody - 8
          (¬ shape → Takes .dwrite d (e.answerWrite w 0x600A 0)) ∧
          (shape → inOneUnit w.addr w.data.length = false → Takes .dwrite d (e.answerWrite w 0x6009 0)) ∧
          (shape → inOneUnit w.addr w.data.length = true →
            Takes .dwrite d { e with net := { e.net with writes := e.net.writes ++ [w] } })))))

/-- R493 to R496: at its tick a mark latches every shadow, numbers itself, answers the MARKs that asked for it and lets what waited go on;
DV_MARK_CMD asks for the next tick; the telemetry record is rewritten at each multiple of 1,000,000 ns while the hub runs; a read of DV_TELE_SEQ
latches the record for its requester. -/
def Obligations.MarksAndTelemetry : Prop := ∀ (who : Requester) (v : Readings) (d : Dev),
  (∀ q ms, d.obs.marks = q :: ms →
    (q.tick.toNat ≤ d.dt.toNat → d.hubRuns = true →
      let num := d.rd (aDv + rDvMarkNum) + 1
      let e := (d.latchShadows.wr (aDv + rDvMarkNum) num).wr64 (aDv + rDvMarkAt) q.tick.toNat
      let e : Dev := { e with obs := { e.obs with marks := ms, waiting := [] } }
      let e := q.asked.foldl (fun e p => e.respond p.1 0x30 p.2 (markBody 0 num q.tick)) e
      let e := d.obs.waiting.foldl (fun e w => e.askMark e.dt w.1 w.2) e
      Takes .markTick d (e.obs.deferred.foldl (fun e x => e.ctlInTurn x) { e with obs := { e.obs with deferred := [] } })) ∧
    (d.dt.toNat < q.tick.toNat ∨ d.hubRuns = false → Takes .markTick d d)) ∧
  (d.obs.marks = [] → Takes .markTick d d) ∧
  TakesBy who (aDv + rDvMarkCmd) (.dvMarkCmdRequest who) d (d.askMark d.dt 0 none) ∧
  (d.hubRuns = true → d.dt.toNat % 1000000 = 0 →
    let hot := (upto 8).foldl (fun x n => max x (d.fld (aPl n + rPlTemp) 7 0)) 0
    Takes (.telemetryUpdate v) d
      (((((d.wr rDvTeleSeq (d.rd rDvTeleSeq + 1)).wr64 rDvTeleAt d.dt.toNat).wr rDvTelePower
        (BitVec.ofNat 32 (v.vin.toNat + v.pin.toNat * 2 ^ 16))).wr rDvTeleParts
        (BitVec.ofNat 32 (v.cd.toNat + v.piles.toNat * 2 ^ 10 + v.hub.toNat * 2 ^ 19))).wr rDvTeleTemp
        (BitVec.ofNat 32 (v.cd0c.toNat + v.cd1c.toNat * 2 ^ 8 + v.hubc.toNat * 2 ^ 16 + hot * 2 ^ 24)))) ∧
  (d.hubRuns = false ∨ d.dt.toNat % 1000000 ≠ 0 → Takes (.telemetryUpdate v) d d) ∧
  (d.reaches who rDvTeleSeq = true →
    Takes (.dvTeleSeqRead who) d (d.modHolding who fun h => { h with telemetry := some (teleWords.map d.regView) })) ∧
  (d.reaches who rDvTeleSeq = false → Takes (.dvTeleSeqRead who) d d)

/-- R410, R412, R413, R415, R416, R428: the small messages, the timers and the commands of a session. -/
def Obligations.SessionUpkeep : Prop := SmallMessagesHold ∧ SessionTimersHold

/-! ### Registers -/

/-- R13 to R15, R18, R49 to R51, R468: a read of the low word of a 64-bit register latches its high word for the requester; a write of a low word
is held, and a write of the high word applies both; a write of another register acts by its access types; a write in a locked block takes the
W1C bits of error records only; a misaligned address, one that the requester does not reach and a closed register take nothing. -/
def RegisterAccessHold : Prop := ∀ (who : Requester) (addr v : W32) (d : Dev),
  let a := addr.toNat
  let open_ : Prop := a % 4 = 0 ∧ d.reaches who a = true ∧ d.writeClosed who a v = false
  let e := d.countUnmapped a
  (halfAt a = 1 →
    (a % 4 = 0 → d.reaches who a = true → a ≠ rDvTeleSeq →
      Takes (.regLowRead who addr) d (e.modHolding who fun h => { h with latch := some (a, e.sourceFor who (a + 4)) })) ∧
    (a % 4 ≠ 0 ∨ d.reaches who a = false → Takes (.regLowRead who addr) d d)) ∧
  (open_ → e.locked a = false →
    (halfAt a = 1 →
      let f := e.modHolding who fun h => { h with low := some (a, v) }
      Takes (.regLowWrite who addr v) d f ∧ Takes (.regWrite who addr v) d f) ∧
    (halfAt a = 2 →
      let f := (e.write64 who (a - 4) ((e.lowFor who (a - 4)).toNat + v.toNat * 2 ^ 32)).endLow who (a - 4)
      Takes (.regHighWrite who addr v) d f ∧ Takes (.regWrite who addr v) d f) ∧
    (halfAt a = 0 → (wordAt a).isSome = true → Takes (.regWrite who addr v) d (e.write32 who a v)) ∧
    (halfAt a = 0 → wordAt a = none → Takes (.regWrite who addr v) d e)) ∧
  (open_ → e.locked a = true → Takes (.regWrite who addr v) d (e.lockedWrite a v)) ∧
  (¬ open_ → Takes (.regLowWrite who addr v) d d ∧ Takes (.regHighWrite who addr v) d d ∧ Takes (.regWrite who addr v) d d)

/-- R517, R518: the management bus writes a register as its requester; SMB_SET_ADDR sets the address, and SMB_READ32 answers the register there
and advances by 4, with CTRL_ALIGN for a misaligned address; a bus that is not served does nothing. -/
def ManagementBusHold : Prop := ∀ (addr v : W32) (d : Dev),
  let a := d.obs.smbAddr
  let r := d.regRead .bus a.toNat
  let open_ : Prop := addr.toNat % 4 = 0 ∧ d.reaches .bus addr.toNat = true ∧ d.writeClosed .bus addr.toNat v = false
  (open_ → d.locked addr.toNat = false → halfAt addr.toNat = 0 → (blockOf addr.toNat).isSome = true → (wordAt addr.toNat).isSome = true →
    Takes (.smbWrite32 addr v) d (d.write32 .bus addr.toNat v)) ∧
  (∀ e, Takes (.regWrite .bus addr v) d e → Takes (.smbWrite32 addr v) d e) ∧
  (¬ open_ → Takes (.smbWrite32 addr v) d d) ∧
  (d.busServed = true →
    Takes (.smbSetAddr addr) d { d with obs := { d.obs with smbAddr := addr } } ∧
    (a.toNat % 4 = 0 → Takes .smbRead32 d { r.2 with obs := { r.2.obs with smbAnswer := some (r.1, 0), smbAddr := a + 4 } }) ∧
    (a.toNat % 4 ≠ 0 → Takes .smbRead32 d { d with obs := { d.obs with smbAnswer := some (0, 0x6006), smbAddr := a + 4 } })) ∧
  (d.busServed = false → Takes (.smbSetAddr addr) d d ∧ Takes .smbRead32 d d)

/-- Command `i`, a write of `who` at `clear`, clears the 64-bit counters at the offsets `counters` of the block at `base` and the W1C bits of its
word at `sticky`, whenever `who` reaches the register and the block is not locked, and changes nothing else; else it changes nothing. -/
def ClearsBlock (who : Requester) (clear : Nat) (i : Instr) (base sticky : Nat) (counters : List Nat) : Prop := ∀ d : Dev,
  (d.reaches who clear = false ∨ d.locked base = true → Takes i d d) ∧
  (d.reaches who clear = true → d.locked base = false → ∃ e : Dev, Takes i d e ∧ e = { d with ctl := e.ctl } ∧
    (∀ o ∈ counters, e.rd64 (base + o) = 0) ∧
    e.rd (base + sticky) = d.rd (base + sticky) &&& ~~~ BitVec.ofNat 32 (((wordAt (base + sticky)).map fun w => w.w1c).getD 0) ∧
    ∀ a, a ≠ base + sticky → (∀ o ∈ counters, a ≠ base + o ∧ a ≠ base + o + 4) → e.rd a = d.rd a)

/-- R91, R209, R210, R229, R262, R301, R324, R345, R395, R427, R428, R455, R541: each clear sets the counters of its block to 0 and clears the
W1C bits of its sticky register, with one write, and leaves every other register, LL_EVAL_MAX and LL_HELD_PEAK among them, as it was. -/
def BlockClearsHold : Prop := ∀ (who : Requester) (r c : Fin 8) (k : Fin 40) (p : Fin 2),
  ClearsBlock who (aCo r k + rCoArithClear) (.coArithClear who r k) (aCo r k) rCoArithSticky
    [rCoDropEvents, rCoChunksClosed, rCoChunksDropping, rCoAutoCloses, rCoReplaysAnchor, rCoReplaysError, rCoSaturations, rCoInvalids] ∧
  ClearsBlock who (aCo r k + rCoSpClear) (.coSpClear who r k) (aCo r k) rCoSpSticky
    [rCoSpRangeDrops, rCoSpOrderDrops, rCoSpScatDrops, rCoSpTilesSparse, rCoSpTilesDense, rCoSpPlyBits] ∧
  ClearsBlock who (aCo r k + rCoPlClear) (.coPlClear who r k) (aCo r k) rCoPlSticky [rCoPlOps, rCoPlHolds, rCoPlHoldCyc] ∧
  ClearsBlock who (aRn r + rRnSpClear) (.rnSpClear who r) (aRn r) rRnSpSticky [rRnSpPopFixes, rRnSpPrefixFixes] ∧
  ClearsBlock who (aRn r + rRnBcClear) (.rnBcClear who r) (aRn r) rRnBcSticky [rRnBcPasses, rRnBcAudited, rRnBcMisses, rRnBcCapped, rRnBcFallbacks] ∧
  ClearsBlock who (aRs r + rRnStClear) (.rnStClear who r) (aRs r) rRnStSticky [rRnStCorrected, rRnStUncorrectable, rRnStScrubPasses, rRnStHitchDenied] ∧
  ClearsBlock who (aSt r c + rStClear) (.stClear who r c) (aSt r c) rStSticky [rStDescs, rStBytes, rStRearms, rStRangeDrops] ∧
  ClearsBlock who (aPl r + rPlClear) (.plClear who r) (aPl r) rPlSticky [rPlCorrected, rPlUncorrectable, rPlLayerFixes, rPlLinkRetries, rPlScrubPasses, rPlNmoRerounded] ∧
  ClearsBlock who (aLl + rLlClear) (.llClear who) aLl rLlSticky [rLlAccepts, rLlRefusals, rLlAborts, rLlOverruns] ∧
  ClearsBlock who (aEt p + rEtClear) (.etClear who p) (aEt p) rEtSticky
    [rEtFcsErrors, rEtFecCorrected, rEtFecUncorrected, rEtRqDrops, rEtRqPoison, rEtMacsecDrops, rEtPausesSent, rEtPausesReceived] ∧
  ClearsBlock who (aMt + rMtClear) (.mtClear who) aMt rMtSticky [rMtCheckFails, rMtRetransmits, rMtNaks, rMtRejects, rMtSessionFails, rMtDiscarded] ∧
  ClearsBlock who (aTt + rTtClear) (.ttClear who) aTt rTtSticky [rTtBeatsMissed, rTtMismatches, rTtUnmirrored, rTtTakeovers]

/-- Command `i`, a write of `who` at `clear`, sets every word of `words` to 0, whenever `who` reaches the register and the block at `lock` is not
locked, and changes nothing else; else it changes nothing. -/
def ClearsWords (who : Requester) (clear : Nat) (i : Instr) (lock : Nat) (words : List Nat) : Prop := ∀ d : Dev,
  (d.reaches who clear = false ∨ d.locked lock = true → Takes i d d) ∧
  (d.reaches who clear = true → d.locked lock = false → ∃ e : Dev, Takes i d e ∧ e = { d with ctl := e.ctl } ∧ ∀ a, e.rd a = if a ∈ words then 0 else d.rd a)

/-- R50, R366, R367, R428, R458, R490 to R492: the clears of counters that have no sticky word; a commit leaves the Flicker table pending, and with
no task bound the shadow table becomes active on every region, counted; a pile window is written unless it would be enabled on a bad range. -/
def OtherControlsHold : Prop := ∀ (who : Requester) (r : Fin 8) (k : Fin 40) (w : Fin 16) (addr v : W32),
  let both (a : Nat) : List Nat := [a, a + 4]
  ClearsWords who (aHb + rHbUnmappedClear) (.hbUnmappedClear who) aHb [aHb + rHbUnmapped, aHb + rHbUnmapped + 4, aHb + rHbUnmappedLast] ∧
  ClearsWords who (aCo r k + rCoPfClear) (.coPfClear who r k) (aCo r k)
    ([rCoPfIssue, rCoPfHold, rCoPfSwitch, rCoPfIdle, rCoPfTarray, rCoPfProducts].flatMap fun o => both (aCo r k + o)) ∧
  ((recordAt addr.toNat).isSome = true → ClearsWords who addr.toNat (.erStateClear who addr) addr.toNat
    ((addr.toNat + rErOverflow) :: both (addr.toNat + rErCorrected) ++ both (addr.toNat + rErFaults))) ∧
  (∀ d : Dev, d.locked addr.toNat = false → TakesBy who addr.toNat (.arClear who addr) d (d.clearWords (arClearWords addr.toNat))) ∧
  (∀ d : Dev,
    TakesBy who (aHb + rHbFlkCtl) (.hbFlkCtlCommit who) d (d.setBit (aHb + rHbFlkState) 0) ∧
    (d.flag (aHb + rHbFlkState) 0 = true → (∀ t ∈ d.tasks, t.started = false) →
      let t : Sparse W32 := (upto 1024).foldl (fun m j => sset flickerDefault m j (d.rd (aHb + rHbFlkTab + 4 * j))) []
      let e := (upto 8).foldl (fun d r => d.modRegion r fun g => { g with flk := t }) d
      let f := (e.putBit (aHb + rHbFlkState) 1 t.isEmpty).clrBit (aHb + rHbFlkState) 0
      Takes .flkTableCopy d (f.setFld (aHb + rHbFlkState) 31 16 (satTo 16 (f.fld (aHb + rHbFlkState) 31 16 + 1)))) ∧
    (d.flag (aHb + rHbFlkState) 0 = false ∨ (∃ t ∈ d.tasks, t.started = true) → Takes .flkTableCopy d d) ∧
    (v.getLsbD 0 = false ∨ d.pwinOk w = true →
      TakesBy who (aMt + rMtPwinCtl + 32 * w) (.mtPwinCtlWrite who w v) d (d.putWord (aMt + rMtPwinCtl + 32 * w) v)) ∧
    (v.getLsbD 0 = true → d.pwinOk w = false → Takes (.mtPwinCtlWrite who w v) d d))

/-- R13 to R15, R18, R49 to R51, R468, R517, R518: how a requester reads and writes control space. -/
def Obligations.ControlSpaceAccess : Prop := RegisterAccessHold ∧ ManagementBusHold

/-- R50, R91, R209, R210, R229, R262, R301, R324, R366, R367, R395, R427, R428, R455, R458, R490 to R492, R541: the clears of counters, the commit
of the Flicker table, and the pile windows. -/
def Obligations.ClearsAndTables : Prop := BlockClearsHold ∧ OtherControlsHold

/-! ### The Tether -/

/-- R431, R432, R436, R437, R439 to R442, R445 to R448: what each Tether message does when it arrives on the Tether session, whose ack follows:
DETACH with the stored binding leaves the pair; a valid JOIN is kept and may join, an invalid one closes the session; STATE is kept; a secondary
binds or keeps a TASK; a DIGEST is kept with its task; a FWD is performed as its kind says. A message of another length than its type's, or with reserved fields not zero, is rejected.
A beat of the stored peer is heard, and the offset of the twin's time is half the difference of the two ways' transits; another counts as missed
wherever beats are exchanged. On another session a sequenced one is rejected. -/
def Obligations.TetherMessages : Prop := ∀ (d : Dev) (m : InMsg) (rest : List InMsg) (back : W64), atHead d m rest →
  let e := taken d rest
  let rd := bytesAt m.msg.body
  let len := m.msg.body.length
  let idle := e.settleTetherAck
  let refused := (e.reject tether m.msg.seq 0x6002).settleTetherAck
  (m.msg.session = tether →
    (m.msg.type = 0x45 →
      let mine := e.ttState ≠ 0 ∧ len = 8 ∧ leNat rd 0 8 = e.pairBinding
      (mine → Takes .detachMsg d e.leavePair.settleTetherAck) ∧ (¬ mine → len = 8 → Takes .detachMsg d idle) ∧
      (len ≠ 8 → Takes .detachMsg d refused)) ∧
    (m.msg.type = 0x40 →
      let valid := len = 112 ∧ e.joinValid rd = true
      let p : PeerJoin := ⟨BitVec.ofNat 64 (leNat rd 96 8), BitVec.ofNat 32 (leNat rd 108 4), leNat rd 104 1, bit (leNat rd 105 1) 0, leNat rd 17 1⟩
      (e.ttState = 0 → Takes .joinMsg d idle) ∧
      (e.ttState ≠ 0 → ¬ valid →
        Takes .joinMsg d ((((e.sendUnseq tether 3).closeSession tether).setBit (aTt + rTtSticky) 2).modTwin
          fun t => { t with badRecords := t.badRecords + 1 }).settleTetherAck) ∧
      (e.ttState = 1 ∨ e.ttState = 4 → valid → Takes .joinMsg d (e.modTwin fun t => { t with joined := some p }).tryJoin.settleTetherAck) ∧
      (e.ttState = 2 ∨ e.ttState = 3 ∨ e.ttState = 5 → valid → Takes .joinMsg d idle)) ∧
    (m.msg.type = 0x44 →
      let fits := len = 200 ∧ leNat rd 4 4 = 0
      (fits → e.twin.joined.isSome = true →
        Takes .stateMsg d (e.modTwin fun t => { t with stateGot := some (m.msg.body.drop 8) }).settleTetherAck) ∧
      (fits → e.twin.joined = none → Takes .stateMsg d idle) ∧ (¬ fits → Takes .stateMsg d refused)) ∧
    (m.msg.type = 0x42 →
      let x := twinRecOf m.msg.body
      let f := e.noteLast x.id
      let g : Dev := { f with lamp := { f.lamp with next := if f.lamp.next ≤ x.id then nextTask x.id else f.lamp.next } }
      let h := g.modTwin fun t => { t with pairs := if t.pairs.contains x.session then t.pairs else t.pairs ++ [x.session] }
      let fits := 112 ≤ len ∧ leNat rd 12 4 = 0
      (e.isSecondary = true → fits →
        (h.pairMode = 1 → Takes .taskMsg d (h.adoptTask x).settleTetherAck) ∧
        (h.pairMode ≠ 1 → Takes .taskMsg d (h.modTwin fun t => { t with records := t.records ++ [x] }).settleTetherAck)) ∧
      (e.isSecondary = false → fits → Takes .taskMsg d idle) ∧ (¬ fits → Takes .taskMsg d refused)) ∧
    (m.msg.type = 0x43 →
      let id := BitVec.ofNat 32 (leNat rd 0 4)
      let f := e.modTask id fun t => { t with twinDigest := some (BitVec.ofNat 16 (leNat rd 4 2), BitVec.ofNat 64 (leNat rd 8 8)) }
      let fits := len = 24 ∧ leNat rd 6 2 = 0
      (fits → Takes .digestMsg d (if f.ttPrimary then f.settleDigest id else f.settleCopy id).settleTetherAck) ∧
      (¬ fits → Takes .digestMsg d refused)) ∧
    (m.msg.type = 0x41 →
      let s := leNat rd 0 2
      let kind := leNat rd 2 2
      let f := e.modTwin fun t => { t with pairs := if t.pairs.contains s then t.pairs else t.pairs ++ [s] }
      (mbtParse (m.msg.body.drop 8) = none → Takes .fwdMsg d (e.reject tether m.msg.seq 0x6002).settleTetherAck) ∧
      ∀ h, mbtParse (m.msg.body.drop 8) = some h →
        (e.isSecondary = true →
          (kind = 0 → h.type = 0x23 → h.response = false → Takes .fwdMsg d (f.fwdWrite m s h).settleTetherAck) ∧
          (kind = 2 → h.type = 0x12 ∨ h.type = 0x13 → Takes .fwdMsg d (f.fwdEnded h).settleTetherAck) ∧
          (kind = 1 → Takes .fwdMsg d f.settleTetherAck)) ∧
        (e.isSecondary = false → e.replicates = true → kind = 2 → h.type = 0x23 → Takes .fwdMsg d (e.fwdRefusal s h).settleTetherAck) ∧
        (e.isSecondary = false → e.replicates = false ∨ kind ≠ 2 ∨ h.type ≠ 0x23 → Takes .fwdMsg d idle)) ∧
    (m.msg.type = 0x48 →
      let joined := (e.ttState = 2 ∨ e.ttState = 3 ∨ (e.ttState = 4 ∧ e.twin.joined.isSome = true)) ∧ e.hubRuns = true
      let good := len = 32 ∧ leNat rd 0 8 = e.pairPeerSerial ∧ (m.src = e.peerIp ∨ m.src = e.peerIpAlt)
      let offset : Int := (back.toInt - (m.arrived - BitVec.ofNat 64 (leNat rd 8 8)).toInt) / 2
      let f := (e.wr (aTt + rTtOffset) (BitVec.ofInt 32 offset)).modTwin fun t =>
        { t with heard := true, good := if offset.natAbs ≤ 200 then t.good + 1 else 0, peerLit := bit (leNat rd 25 1) 2, peerState := leNat rd 24 1 }
      (¬ joined → Takes (.beatMsg back) d e) ∧
      (joined → ¬ good → Takes (.beatMsg back) d e.missBeat) ∧
      (joined → good → bit (leNat rd 25 1) 1 = true → Takes (.beatMsg back) d f.twinLost) ∧
      (joined → good → bit (leNat rd 25 1) 1 = false → Takes (.beatMsg back) d f))) ∧
  (m.msg.session ≠ tether → ∀ i ty, (i, ty) ∈ [(Instr.detachMsg, 0x45), (.joinMsg, 0x40), (.stateMsg, 0x44), (.taskMsg, 0x42), (.digestMsg, 0x43),
      (.fwdMsg, 0x41)] → m.msg.type = ty → Takes i d (e.reject m.msg.session m.msg.seq 0x6002))

/-- R431, R432, R438 to R441, R443, R450: beats leave and are checked at multiples of 8,000 ns, and the third one missed in a row finds the
twin lost, which moves a READY module to SOLO; a seeking module opens its session every 10 ms and becomes SOLO 16 s after power-up; a joined pair becomes READY when it
agrees and is fresh, or on the command to resume; a fenced module leaves its state on the command to rejoin; a pairing record is committed, and a commit that is refused, for any reason, sets
TT_STICKY.2. -/
def Obligations.TetherControl : Prop := ∀ (who : Requester) (d : Dev),
  (d.beats = true → d.dt.toNat % 8000 = 0 → Takes .beatSend d d.sendBeat) ∧
  (d.beats = false ∨ d.dt.toNat % 8000 ≠ 0 → Takes .beatSend d d) ∧
  (let joined := d.ttState = 2 ∨ d.ttState = 3 ∨ (d.ttState = 4 ∧ d.twin.joined.isSome = true)
   let checks := joined ∧ d.hubRuns = true ∧ d.dt.toNat % 8000 = 0
   let f := (d.inc64 (aTt + rTtBeatsMissed) 1).modTwin fun t => { t with missed := t.missed + 1, good := 0 }
   (checks → d.twin.heard = true → Takes .beatCheck d (d.modTwin fun t => { t with heard := false, missed := 0 })) ∧
   (checks → d.twin.heard = false → d.twin.missed < 2 → Takes .beatCheck d f) ∧
   (checks → d.twin.heard = false → 2 ≤ d.twin.missed → Takes .beatCheck d f.twinLost) ∧
   (¬ checks → Takes .beatCheck d d)) ∧
  (let lost := d.setBit (aTt + rTtSticky) 0
   let solo := ((lost.enterSolo (lost.ttPrimary || lost.isSecondary)).raiseAlert 0x7002 0 0).endReplication
   (lost.ttState ≠ 3 → d.twinLost = lost) ∧ (lost.ttState = 3 → d.twinLost = if lost.isSecondary then solo.takeover else solo)) ∧
  (let due := ∀ t, d.twin.seekAt = some t → t.toNat + 10000000 ≤ d.dt.toNat
   (∀ p ps, d.ttState = 1 → due → d.tetherPaths = p :: ps →
     Takes .seekRetry d ((d.modTwin fun t => { t with seekAt := some d.dt }).startOpen tether p.1 p.2.1 d.mbtUdp 0xFFF false)) ∧
   (d.ttState ≠ 1 ∨ ¬ due ∨ d.tetherPaths = [] → Takes .seekRetry d d)) ∧
  (let ripe := d.ttState = 1 ∧ d.lit = true ∧ d.pairServes = true ∧ 16000000000 ≤ (d.dt - d.twin.poweredAt).toNat
   (ripe → Takes .soloTimeout d ((d.setEpoch (d.epoch + 1)).setTether 4 true).announcePair) ∧ (¬ ripe → Takes .soloTimeout d d)) ∧
  (let follows := d.pairMode = 3 ∨ d.pairFresh = true ∨ (d.ttPrimary = false ∧ d.twin.peerState = 3)
   let ready := (d.setTether 3 d.ttPrimary).sendState
   (d.ttState = 2 → d.pairAgrees = true → follows → Takes .pairReady d ready) ∧
   (d.ttState ≠ 2 ∨ d.pairAgrees = false ∨ ¬ follows → Takes .pairReady d d) ∧
   (d.ttState = 2 → d.ttPrimary = true → d.pairAgrees = true → TakesBy who (aTt + rTtCmd) (.ttCmdResume who) d ready) ∧
   (d.ttState ≠ 2 ∨ d.ttPrimary = false ∨ d.pairAgrees = false → Takes (.ttCmdResume who) d d)) ∧
  (d.ttState = 5 → (d.session tether).state = 2 →
    TakesBy who (aTt + rTtCmd) (.ttCmdRejoin who) d (((d.sendUnseq tether 3).closeSession tether).enterUnjoined)) ∧
  (d.ttState = 5 → (d.session tether).state ≠ 2 → TakesBy who (aTt + rTtCmd) (.ttCmdRejoin who) d ((d.closeSession tether).enterUnjoined)) ∧
  (d.ttState ≠ 5 → Takes (.ttCmdRejoin who) d d) ∧
  (let n := d.em 0x21 1
   (anySecured who = false → Takes (.ttPairCommit who) d d) ∧
   (anySecured who = true →
     (pairRecordOk d.pairStaged = false → TakesBy who (aTt + rTtPairCommit) (.ttPairCommit who) d (d.setBit (aTt + rTtSticky) 2)) ∧
     (pairRecordOk d.pairStaged = true →
       (d.scClosed = true → TakesBy who (aTt + rTtPairCommit) (.ttPairCommit who) d ((d.setBit (aTt + rTtSticky) 2).scResult 0x9006 8)) ∧
       (d.scClosed = false → 64 ≤ n → TakesBy who (aTt + rTtPairCommit) (.ttPairCommit who) d ((d.setBit (aTt + rTtSticky) 2).scResult 0x9001 8)) ∧
       (d.scClosed = false → n < 64 → d.pairStaged = d.emBytes 0x80 96 →
         TakesBy who (aTt + rTtPairCommit) (.ttPairCommit who) d (((d.pairApplied d.pairBinding).setBit (aTt + rTtPairCommit) 0).scResult 0 8)) ∧
       (d.scClosed = false → n < 64 → d.pairStaged ≠ d.emBytes 0x80 96 →
         TakesBy who (aTt + rTtPairCommit) (.ttPairCommit who) d (d.seize 8 (cellsAt 0x80 d.pairStaged ++ [(0x21, BitVec.ofNat 8 (n + 1))]))))))

/-! ### Faults, fencing and ageing -/

/-- R25, R75, R461, R465, R470 to R472: a corrected error of a watched lane or core is entered; the first uncorrectable error of a lane in an open
chunk is replayed, and any other passes to the core; an uncorrectable error of a core opens its window and aborts its tasks, and with the third
window in 24 h, or inside a window, the core is snuffed; the self-check ends the window. An event that repeats one of its cycle is only entered. -/
def LaneAndCoreFaults : Prop := ∀ (r : Fin 8) (c : Fin 40) (lane : Fin 64) (item : W64) (unit : W32) (d : Dev),
  let base := aErCo r c
  let ids := openIds (d.slotTasks r c)
  let now := d.dt :: d.withinDay (d.core r c).windows
  let e := d.modCore r c fun co => { co with windows := now }
  let enter (f : Dev) (st : Nat) (up : Nat) : Dev := f.enterError base 16 st 0x11 unit.toNat item.toNat (smallest ids) up
  (d.watched r c = true →
    Takes (.laneSingleBit r c lane item) d (d.enterError (aErLane r c lane) 1 0x800A 0x01 0 item.toNat (d.runningTask r c) 0) ∧
    Takes (.coreSingleBit r c unit item) d (d.enterError base 16 0x800A 0x10 unit.toNat item.toNat (d.runningTask r c) 0)) ∧
  (d.sameCycle base 0x11 unit.toNat item.toNat = true →
    Takes (.coreError r c unit item) d (d.enterError base 16 0x8001 0x11 unit.toNat item.toNat 0 0)) ∧
  (d.watched r c = true → d.sameCycle base 0x11 unit.toNat item.toNat = false →
    ((d.region r).recovering = true → Takes (.coreError r c unit item) d (enter d 0x8001 0)) ∧
    ((d.region r).recovering = false →
      (d.handling base = true → Takes (.coreError r c unit item) d (((enter d 0x8002 1).setBit (base + rErState) 2).snuff r c true)) ∧
      (d.handling base = false → 3 ≤ now.length →
        Takes (.coreError r c unit item) d (((enter e 0x8002 1).setBit (base + rErState) 2).snuff r c true)) ∧
      (d.handling base = false → now.length < 3 →
        let f := ((enter e 0x8001 0).setHandling base true).abortOnCore r c ids 0x8001
        let g : Dev := { f with coreOpen := sset (fun _ => none) f.coreOpen (r.val * 40 + c.val) (some f.dt) }
        (∀ n, g.logicalOf r c = some n → Takes (.coreError r c unit item) d (g.revalidateCore n (g.dt.toNat + 50000))) ∧
        (g.logicalOf r c = none → Takes (.coreError r c unit item) d g)))) ∧
  (d.watched r c = false →
    Takes (.laneSingleBit r c lane item) d d ∧ Takes (.coreSingleBit r c unit item) d d ∧
    (d.sameCycle base 0x11 unit.toNat item.toNat = false → Takes (.coreError r c unit item) d d)) ∧
  (d.handling base = true →
    let f : Dev := { d.setHandling base false with coreOpen := sset (fun _ => none) (d.setHandling base false).coreOpen (r.val * 40 + c.val) none }
    Takes (.coreSelfCheckDone r c true) d f ∧ Takes (.coreSelfCheckDone r c false) d ((f.setBit (base + rErState) 2).snuff r c true)) ∧
  (d.handling base = false → ∀ p, Takes (.coreSelfCheckDone r c p) d d) ∧
  ∀ (k : Ctx) (w : Fin 8), let lb := aErLane k.region k.core lane
    let x := d.ctx k
    let up := ((d.enterEscalated lb 1 0x8001 0x02 0 w x.task.toNat).setHandling lb false).coreFault k.region k.core 0x12 lane w
    (d.sameCycle lb 0x02 0 w = true → Takes (.laneUncorrectable k w lane) d (d.enterError lb 1 0x800A 0x02 0 w 0 0)) ∧
    (d.sameCycle lb 0x02 0 w = false → d.watched k.region k.core = true → (d.ctx? k).isSome = true →
      (x.chunk? w = none → Takes (.laneUncorrectable k w lane) d up) ∧
      ∀ h, x.chunk? w = some h →
        (h.errReplayed.getLsbD lane = true → Takes (.laneUncorrectable k w lane) d up) ∧
        (h.errReplayed.getLsbD lane = false →
          Takes (.laneUncorrectable k w lane) d (((d.enterError lb 1 0x800A 0x02 0 w x.task.toNat 0).setHandling lb true).laneReplay k h lane))) ∧
    (d.sameCycle lb 0x02 0 w = false → d.watched k.region k.core = false ∨ d.ctx? k = none → Takes (.laneUncorrectable k w lane) d d)

/-- R29, R31, R243, R461, R466, R467, R474: a tested spare takes its logical index or is snuffed; a substitution is over 2 ms after the snuff; a fault of a
region's unit starts a recovery, and inside a window or with the third in 24 h fences the region; the end of a recovery snuffs the failed cores
and returns the region to service, or fences it; a slice fault fences the slice. A fault that repeats one of its cycle is only entered. -/
def RegionFaults : Prop := ∀ (r : Fin 8) (l : Fin 36) (unit : W32) (q : Fin 4) (bad : List (Fin 40)) (d : Dev),
  let n := r.val
  (∀ s, ((d.region r).substs.find? fun s => s.index == l.val) = some s →
    (let e := d.modRegion r fun g => { g with substs := g.substs.filter fun x => x.index != l.val }
     let f := e.modCore r s.spare fun co => { Core.initial with windows := co.windows, fixedPipe := (e.region r).recovering }
     Takes (.spareTestDone r l true) d
       (((f.setFld (lmapAt r l) 5 0 s.spare).clrBit (lmapAt r l) 7).setFld (lmapAt r l) 15 8 (satTo 8 (f.fld (lmapAt r l) 15 8 + 1)))) ∧
    Takes (.spareTestDone r l false) d (d.failsTest r s.spare)) ∧
  (∀ k : Fin 40, d.failsTest r k = (d.draw.2.enterEscalated (aErCo r k) 16 0x8002 0x13 0 d.draw.1.toNat 0).snuff r k true) ∧
  (((d.region r).substs.find? fun s => s.index == l.val) = none → ∀ p, Takes (.spareTestDone r l p) d d) ∧
  (let t := sget (fun _ => 0) (d.region r).snuffedAt l
   let past := t ≠ 0 ∧ t.toNat + 2000000 ≤ d.dt.toNat ∧ d.flag (lmapAt r l) 7 = false
   (past → Takes (.remapBusyEnd r l) d (d.modRegion r fun g => { g with snuffedAt := sset (fun _ => 0) g.snuffedAt l 0 })) ∧
   (¬ past → Takes (.remapBusyEnd r l) d d)) ∧
  (let now := d.dt :: d.withinDay (d.region r).recoveries
   let e := d.modRegion r fun g => { g with recoveries := now }
   let ids := openIds (e.tasks.filter fun t => e.usesRegion t r)
   let again := d.sameCycle (aErRn r) 0x23 unit.toNat 0
   let sliceAgain := d.sameCycle (aErRn r) 0x22 q 0
   (again = true → Takes (.regionUnitFault r unit) d (d.enterError (aErRn r) 128 0x8006 0x23 unit.toNat 0 0 0)) ∧
   (sliceAgain = true → Takes (.sliceFault r q) d (d.enterError (aErRn r) 128 0x800B 0x22 q 0 0 0)) ∧
   (d.regionFenced r = true →
     (again = false → Takes (.regionUnitFault r unit) d d) ∧ (sliceAgain = false → Takes (.sliceFault r q) d d)) ∧
   (d.regionFenced r = false → again = false →
     (d.handling (aErRn r) = true → Takes (.regionUnitFault r unit) d (d.regionGivesUp r 0x23 unit.toNat)) ∧
     (d.handling (aErRn r) = false → 3 ≤ now.length → Takes (.regionUnitFault r unit) d (e.regionGivesUp r 0x23 unit.toNat)) ∧
     (d.handling (aErRn r) = false → now.length < 3 →
       let f := ((e.enterError (aErRn r) 128 0x8006 0x23 unit.toNat 0 (smallest ids) 0).setHandling (aErRn r) true).abortAll ids 0x8006
       let g := f.revalidate (fun t => t.inRegion r) (f.dt.toNat + 40000000)
       let h := (upto 40).foldl (fun d k => d.modCore r k fun co => { Core.initial with windows := co.windows, fixedPipe := true }) g
       let j := (upto 8).foldl (fun d c => d.modChan (8 * n + c) fun ch => { generation := ch.generation }) h
       Takes (.regionUnitFault r unit) d (j.modRegion r fun g =>
         { g with shorts := [], queues := [], crossbar := [], recovering := true, fixedPipe := true }))) ∧
   (d.regionFenced r = false → sliceAgain = false →
     (d.flag (aRs r + rRnStSlice) q = true → Takes (.sliceFault r q) d d) ∧
     (d.flag (aRs r + rRnStSlice) q = false →
       (d.handling (aErRn r) = true → Takes (.sliceFault r q) d (d.regionGivesUp r 0x22 q)) ∧
       (d.handling (aErRn r) = false →
         let ids := openIds (d.tasks.filter fun t => t.inRegion r && !d.rowOnlyOf t)
         Takes (.sliceFault r q) d
           (((d.enterError (aErRn r) 128 0x800B 0x22 q 0 (smallest ids) 0).setHandling (aErRn r) true).fenceQuadrant r q ids))))) ∧
  ((d.region r).recovering = false → Takes (.sliceFenceDone r) d (d.setHandling (aErRn r) false)) ∧
  ((d.region r).recovering = true → Takes (.sliceFenceDone r) d d) ∧
  ((d.region r).recovering = true →
    let e := bad.foldl (fun d k => if d.watched r k then d.failsTest r k else d) d
    let f := (e.setHandling (aErRn r) false).modRegion r fun g => { g with recovering := false, fixedPipe := false }
    let g := (upto 40).foldl (fun d k => d.modCore r k fun co => { co with fixedPipe := (d.region r).substs.any fun s => s.spare == k }) f
    Takes (.regionRecoveryDone r bad true) d (if (g.region r).taperDue then g.taperStart r else g) ∧
    Takes (.regionRecoveryDone r bad false) d (e.fenceRegion r 0x23 false)) ∧
  ((d.region r).recovering = false → ∀ p, Takes (.regionRecoveryDone r bad p) d d)

/-- R25, R29, R31, R75, R243, R465 to R467, R470 to R472, R474: the levels of error handling from a lane to its region. -/
def Obligations.ErrorsEscalate : Prop := LaneAndCoreFaults ∧ RegionFaults

/-- R40, R461, R469, R475, R507: a die link's replay is recorded; a failed link starts a recovery that aborts the tasks it serves, and the third in 24 h, or
another inside the window, is a device error; a hub fault, a lost PLL lock and a power stage fault enter Safe Hold. -/
def Obligations.LinksAndHub : Prop := ∀ (k : Fin 3) (unit : W32) (v : W64) (d : Dev),
  let now := d.dt :: d.withinDay d.links.begun
  let e : Dev := { d with links := { d.links with begun := now } }
  let ids := openIds (e.tasks.filter fun t => t.onLink k)
  let again := d.sameCycle aErDv 0x41 k 0
  Takes (.linkReplay k) d (d.enterError aErDv 256 0x800A 0x40 k 0 0 0) ∧
  (again = true → Takes (.linkDoubleFail k) d (d.enterError aErDv 256 0x8008 0x41 k 0 0 0)) ∧
  (again = false → d.handling aErDv = true → Takes (.linkDoubleFail k) d (d.safeHoldOn 0x45 k 0x41)) ∧
  (again = false → d.handling aErDv = false → 3 ≤ now.length → Takes (.linkDoubleFail k) d (e.safeHoldOn 0x41 k 0)) ∧
  (again = false → d.handling aErDv = false → now.length < 3 →
    let f := ((e.enterError aErDv 256 0x8008 0x41 k 0 (smallest ids) 0).setHandling aErDv true).abortAll ids 0x8008
    Takes (.linkDoubleFail k) d { f with links := { f.links with recovering := some k } }) ∧
  (d.links.recovering.isSome = true →
    Takes (.linkRetrainDone true) d (({ d with links := { d.links with recovering := none } }).setHandling aErDv false)) ∧
  (d.links.recovering = none → Takes (.linkRetrainDone true) d d) ∧
  Takes (.linkRetrainDone false) d d ∧
  Takes (.hubFault unit) d (d.safeHoldOn 0x43 unit.toNat 0) ∧
  Takes .pllUnlock d (((d.setBit (aCk + rCkSticky) 0).safeHoldOn 0x44 0 0).clrBit (aCk + rCkState) 0) ∧
  Takes (.powerStageFault v) d (d.safeHoldOn 0x44 0 v.toNat) ∧
  let listed := openIds d.tasks
  let h := d.enterError aErDv 256 0x8009 0x43 unit.toNat 0 (smallest listed) 0
  (h.safeHold = false → h.fld (aPw + rPwState) 2 0 ≠ 0 →
    let x := (h.abortAll listed 0x8009).holdPower.wr (aPw + rPwState) 6
    let y : Dev := { x with power := { x.power with cold := none, wake := none } }
    d.safeHoldOn 0x43 unit.toNat 0 = y.saveHold (y.entryFor aErDv 256 0x8009 0x43 unit.toNat 0 (smallest listed)) aErDv)

/-- R394, R477 to R482: a taper run starts when its period has passed or on command, unless one runs, the region is fenced or recovering; each
measurement is shown and takes the next step of taper_run; a pending notch takes effect once every accepted task of the region meets it. -/
def Obligations.TaperRuns : Prop := ∀ (who : Requester) (r : Fin 8) (g0 g1 g2 g3 : Gauge) (d : Dev),
  let st := aTp r + rTpState
  let started := (d.setBit st 7).modRegion r fun g => { g with taperPhase := 1, taperChanged := false, taperDue := false }
  let due := d.rd64 (aTp r + rTpLastAt) + 3600000000000 * d.fld (aTp r + rTpCfg) 23 16 ≤ d.dt.toNat
  let free := d.regionFenced r = false ∧ d.flag st 7 = false
  (free → (d.region r).recovering = false → (due → Takes (.taperRun r) d started) ∧ (d.locked (aTp r) = false →
    TakesBy who (aTp r + rTpCmd) (.tpCmdRun who r) d started)) ∧
  (free → (d.region r).recovering = true →
    let later := d.modRegion r fun g => { g with taperDue := true }
    (due → Takes (.taperRun r) d later) ∧ (d.locked (aTp r) = false → TakesBy who (aTp r + rTpCmd) (.tpCmdRun who r) d later)) ∧
  (¬ free → Takes (.taperRun r) d d ∧ Takes (.tpCmdRun who r) d d) ∧
  (¬ due → Takes (.taperRun r) d d) ∧
  (let gs := [g0, g1, g2, g3]
   let best := gs.zipIdx.foldl (fun (m : Int × Nat) g => if g.1.slack.toInt < m.1 then (g.1.slack.toInt, g.2) else m) (511, 0)
   let e := (d.showGauges r gs).modRegion r fun x => { x with slack := best.1 }
   let target : Int := e.fld (aTp r + rTpCfg) 7 0
   let floor : Int := e.fld (aTp r + rTpCfg) 15 8
   let volt := e.fld st 3 0
   let ended := ((((e.clrBit st 7).inc64 (aTp r + rTpRuns) 1).wr64 (aTp r + rTpLastAt) e.dt.toNat))
   (d.flag st 7 = true → (d.region r).taperPhase ≠ 2 →
     (best.1 < target → volt < 12 → Takes (.taperMeasureDone r g0 g1 g2 g3) d
       ((e.setFld st 3 0 (volt + 1)).modRegion r fun x => { x with taperChanged := true, taperPhase := 1 })) ∧
     (target ≤ best.1 → (e.region r).taperChanged = false →
       Takes (.taperMeasureDone r g0 g1 g2 g3) d (ended.modRegion r fun x => { x with taperPhase := 0, taperChanged := false })) ∧
     (best.1 < target → 12 ≤ volt → e.fMhz r ≠ 1000 →
       Takes (.taperMeasureDone r g0 g1 g2 g3) d ((e.setBit st 8).modRegion r fun x => { x with taperPhase := 2 })) ∧
     (best.1 < target → 12 ≤ volt → e.fMhz r = 1000 → floor ≤ best.1 →
       Takes (.taperMeasureDone r g0 g1 g2 g3) d
         (((e.setBit st 9).taperEnd r).enterError (aErRn r) 128 0x800C 0x26 best.2 (unsigned 64 best.1) 0 0)) ∧
     (best.1 < target → 12 ≤ volt → e.fMhz r = 1000 → best.1 < floor → e.handling (aErRn r) = false →
       Takes (.taperMeasureDone r g0 g1 g2 g3) d
         (((e.taperEnd r).enterError (aErRn r) 128 0x800C 0x25 best.2 (unsigned 64 best.1) 0 0).fenceRegion r 0x25 false))) ∧
   (d.flag st 7 = false ∨ (d.region r).taperPhase = 2 → Takes (.taperMeasureDone r g0 g1 g2 g3) d d)) ∧
  (d.flag st 8 = true → d.notchMeets r = true →
    let e := ((d.setFld st 21 11 (d.fMhz r - 100)).setFld st 6 4 (d.fld st 6 4 + 1)).clrBit st 8
    let f : Dev := { e with tasks := e.tasks.map fun (t : Task) => if t.inRegion r then e.replan t else t }
    Takes (.notchEffect r) d ((f.modRegion r fun x => { x with taperPhase := 3, taperChanged := true }).saveTaper r)) ∧
  (d.flag st 8 = false ∨ d.notchMeets r = false → Takes (.notchEffect r) d d)

/-! ### Power, pins and security -/

/-- R497, R498, R504, R505, R515, R516: a cold start begins when the input rises from Off, or when RESET_N is released, and after reset; the input
above 52 V lets step 1 go on, and its slow rise is noted; too low or too high an input enters Safe Hold past step 1; the loss of the input ends
in Off. -/
def PowerInput : Prop := ∀ (env : ColdEnv) (mv : W64) (d : Dev),
  (d.pwState = 0 → d.power.input = false → Takes (.coldStart env) d ((d.modPower fun _ => {}).coldBegin env)) ∧
  (d.pwState = 0 → d.power.input = true → Takes (.coldStart env) d ((d.modPower fun p => { p with cold := some env }).pinEdge 0 true)) ∧
  (d.pwState = 1 → d.pwStep = 1 → d.power.cold = none → Takes (.coldStart env) d (d.coldBegin env)) ∧
  (d.pwState ≠ 0 → ¬ (d.pwState = 1 ∧ d.pwStep = 1 ∧ d.power.cold = none) → Takes (.coldStart env) d d) ∧
  (∀ held, d.power.cold = some held → d.pwState = 1 → d.pwStep = 1 → Takes .inputAbove52v d (d.coldBoot held)) ∧
  (d.power.cold = none ∨ d.pwState ≠ 1 ∨ d.pwStep ≠ 1 → Takes .inputAbove52v d d) ∧
  (d.pwState = 1 → d.pwStep = 1 → Takes .inputRiseSlow d (d.setBit (aPw + rPwSticky) 3)) ∧
  (d.pwState ≠ 1 ∨ d.pwStep ≠ 1 → Takes .inputRiseSlow d d) ∧
  (let hold := (d.setBit (aPw + rPwSticky) 3).safeHoldOn 0x44 0 mv.toNat
   (d.pastStep1 = true → 44000 ≤ mv.toNat → mv.toNat ≤ 52000 → Takes (.inputUndervolt mv) d hold) ∧
   (d.pastStep1 = false → Takes (.inputUndervolt mv) d d) ∧
   (d.pwState ≠ 0 → 60000 ≤ mv.toNat → mv.toNat ≤ 66000 → Takes (.inputOvervolt mv) d hold) ∧
   (d.pwState = 0 → Takes (.inputOvervolt mv) d d)) ∧
  (d.power.input = false → Takes .inputOff d d) ∧
  (d.power.input = true →
    (d.pastStep1 = false ∨ d.pwState = 6 → Takes .inputOff d (d.turnOff false)) ∧
    (d.pastStep1 = true → d.pwState ≠ 6 → Takes .inputOff d ((d.draw.2.safeHoldOn 0x44 0 d.draw.1.toNat).turnOff false)))

/-- Pin `i` is acted on with `level`: that opens a window of 1 ms, and what follows is `after`. -/
def actsOn (d : Dev) (i : Nat) (level : Bool) : Dev :=
  (d.modPin i fun p => { p with acted := level, window := some (d.dt + 1000000) }).pinActs i level

/-- R499, R512, R514 to R516: a filtered edge of an input is acted on unless the input has that level already or a rate window of it runs, which
defers it; at the end of the window the level is acted on when it differs; an input active beyond its limit is reported as stuck. -/
def SidebandPins : Prop := ∀ (p : Fin 4) (d : Dev),
  (∀ i n level, (i, n, level) ∈ [(Instr.pwrWarnAssert, 1, false), (.pwrWarnRelease, 1, true), (.resetAssert, 0, false), (.throttleAssert, 2, false),
      (.throttleRelease, 2, true)] →
    let e := d.modPin n fun p => { p with high := level }
    ((d.pin n).high = level ∨ d.power.input = false → Takes i d d) ∧
    ((d.pin n).high ≠ level → d.power.input = true →
      ((∀ w, (e.pin n).window = some w → w.toNat ≤ e.dt.toNat) → Takes i d (actsOn e n level)) ∧
      ((∃ w, (e.pin n).window = some w ∧ e.dt.toNat < w.toNat) → Takes i d (e.setBit (aPw + rPwPinSticky) 3)))) ∧
  (∀ w, (d.pin p).window = some w →
    let e := d.modPin p fun p => { p with window := none }
    (d.dt.toNat < w.toNat → Takes (.pinRateWindowEnd p) d d) ∧
    (w.toNat ≤ d.dt.toNat → (d.pin p).high = (d.pin p).acted → Takes (.pinRateWindowEnd p) d e) ∧
    (w.toNat ≤ d.dt.toNat → (d.pin p).high ≠ (d.pin p).acted → Takes (.pinRateWindowEnd p) d (actsOn e p (d.pin p).high))) ∧
  ((d.pin p).window = none → Takes (.pinRateWindowEnd p) d d) ∧
  (d.power.warn.high = false → Takes (.pinStuck 1) d ((d.setBit (aPw + rPwPinSticky) 1).raiseFreeAlert)) ∧
  (d.power.throttle.high = false → Takes (.pinStuck 2) d ((d.setBit (aPw + rPwPinSticky) 0).raiseFreeAlert)) ∧
  (let e := ((d.setBit (aPw + rPwPinSticky) 2).clrBit (aCk + rCkState) 3).sourceLost
   (∀ t, d.clock.pps = some t → t.toNat + 2000000000 ≤ d.dt.toNat) →
     Takes (.pinStuck 3) d (if e.flag (aCk + rCkTimeCfg) 1 then e.raiseFreeAlert else e))

/-- R497 to R499, R504, R505, R512, R514 to R516: the power input and the sideband pins. -/
def Obligations.PowerAndPins : Prop := PowerInput ∧ SidebandPins

/-- R309, R500, R512, R522: power above the limit and a hot die are noted and alerted, and power above the peak and a critical die enter Safe Hold; a
layer of a ready pile above 105 °C is shown, entered and throttles its region until every layer is at 95 °C or below; a throttled region with no
bound task is gated; a low cell is alerted. -/
def PowerManager : Prop := ∀ (p : Fin 8) (layer : Fin 12) (temp : Byte) (v : W64) (d : Dev),
  (d.pwState ≠ 0 →
    Takes .powerOverTdp d ((d.setBit (aPw + rPwSticky) 0).raiseFreeAlert) ∧ Takes .tempHot d ((d.setBit (aPw + rPwSticky) 1).raiseFreeAlert)) ∧
  (d.pwState = 0 → Takes .powerOverTdp d d ∧ Takes .tempHot d d) ∧
  Takes (.powerOverPeak v) d (d.safeHoldOn 0x44 0 v.toNat) ∧
  Takes (.tempCritical v) d ((d.setBit (aPw + rPwSticky) 1).safeHoldOn 0x44 0 v.toNat) ∧
  (let shown := (d.wr (aPl p + rPlTemp) (BitVec.ofNat 32 (temp.toNat + layer.val * 256))).putBit (aPl p + rPlState) 5 (decide (85 < temp.toNat))
   let e := (shown.setBit (aPl p + rPlSticky) 2).draw
   let f := e.2.enterError (aErPl p) 128 (alertStatus e.1) 0x34 layer temp.toNat 0 0
   (d.pileReady p = true →
     (105 < temp.toNat → Takes (.pileOverheat p layer temp) d
       (((f.modPower fun q => { q with hotMask := q.hotMask ||| (1 <<< p.val) }).setBit (aPw + rPwSticky) 2).raiseFreeAlert)) ∧
     (temp.toNat ≤ 105 → Takes (.pileOverheat p layer temp) d d) ∧
     (temp.toNat ≤ 95 → Takes (.pileCooled p layer temp) d
       ((shown.modPower fun q => { q with hotMask := q.hotMask &&& ~~~((1 : BitVec 8) <<< p.val) }).ungate)) ∧
     (95 < temp.toNat → Takes (.pileCooled p layer temp) d d) ∧
     Takes (.pileHotWindow p layer temp) d shown) ∧
   (d.pileReady p = false →
     Takes (.pileOverheat p layer temp) d d ∧ Takes (.pileCooled p layer temp) d d ∧ Takes (.pileHotWindow p layer temp) d d)) ∧
  (let free := d.throttles p = true ∧ d.regionFenced p = false ∧ d.lit = true ∧ (∀ t ∈ d.tasks, ¬ (t.started = true ∧ t.inRegion p = true))
   (free → Takes (.throttleGate p) d ((d.setDomains [3 * p.val, 3 * p.val + 2] false).modRegion p fun g => { g with gated := true })) ∧
   (¬ free → Takes (.throttleGate p) d d)) ∧
  Takes .cellLow d ((d.setBit (aEm + rEmState) 0).raiseFreeAlert)

/-- R251, R320, R321, R502, R503: the Pilot command leaves a Lit module with the entry pending; the entry begins once no accepted task is left,
closing every session, and completes once no near-memory operation runs, a wake that was asked for follows it; a module in Pilot state wakes. -/
def PilotState : Prop := ∀ (who : Requester) (env : WakeEnv) (d : Dev),
  (d.lit = true → TakesBy who (aPw + rPwCmd) (.pwCmdPilot who) d (d.setBit (aPw + rPwState) 6)) ∧
  (d.lit = false → Takes (.pwCmdPilot who) d d) ∧
  (let begins := d.lit = true ∧ d.flag (aPw + rPwState) 6 = true ∧ d.tasks = []
   ∀ e : Dev, (begins → e = d.pilotBegins) → (¬ begins → e = d) →
     let still := e.pwState = 3 ∧ ∀ n < 8, (e.pile n).nmo = none
     (¬ still → Takes .pilotEntry d e) ∧
     (still → e.pilotDone.power.wake = none → Takes .pilotEntry d e.pilotDone) ∧
     (still → ∀ w, e.pilotDone.power.wake = some w → Takes .pilotEntry d (e.pilotDone.wake w))) ∧
  (d.pwState = 4 → Takes (.pwCmdWake env) d (d.wake env)) ∧
  (d.pwState = 3 → Takes (.pwCmdWake env) d (d.modPower fun p => { p with wake := some env })) ∧
  (d.pwState ≠ 3 → d.pwState ≠ 4 → Takes (.pwCmdWake env) d d)

/-- R251, R309, R320, R321, R500, R502, R503, R512, R522: the power manager, and Pilot state. -/
def Obligations.PowerStates : Prop := PowerManager ∧ PilotState

/-- R15 to R17, R431, R522 to R528, R530 to R537: a security command starts unless the block is busy or in Pilot, a quote needs the identity key, and a
relock acts at once; the command's end leaves its result; a seizing write over the management bus is refused when busy, spent, unsigned or out of
order, and begins a change otherwise; the change reaches a mirror copy and the store and takes effect; saving the network settings is one change
of the store; the mirror is written when a change is pending. -/
def Obligations.SecurityAndStore : Prop := ∀ (who : Requester) (entropy : List (BitVec 8)) (d : Dev),
  let begins (job : SecJob) : Dev := { d with sec := { d.sec with job := some job } }.setScBusy true
  (d.scClosed = false →
    TakesBy who (aSc + rScCmd) (.scStageFirmware who) d (begins (.stage (d.rd64 (aSc + rScFwAddr) % 2 ^ 48))) ∧
    (d.flag (aSc + rScState) 2 = true → TakesBy who (aSc + rScCmd) (.scQuote who) d (begins (.quote d.quoteHead))) ∧
    (d.flag (aSc + rScState) 2 = false → TakesBy who (aSc + rScCmd) (.scQuote who) d (d.scResult 0x9007 2)) ∧
    TakesBy who (aSc + rScCmd) (.scChallenge who) d (begins (.challenge (leBytes d.serialNo 8 ++ leBytes d.dt.toNat 8 ++ leBytes (d.em 0x22 1) 1 ++ leBytes 0 7)))) ∧
  (d.scClosed = true →
    TakesBy who (aSc + rScCmd) (.scStageFirmware who) d (d.scResult 0x9006 1) ∧ TakesBy who (aSc + rScCmd) (.scQuote who) d (d.scResult 0x9006 2) ∧
    TakesBy who (aSc + rScCmd) (.scChallenge who) d (d.scResult 0x9006 3) ∧
    TakesBy .bus (aSc + rScDbgCmd) (.scDbgUnlock .bus) d (d.scResult 0x9006 6) ∧
    TakesBy .bus (aSc + rScArbCmd) (.scArbAdvance .bus) d (d.scResult 0x9006 7) ∧
    TakesBy .bus (aSc + rScOwnerCommit) (.scOwnerCommit .bus) d (d.scResult 0x9006 5)) ∧
  TakesBy who (aSc + rScCmd) (.scRelock who) d (((if d.debugOpen then d.emberPut [(0x23, 0)] else d).clrBit (aSc + rScState) 1).scResult 0 4) ∧
  (let e : Dev := ({ d with sec := { d.sec with job := none } } : Dev).setScBusy false
   (d.sec.job = none → Takes (.scCommandDone entropy) d d) ∧
   (∀ a, d.sec.job = some (.stage a) → Takes (.scCommandDone entropy) d ((e.stageImage a).1.scResult (e.stageImage a).2.toNat 1)) ∧
   (∀ h, d.sec.job = some (.quote h) → Takes (.scCommandDone entropy) d
     ((e.ctlFill (aSc + rScQuote) (h ++ fitBytes 512 (Config.identitySign h))).scResult 0 2)) ∧
   (∀ h, d.sec.job = some (.challenge h) → Takes (.scCommandDone entropy) d
     ((({ e with sec := { e.sec with challenge := true } } : Dev).ctlFill (aSc + rScChal) (h ++ fitBytes 40 entropy)).scResult 0 3))) ∧
  (isBus who = false → Takes (.scArbAdvance who) d d ∧ Takes (.scOwnerCommit who) d d ∧ Takes (.scDbgUnlock who) d d) ∧
  (d.scClosed = false →
    (256 ≤ d.arb → TakesBy .bus (aSc + rScArbCmd) (.scArbAdvance .bus) d (d.scResult 0x9001 7)) ∧
    (d.arb < 256 → d.runRollback < d.arb + 1 → TakesBy .bus (aSc + rScArbCmd) (.scArbAdvance .bus) d (d.scResult 0x9003 7)) ∧
    (d.arb < 256 → d.arb + 1 ≤ d.runRollback →
      TakesBy .bus (aSc + rScArbCmd) (.scArbAdvance .bus) d (d.seize 7 (cellsAt 0x24 (leBytes (d.arb + 1) 2)))) ∧
    (8 ≤ d.em 0x20 1 → TakesBy .bus (aSc + rScOwnerCommit) (.scOwnerCommit .bus) d (d.scResult 0x9001 5)) ∧
    (d.em 0x20 1 < 8 →
      let signed_ := d.ownerSet = false ∨ d.ownerSigned (d.ownerStaged ++ leBytes d.serialNo 8) = true
      (¬ signed_ → TakesBy .bus (aSc + rScOwnerCommit) (.scOwnerCommit .bus) d (d.scResult 0x9002 5)) ∧
      (signed_ → d.ownerStaged = d.ownerDigest →
        TakesBy .bus (aSc + rScOwnerCommit) (.scOwnerCommit .bus) d ((d.setBit (aSc + rScOwnerCommit) 0).scResult 0 5)) ∧
      (signed_ → d.ownerStaged ≠ d.ownerDigest → TakesBy .bus (aSc + rScOwnerCommit) (.scOwnerCommit .bus) d
        (d.seize 5 (cellsAt 0x40 d.ownerStaged ++ [(0x20, BitVec.ofNat 8 (d.em 0x20 1 + 1))])))) ∧
    (let e : Dev := { d with sec := { d.sec with challenge := false } }
     (16 ≤ e.em 0x22 1 → TakesBy .bus (aSc + rScDbgCmd) (.scDbgUnlock .bus) d (e.scResult 0x9001 6)) ∧
     (e.em 0x22 1 < 16 →
       (e.ownerSet = false → TakesBy .bus (aSc + rScDbgCmd) (.scDbgUnlock .bus) d (e.scResult 0x9005 6)) ∧
       (e.ownerSet = true → d.sec.challenge = false → TakesBy .bus (aSc + rScDbgCmd) (.scDbgUnlock .bus) d (e.scResult 0x900A 6)) ∧
       (e.ownerSet = true → d.sec.challenge = true → e.ownerSigned e.scChal = false →
         TakesBy .bus (aSc + rScDbgCmd) (.scDbgUnlock .bus) d (e.scResult 0x9002 6)) ∧
       (e.ownerSet = true → d.sec.challenge = true → e.ownerSigned e.scChal = true →
         (e.debugOpen = true → TakesBy .bus (aSc + rScDbgCmd) (.scDbgUnlock .bus) d ((e.setBit (aSc + rScDbgCmd) 0).scResult 0 6)) ∧
         (e.debugOpen = false →
           TakesBy .bus (aSc + rScDbgCmd) (.scDbgUnlock .bus) d (e.seize 6 [(0x23, 1), (0x22, BitVec.ofNat 8 (e.em 0x22 1 + 1))])))))) ∧
  (d.sec.change = none → Takes .seizedChangeApply d d) ∧
  (∀ c, d.sec.change = some c →
    let image := emberChange d.ember.store c.cells
    let e : Dev := { d with ember := { d.ember.mirror image with store := image }, sec := { d.sec with change := none } }
    Takes .seizedChangeApply d
      (((((e.clrBit (aEm + rEmState) 3).setScBusy false).setBit (szReg c.op) 0).scResult 0 c.op).seizedEffect c.op d.pairBinding)) ∧
  TakesBy who (aEm + rEmCmd) (.emSaveNet who) d
    (d.emberPut (cellsAt 0x100 (d.netBlock 0) ++ cellsAt 0x140 (d.netBlock 1) ++ cellsAt 0x180 (leBytes (d.rd (aMt + rMtCfg)).toNat 4))) ∧
  (d.flag (aEm + rEmState) 3 = true →
    Takes .mirrorWrite d (({ d with ember := d.ember.mirror d.ember.store } : Dev).clrBit (aEm + rEmState) 3)) ∧
  (d.flag (aEm + rEmState) 3 = false → Takes .mirrorWrite d d)

/-! ### The whole block -/

/-- The queue is first in, first out: a step takes the command in front and runs it on the state with the rest of the queue. -/
def Obligations.StepRunsTheFrontCommand : Prop := ∀ (c : Instr) (rest : List Instr) (s : State),
  s.pending = c :: rest → step s = exec c { s with pending := rest }

/-- The model's choice (log 9), on R22, R403, R442 and R509: on an empty queue 1 ns of the reference passes. Device time advances by 1 ns while the
input is on and no correction is due, by 2 or 0 when a ns of slewing is due, or in holdover a ns of the frequency correction gathered, and not at all
while the input is off; every register, memory and queue but those that a resent STATE changes stay. -/
def Obligations.EmptyQueuePassesTime : Prop := ∀ s : State, s.pending = [] →
  ∃ t, step s = .next t ∧ t.pending = [] ∧ t.base = none ∧
    (s.dev.power.input = false → t.dev.dt = s.dev.dt) ∧
    (s.dev.power.input = true →
      (s.dev.clock.slewWait ≠ 0 ∨ (s.dev.clock.slew = 0 ∧ s.dev.timeState ≠ 3) → t.dev.dt = s.dev.dt + 1) ∧
      (s.dev.clock.slewWait = 0 →
        (0 < s.dev.clock.slew → t.dev.dt = s.dev.dt + 2) ∧ (s.dev.clock.slew < 0 → t.dev.dt = s.dev.dt) ∧
        (s.dev.clock.slew = 0 → s.dev.timeState = 3 →
          let g := s.dev.clock.gathered + s.dev.clock.freq
          (1000000000 ≤ g → t.dev.dt = s.dev.dt + 2) ∧ (g ≤ -1000000000 → t.dev.dt = s.dev.dt) ∧
          (-1000000000 < g → g < 1000000000 → t.dev.dt = s.dev.dt + 1)))) ∧
    (s.dev.twin.stateSent = [] → t.dev.ctl = s.dev.ctl ∧ t.dev.mem = s.dev.mem ∧ t.dev.cores = s.dev.cores ∧ t.dev.tasks = s.dev.tasks ∧
      t.dev.net = s.dev.net)

/-- R121, R133: every well-formed command completes, whatever the state, and leaves the queue as it was; an operation whose encoding R133 leaves
undefined is refused by that name, and no command ends otherwise. -/
def Obligations.EveryCommandCompletes : Prop := ∀ (i : Instr) (s : State),
  (i.wellFormed = true → ∃ t, exec i s = .next t ∧ t.pending = s.pending) ∧
  (i.wellFormed = false → exec i s = .refused .undefinedEncoding)

/-- The slot (0 C, 1 V, 2 T, 3 M) and the context of a command that is an operation of a bundle (R94, R95); none for an event. -/
def slotOf : Instr → Option (Nat × Ctx)
  | .nop k _ => some (0, k)
  | .add k _ _ _ => some (0, k)
  | .sub k _ _ _ => some (0, k)
  | .andOp k _ _ _ => some (0, k)
  | .orOp k _ _ _ => some (0, k)
  | .xorOp k _ _ _ => some (0, k)
  | .shl k _ _ _ => some (0, k)
  | .shr k _ _ _ => some (0, k)
  | .sra k _ _ _ => some (0, k)
  | .mul k _ _ _ => some (0, k)
  | .mulhu k _ _ _ => some (0, k)
  | .divu k _ _ _ => some (0, k)
  | .remu k _ _ _ => some (0, k)
  | .minOp k _ _ _ => some (0, k)
  | .maxOp k _ _ _ => some (0, k)
  | .cmpEq k _ _ _ => some (0, k)
  | .cmpLt k _ _ _ => some (0, k)
  | .cmpLtu k _ _ _ => some (0, k)
  | .addi k _ _ _ => some (0, k)
  | .andi k _ _ _ => some (0, k)
  | .ori k _ _ _ => some (0, k)
  | .xori k _ _ _ => some (0, k)
  | .shli k _ _ _ => some (0, k)
  | .shri k _ _ _ => some (0, k)
  | .srai k _ _ _ => some (0, k)
  | .movz k _ _ _ => some (0, k)
  | .movk k _ _ _ => some (0, k)
  | .b k _ => some (0, k)
  | .beqz k _ _ => some (0, k)
  | .bnez k _ _ => some (0, k)
  | .bltz k _ _ => some (0, k)
  | .bgez k _ _ => some (0, k)
  | .call k _ => some (0, k)
  | .ret k => some (0, k)
  | .loop k _ _ => some (0, k)
  | .getc k _ _ => some (0, k)
  | .stepInc k _ => some (0, k)
  | .stepRd k _ => some (0, k)
  | .drain k => some (0, k)
  | .endOp k => some (0, k)
  | .vnop k => some (1, k)
  | .vadd k _ _ _ _ _ => some (1, k)
  | .vsub k _ _ _ _ _ => some (1, k)
  | .vmul k _ _ _ _ _ => some (1, k)
  | .vfma k _ _ _ _ _ => some (1, k)
  | .vmin k _ _ _ _ _ => some (1, k)
  | .vmax k _ _ _ _ _ => some (1, k)
  | .vabs k _ _ _ _ => some (1, k)
  | .vneg k _ _ _ _ => some (1, k)
  | .vand k _ _ _ _ => some (1, k)
  | .vor k _ _ _ _ => some (1, k)
  | .vxor k _ _ _ _ => some (1, k)
  | .vshl k _ _ _ _ => some (1, k)
  | .vshr k _ _ _ _ => some (1, k)
  | .vsra k _ _ _ _ => some (1, k)
  | .vdiv k _ _ _ _ _ => some (1, k)
  | .vsqrt k _ _ _ _ => some (1, k)
  | .vexp2 k _ _ _ _ => some (1, k)
  | .vlog2 k _ _ _ _ => some (1, k)
  | .vmov k _ _ _ => some (1, k)
  | .vperm k _ _ _ _ => some (1, k)
  | .vidx k _ _ => some (1, k)
  | .vcmpEq k _ _ _ _ _ => some (1, k)
  | .vcmpLt k _ _ _ _ _ => some (1, k)
  | .vcmpLe k _ _ _ _ _ => some (1, k)
  | .vbcast k _ _ _ => some (1, k)
  | .vext k _ _ _ => some (1, k)
  | .vrsum k _ _ _ => some (1, k)
  | .vrmax k _ _ _ _ => some (1, k)
  | .mand k _ _ _ _ => some (1, k)
  | .mor k _ _ _ _ => some (1, k)
  | .mxor k _ _ _ _ => some (1, k)
  | .mandn k _ _ _ _ => some (1, k)
  | .mset k _ _ => some (1, k)
  | .mget k _ _ => some (1, k)
  | .mpop k _ _ => some (1, k)
  | .vcvt k _ _ _ _ _ _ _ => some (1, k)
  | .vmxq k _ _ _ _ _ _ _ => some (1, k)
  | .vpack4 k _ _ => some (1, k)
  | .vpack6 k _ _ => some (1, k)
  | .vpack8 k _ _ => some (1, k)
  | .vunpk4 k _ _ => some (1, k)
  | .vunpk6 k _ _ => some (1, k)
  | .vunpk8 k _ _ => some (1, k)
  | .flkRaw k _ _ _ _ => some (1, k)
  | .flkMask k _ _ _ _ => some (1, k)
  | .flkTraw k _ _ _ _ => some (1, k)
  | .flkTmask k _ _ _ _ => some (1, k)
  | .tnop k => some (2, k)
  | .topen k _ _ _ _ _ => some (2, k)
  | .tdot k _ _ _ _ _ => some (2, k)
  | .tdotSp k _ _ _ _ => some (2, k)
  | .tpre k _ _ _ => some (2, k)
  | .tclose k _ => some (2, k)
  | .troundNe k _ _ _ _ _ => some (2, k)
  | .troundRz k _ _ _ _ _ => some (2, k)
  | .troundSr k _ _ _ _ _ => some (2, k)
  | .tadd k _ _ => some (2, k)
  | .tclr k _ => some (2, k)
  | .plait k _ => some (2, k)
  | .plaitAll k _ => some (2, k)
  | .topk k _ _ _ _ => some (2, k)
  | .tepiAdd k _ _ _ _ => some (2, k)
  | .tepiMul k _ _ _ _ => some (2, k)
  | .tcow k _ _ _ _ _ => some (2, k)
  | .tcow4 k _ _ _ _ => some (2, k)
  | .tcow6 k _ _ _ _ => some (2, k)
  | .tpruneI k _ _ _ _ _ => some (2, k)
  | .tpruneF k _ _ _ _ _ => some (2, k)
  | .tpruneBf k _ _ _ _ _ => some (2, k)
  | .tpruneH k _ _ _ _ _ => some (2, k)
  | .plyAnd k _ _ _ => some (2, k)
  | .plyPop k _ _ _ => some (2, k)
  | .plyCmp k _ _ _ => some (2, k)
  | .tmode k _ _ => some (2, k)
  | .splxMerge k _ _ => some (2, k)
  | .splxIsect k _ _ => some (2, k)
  | .tally k _ _ => some (2, k)
  | .mnop k => some (3, k)
  | .ldW k _ _ _ _ => some (3, k)
  | .ldD k _ _ _ _ => some (3, k)
  | .stW k _ _ _ => some (3, k)
  | .stD k _ _ _ => some (3, k)
  | .vld k _ _ _ _ _ => some (3, k)
  | .vst k _ _ _ _ => some (3, k)
  | .gath k _ _ _ _ => some (3, k)
  | .scatAdd k _ _ _ _ => some (3, k)
  | .tldl k _ _ _ _ => some (3, k)
  | .tstl k _ _ _ => some (3, k)
  | .sld k _ _ _ _ => some (3, k)
  | .sst k _ _ _ _ => some (3, k)
  | .stag k _ _ _ => some (3, k)
  | .rowLd k _ _ _ _ => some (3, k)
  | .rowSt k _ _ _ => some (3, k)
  | .fill k _ _ _ => some (3, k)
  | .copy k _ _ _ => some (3, k)
  | .rowWait k => some (3, k)
  | .coilTake k _ _ => some (3, k)
  | .coilDrop k _ => some (3, k)
  | .coilWait k _ _ => some (3, k)
  | .coilPush k _ _ => some (3, k)
  | .coilPop k _ _ => some (3, k)
  | .coilPtr k _ _ => some (3, k)
  | .coilTptr k _ _ => some (3, k)
  | .hitchOpen k _ _ => some (3, k)
  | .hitchClose k _ => some (3, k)
  | .hitchStat k _ _ => some (3, k)
  | .strTake k _ _ => some (3, k)
  | .strIssue k _ _ => some (3, k)
  | .strDrop k _ => some (3, k)
  | .strShort k _ _ => some (3, k)
  | .knotRel k _ _ => some (3, k)
  | .knotWait k _ _ => some (3, k)
  | .blyArr k _ => some (3, k)
  | .blyWait k _ _ => some (3, k)
  | .csave k _ => some (3, k)
  | _ => none

/-- R73, R95, R106, R118: an operation of a bundle either takes effect beside the operations before it, or aborts its task, or holds its bundle; in
the last two cases nothing of the bundle has taken effect but its issue and what an abort counts. A bundle that waits for a result is held, and one
at whose issue an SST write into a pinned row is due does not issue. Any other command ends the bundle in progress. -/
def Obligations.BundlesAreAtomic : Prop := ∀ (i : Instr) (s t : State), exec i s = .next t →
  (slotOf i = none → t.base = none) ∧
  (∀ n k, slotOf i = some (n, k) →
    (∀ d0 d, s.Acts n k d0 d →
      (∃ e, t = s.after n k d0 e) ∨ (∃ st post, t = s.abortedBy k d0 st post) ∨ (∃ h, t = s.heldBy k d0 h)) ∧
    (∀ p ps, s.joins n k = none → s.dev.mayIssue k = true → (s.dev.ctx k).unarrived (s.dev.ctx k).cyc = p :: ps →
      t = { s with dev := s.dev.dueHold k p, base := none }) ∧
    (s.joins n k = none → s.dev.mayIssue k = true → (s.dev.ctx k).unarrived (s.dev.ctx k).cyc = [] → s.dev.sstPinned k (s.dev.ctx k).cyc = true →
      t = { s with dev := s.dev.settleSst k (s.dev.ctx k).cyc, base := none }) ∧
    (s.joins n k = none → s.dev.mayIssue k = false → t = { s with base := none }))

/-- The operations of slot T that write data space: those of the Splice unit and TALLY, which write their output window (R203 to R207). -/
def writesWindow : Instr → Bool
  | .splxMerge .. => true
  | .splxIsect .. => true
  | .tally .. => true
  | _ => false

/-- Of a context that ends with the bundle of a state, no SST write is left that meets a pinned row (R73, R168). -/
def endsClean (t : State) (k : Ctx) : Prop := ∀ b, t.base = some b → (b.work.ctx k).ended = true →
  ((b.work.ctx k).ssts.any fun p => (b.work.core k.region k.core).anyPinned (sstRows p.addr p.mask)) = false

/-- R98, R139, R143, R151: what a completed operation of slot C, V or T leaves unchanged, unless its context ends and an SST write left aborts the
task: every byte of data space and its marks, but for the output windows of the Splice unit and TALLY. One of slot C or V also leaves every other context, the tasks, the network, the Ember store, the security block,
the power manager, the piles, the twin and device time. -/
def Obligations.OperationFrames : Prop := ∀ (i : Instr) (n : Nat) (k : Ctx) (s t : State) (d0 d : Dev), slotOf i = some (n, k) → s.Acts n k d0 d →
  exec i s = .next t → t.base.isSome = true → endsClean t k →
  (n ≤ 2 → writesWindow i = false → (∀ a, t.dev.byte a = d.byte a) ∧ t.dev.marks = d.marks) ∧
  (n ≤ 1 → (∀ k' : Ctx, k' ≠ k → t.dev.ctx k' = d.ctx k') ∧ t.dev.tasks = d.tasks ∧ t.dev.net = d.net ∧ t.dev.ember = d.ember ∧
    t.dev.sec = d.sec ∧ t.dev.power = d.power ∧ t.dev.piles = d.piles ∧ t.dev.twin = d.twin ∧ t.dev.dt = d.dt ∧ t.dev.shadow = d.shadow)

/-- A bundle in progress began on a device on which its context could issue with no result outstanding and no due SST write to a pinned row, and its
last operation stands in a slot (R73, R95, R106). -/
def bundleInv (s : State) : Prop := ∀ b, s.base = some b →
  b.last < 4 ∧ b.dev.mayIssue b.key = true ∧ (b.dev.ctx b.key).unarrived (b.dev.ctx b.key).cyc = [] ∧
  b.dev.sstPinned b.key (b.dev.ctx b.key).cyc = false

/-- R73, R95, R106: every step keeps the invariant of bundles, from every state that meets it: no operation joins a bundle that could not issue. -/
def Obligations.StepsKeepTheBundleInvariant : Prop := ∀ s t : State, bundleInv s → step s = .next t → bundleInv t

/-- The state after reset meets the invariant of bundles: no bundle is in progress. -/
def Obligations.ResetMeetsTheBundleInvariant : Prop := bundleInv State.reset

/-- R96, R97, R100: a result of latency `lat`, issued at cycle i, is not visible before cycle i + `lat` and is written at it; the results due at a
cycle are written in the order of their issue, those of one bundle in slot order, so that the later one prevails; writes to s0 and m0 are discarded,
and s0 reads 0 and m0 all ones. -/
def Obligations.ResultsBecomeVisible : Prop := ∀ (c : Context) (s₁ s₂ l₁ l₂ n i : Nat) (x y : Dest),
  let later : Context := { c.later s₁ l₁ x with cyc := c.cyc + n }.later s₂ l₂ y
  (∀ q ∈ c.pend, i < q.due) → 0 < c.cyc →
  (i < c.cyc - 1 + l₁ → (c.later s₁ l₁ x).settle i = c.later s₁ l₁ x) ∧
  (i = c.cyc - 1 + l₁ → (c.later s₁ l₁ x).settle i = c.write x) ∧
  (i = c.cyc - 1 + l₁ → i = c.cyc + n - 1 + l₂ → later.settle i = ({ c with cyc := c.cyc + n }.write x).write y) ∧
  (∀ v w : W64, ∀ r : Fin 64, r ≠ 0 → r.val < c.s.length → x = .s r v → y = .s r w → i = c.cyc - 1 + l₁ → i = c.cyc + n - 1 + l₂ →
    (later.settle i).getS r = w) ∧
  (∀ (v : W64) (m : W64), c.write (.s 0 v) = c ∧ c.write (.m 0 m v) = c) ∧ c.getS 0 = 0 ∧ c.getM 0 = 0xFFFFFFFFFFFFFFFF

/-- R518: the part of control space that the management bus reaches: all of it while the device starts, in Lit and in Safe Hold; the hub range in
Pilot state, on the way to it and back; the blocks EM_, CK_ and PW_ in Off with the input on and RESET_N low. Outside it a read returns 0 and
changes nothing, and a write is ignored. -/
def Obligations.BusReachesByState : Prop := ∀ (d : Dev) (a : Nat) (v : W32),
  (d.pwState = 1 ∨ d.pwState = 2 ∨ d.pwState = 6 → d.reaches .bus a = true) ∧
  (d.pwState = 3 ∨ d.pwState = 4 ∨ d.pwState = 5 → (d.reaches .bus a = true ↔ a < 0x1000000)) ∧
  (d.pwState = 0 → (d.reaches .bus a = true ↔
    (d.power.input = true ∧ d.power.reset.high = false) ∧ 0x80000 ≤ a ∧ a < 0xB0000)) ∧
  (d.reaches .bus a = false → d.regRead .bus a = (0, d) ∧ d.regWrite .bus a v = d)

/-- R405 to R407: decoding and encoding of messages agree: the bytes of a message, its header, the check field over the message with that field 0, and
its body, are parsed to that message when its fields fit, and bytes that are parsed to a message are its bytes. -/
def Obligations.MessagesDecodeToThemselves : Prop :=
  (∀ m : Mbt, m.type < 2 ^ 8 → m.session < 2 ^ 16 → m.flags < 2 ^ 16 → m.body.length < 2 ^ 16 → mbtParse m.bytes = some m) ∧
  (∀ m : Mbt, m.bytes = m.head ++ leBytes (crc32c (m.head ++ leBytes 0 4 ++ m.body)) 4 ++ m.body) ∧
  (∀ (bs : List Byte) (m : Mbt), mbtParse bs = some m → bs = m.bytes)

/-- R100, R108, R410, R520 and the model's choices for values that the spec leaves open (logs 2 and 3): after reset no command waits, no bundle and no
task is in progress, no context is bound, every byte of data space reads 0 and no word is marked, every control-space word holds its reset value,
every session is closed and the device is in step 1 of a cold start. -/
def Obligations.ResetState : Prop :=
  let s := State.reset
  s.pending = [] ∧ s.base = none ∧ s.dev.tasks = [] ∧ s.dev.shadow = none ∧ s.dev.dt = 0 ∧
  (∀ k, s.dev.ctx? k = none) ∧ (∀ a, s.dev.byte a = 0 ∧ s.dev.mark a = 0) ∧ (∀ a, s.dev.rd a = regReset a) ∧
  (∀ n, (s.dev.session n).state = 0) ∧ (∀ i, (s.dev.chan i).queue = []) ∧ (∀ n, (s.dev.pile n).nmo = none) ∧ s.dev.pwState = 1 ∧ s.dev.pwStep = 1 ∧
  s.dev.power.input = true

/-! ### The words of the slots, and the Ember store -/

/-- Every word whose encoding is defined spells, by `dec`, a well-formed operation of slot `n` of context `k`; any other spells none. -/
def Spells (n : Nat) (k : Ctx) (defined : Nat → Bool) (dec : Nat → Option Instr) : Prop := ∀ w : BitVec 32,
  (defined w.toNat = true → ∃ i, dec w.toNat = some i ∧ i.wellFormed = true ∧ slotOf i = some (n, k)) ∧ (defined w.toNat = false → dec w.toNat = none)

/-- R93, R132, R133, R137, R138, R142, R143, R150, R151, R163, R164: a defined word of a slot spells a well-formed operation of that slot, and an
undefined one spells none; a bundle spells the operations of its four words, slot C in the lowest 32 bits. -/
def Obligations.SlotWordsSpellOperations : Prop := ∀ (k : Ctx) (late : Bool),
  Spells 0 k definedC (decodeC k) ∧ Spells 1 k definedV (decodeV k) ∧ Spells 2 k definedT (decodeT k) ∧ Spells 3 k definedM (decodeM k · late) ∧
  ∀ c v t m : BitVec 32,
    let b := Word4.of (c.toNat + v.toNat * 2 ^ 32 + t.toNat * 2 ^ 64 + m.toNat * 2 ^ 96)
    (∀ i j x y, decodeC k c.toNat = some i → decodeV k v.toNat = some j → decodeT k t.toNat = some x → decodeM k m.toNat late = some y →
      b.ops k late = some [i, j, x, y]) ∧
    (definedC c.toNat && definedV v.toNat && definedT t.toNat && definedM m.toNat = false → b.ops k late = none)

/-- R94, R132, R137, R142, R150, R163: decoding drops no bit of a word: two words that spell the same operation of a slot are equal, but for the
switch-point bit of slot C, which the no-operation alone keeps. -/
def Obligations.SlotWordsDropNoBit : Prop := ∀ (k : Ctx) (late : Bool) (w x : BitVec 32) (i : Instr),
  (decodeC k w.toNat = some i → decodeC k x.toNat = some i → w.setWidth 31 = x.setWidth 31 ∧ ((∃ sp, i = .nop k sp) → w = x)) ∧
  (decodeV k w.toNat = some i → decodeV k x.toNat = some i → w = x) ∧
  (decodeT k w.toNat = some i → decodeT k x.toNat = some i → w = x) ∧
  (decodeM k w.toNat late = some i → decodeM k x.toNat late = some i → w = x)

/-- R505, R523, R524, R529: step 2 of a cold start ends without a valid store or copy, and is over when it has reconciled them: of every counter the
store and both copies then hold the largest value of the valid ones, and every fence bit that one of them holds; what neither counts nor fences stays
as a valid store held it. EM_STATE tells whether the store and the copies were valid. -/
def Obligations.EmberReconciled : Prop := ∀ (env : ColdEnv) (d : Dev),
  let ok := d.ember.valid = true ∧ emberFormed d.ember.store = true
  let ok0 := d.ember.copy0.intact = true ∧ emberFormed d.ember.copy0.image = true ∧ env.badCopy0 = false
  let ok1 := d.ember.copy1.intact = true ∧ emberFormed d.ember.copy1.image = true ∧ env.badCopy1 = false
  let used (m : Sparse Byte) : Prop := (ok ∧ m = d.ember.store) ∨ (ok0 ∧ m = d.ember.copy0.image) ∨ (ok1 ∧ m = d.ember.copy1.image)
  let counters : List (Nat × Nat) := [(0x10, 8), (0x20, 1), (0x21, 1), (0x22, 1), (0x24, 2), (0x28, 4)] ++
    (upto 8).flatMap fun n => [(fenceAt n + 10, 1), (fenceAt n + 11, 1)]
  let fences : List Nat := (upto 8).flatMap fun n => (upto 6).map fun b => fenceAt n + b
  let a := aEm + rEmState
  (¬ ok → ¬ ok0 → ¬ ok1 → d.reconcile env = none) ∧
  (ok ∨ ok0 ∨ ok1 → ∃ e, d.reconcile env = some e ∧ e.ember.valid = true ∧
    e.ember.copy0 = { image := e.ember.store } ∧ e.ember.copy1 = { image := e.ember.store } ∧
    (∀ p ∈ counters, let n := leNat (emberGet e.ember.store) p.1 p.2
      (∀ m, used m → leNat (emberGet m) p.1 p.2 ≤ n) ∧ ∃ m, used m ∧ leNat (emberGet m) p.1 p.2 = n) ∧
    (∀ x ∈ fences, ∀ j, (emberGet e.ember.store x).getLsbD j = true ↔ ∃ m, used m ∧ (emberGet m x).getLsbD j = true) ∧
    (ok → ∀ x, (∀ p ∈ counters, x < p.1 ∨ p.1 + p.2 ≤ x) → x ∉ fences → emberGet e.ember.store x = emberGet d.ember.store x) ∧
    (e.flag a 1 = true ↔ ¬ ok) ∧ (e.flag a 2 = true ↔ ¬ (ok0 ∧ ok1)) ∧ e.flag a 3 = false)
end

