-- ==== Sys2Proof/Laws/Sparse.lean ====
section
/-! SUPPORT. The laws of sparse maps: a read after a write, the canonical form, and that equal reads of canonical maps make them equal. -/

namespace Sys2Proof.Machine

variable {α : Type} [DecidableEq α]

theorem sget_sput_self (d : Nat → α) (k : Nat) (v : α) (m : Sparse α) (h : sget d m k = d k) : sget d (sput d k v m) k = v := by
  unfold sput
  split
  · rename_i hv; rw [h, hv]
  · simp [sget]

omit [DecidableEq α] in
theorem sget_dropWhile_self (d : Nat → α) (k : Nat) (m : Sparse α) : sget d (m.dropWhile fun p => decide (p.1 ≤ k)) k = d k := by
  induction m with
  | nil => rfl
  | cons p m ih =>
    obtain ⟨j, w⟩ := p
    by_cases h : j ≤ k
    · simpa [List.dropWhile, h] using ih
    · have h1 : ¬ j = k := by omega
      have h2 : k < j := by omega
      simp [h, sget, h1, h2]

/-- A read of the key just written gives the value written. -/
@[simp] theorem sget_sset_self (d : Nat → α) (m : Sparse α) (k : Nat) (v : α) : sget d (sset d m k v) k = v := by
  induction m with
  | nil => exact sget_sput_self d k v [] rfl
  | cons p m ih =>
    obtain ⟨j, w⟩ := p
    unfold sset
    split
    · rename_i h
      apply sget_sput_self
      have h1 : ¬ j = k := by omega
      simp [sget, h, h1]
    · split
      · exact sget_sput_self d k v _ (sget_dropWhile_self d k m)
      · rename_i h1 h2
        have h3 : ¬ j = k := fun e => h2 e.symm
        simp [sget, h1, h3, ih]

omit [DecidableEq α] in
theorem sget_dropWhile_ne (d : Nat → α) (k i : Nat) (m : Sparse α) (h : k < i) :
    sget d (m.dropWhile fun p => decide (p.1 ≤ k)) i = sget d m i := by
  induction m with
  | nil => rfl
  | cons p m ih =>
    obtain ⟨j, w⟩ := p
    by_cases hj : j ≤ k
    · have h1 : ¬ j = i := by omega
      have h2 : ¬ i < j := by omega
      simp [List.dropWhile, hj, ih, sget, h1, h2]
    · simp [hj]

omit [DecidableEq α] in
theorem sget_dropWhile_lt (d : Nat → α) (k i : Nat) (m : Sparse α) (h : i < k) :
    sget d (m.dropWhile fun p => decide (p.1 ≤ k)) i = d i := by
  induction m with
  | nil => rfl
  | cons p m ih =>
    obtain ⟨j, w⟩ := p
    by_cases hj : j ≤ k
    · simp [List.dropWhile, hj, ih]
    · have h1 : ¬ j = i := by omega
      have h2 : i < j := by omega
      simp [hj, sget, h1, h2]

theorem sget_sput_ne (d : Nat → α) (k i : Nat) (v : α) (m : Sparse α) (hi : i ≠ k) (hlt : i < k → sget d m i = d i) :
    sget d (sput d k v m) i = sget d m i := by
  unfold sput
  split
  · rfl
  · have h1 : ¬ k = i := fun e => hi e.symm
    by_cases h : i < k
    · simp [sget, h1, h, hlt h]
    · simp [sget, h1, h]

/-- A write leaves every other key as it was. -/
theorem sget_sset_ne (d : Nat → α) (m : Sparse α) (k i : Nat) (v : α) (hi : i ≠ k) : sget d (sset d m k v) i = sget d m i := by
  induction m with
  | nil => exact sget_sput_ne d k i v [] hi fun _ => rfl
  | cons p m ih =>
    obtain ⟨j, w⟩ := p
    unfold sset
    split
    · rename_i h
      apply sget_sput_ne d k i v _ hi
      intro hlt
      have h1 : ¬ j = i := by omega
      have h2 : i < j := by omega
      simp [sget, h1, h2]
    · split
      · rename_i h1 h2
        subst h2
        have h3 : ¬ k = i := fun e => hi e.symm
        by_cases h : i < k
        · rw [sget_sput_ne d k i v _ hi fun _ => sget_dropWhile_lt d k i m h, sget_dropWhile_lt d k i m h]
          simp [sget, h3, h]
        · have h4 : k < i := by omega
          rw [sget_sput_ne d k i v _ hi fun hl => absurd hl h, sget_dropWhile_ne d k i m h4]
          simp [sget, h3, h]
      · simp only [sget]
        split
        · rfl
        · split
          · rfl
          · exact ih

/-- A read after a write, at any key. -/
theorem sget_sset (d : Nat → α) (m : Sparse α) (k i : Nat) (v : α) : sget d (sset d m k v) i = if i = k then v else sget d m i := by
  split
  · rename_i h; rw [h]; exact sget_sset_self d m k v
  · rename_i h; exact sget_sset_ne d m k i v h

@[simp] theorem sget_smod_self (d : Nat → α) (m : Sparse α) (k : Nat) (f : α → α) : sget d (smod d m k f) k = f (sget d m k) :=
  sget_sset_self d m k _

theorem sget_smod_ne (d : Nat → α) (m : Sparse α) (k i : Nat) (f : α → α) (hi : i ≠ k) : sget d (smod d m k f) i = sget d m i :=
  sget_sset_ne d m k i _ hi

/-! ### The canonical form -/

theorem swfFrom_mono (d : Nat → α) {a b : Nat} (h : a ≤ b) {m : Sparse α} (hm : swfFrom d b m = true) : swfFrom d a m = true := by
  cases m with
  | nil => rfl
  | cons p m =>
    obtain ⟨j, w⟩ := p
    simp only [swfFrom, Bool.and_eq_true, decide_eq_true_eq] at hm ⊢
    exact ⟨⟨by omega, hm.1.2⟩, hm.2⟩

theorem swfFrom_sput (d : Nat → α) {b k : Nat} (v : α) {m : Sparse α} (hk : b ≤ k) (hm : swfFrom d (k + 1) m = true) :
    swfFrom d b (sput d k v m) = true := by
  unfold sput
  split
  · exact swfFrom_mono d (by omega) hm
  · rename_i h; simp [swfFrom, hk, h, hm]

theorem swfFrom_dropWhile (d : Nat → α) {k : Nat} {m : Sparse α} (hm : swfFrom d (k + 1) m = true) :
    (m.dropWhile fun p => decide (p.1 ≤ k)) = m := by
  cases m with
  | nil => rfl
  | cons p m =>
    obtain ⟨j, w⟩ := p
    simp only [swfFrom, Bool.and_eq_true, decide_eq_true_eq] at hm
    have h : ¬ j ≤ k := by omega
    simp [h]

theorem swfFrom_sset (d : Nat → α) {b k : Nat} (v : α) {m : Sparse α} (hk : b ≤ k) (hm : swfFrom d b m = true) :
    swfFrom d b (sset d m k v) = true := by
  induction m generalizing b with
  | nil => exact swfFrom_sput d v hk rfl
  | cons p m ih =>
    obtain ⟨j, w⟩ := p
    have hm' := hm
    simp only [swfFrom, Bool.and_eq_true, decide_eq_true_eq] at hm'
    obtain ⟨⟨hj, hw⟩, ht⟩ := hm'
    unfold sset
    split
    · rename_i h
      apply swfFrom_sput d v hk
      simp only [swfFrom, Bool.and_eq_true, decide_eq_true_eq]
      exact ⟨⟨by omega, hw⟩, ht⟩
    · split
      · rename_i h1 h2
        subst h2
        rw [swfFrom_dropWhile d ht]
        exact swfFrom_sput d v hk ht
      · rename_i h1 h2
        simp only [swfFrom, Bool.and_eq_true, decide_eq_true_eq]
        exact ⟨⟨hj, hw⟩, ih (by omega) ht⟩

/-- A write keeps the canonical form. -/
theorem swf_sset (d : Nat → α) (m : Sparse α) (k : Nat) (v : α) (hm : swf d m = true) : swf d (sset d m k v) = true :=
  swfFrom_sset d v (Nat.zero_le k) hm

/-- A change of one key keeps the canonical form. -/
theorem swf_smod (d : Nat → α) (m : Sparse α) (k : Nat) (f : α → α) (hm : swf d m = true) : swf d (smod d m k f) = true :=
  swf_sset d m k _ hm

theorem swfFrom_filter (d : Nat → α) (q : Nat × α → Bool) {b : Nat} {m : Sparse α} (hm : swfFrom d b m = true) :
    swfFrom d b (m.filter q) = true := by
  induction m generalizing b with
  | nil => rfl
  | cons p m ih =>
    obtain ⟨j, w⟩ := p
    simp only [swfFrom, Bool.and_eq_true, decide_eq_true_eq] at hm
    by_cases h : q (j, w) = true
    · simp only [List.filter, h, swfFrom, Bool.and_eq_true, decide_eq_true_eq]
      exact ⟨hm.1, ih hm.2⟩
    · simp only [List.filter, h]
      exact swfFrom_mono d (by omega) (ih hm.2)

/-- Dropping entries keeps the canonical form. -/
theorem swf_filter (d : Nat → α) (q : Nat × α → Bool) (m : Sparse α) (hm : swf d m = true) : swf d (m.filter q) = true :=
  swfFrom_filter d q hm

/-- A run of writes keeps the canonical form. -/
theorem swf_foldl_sset {β : Type} (d : Nat → α) (key : β → Nat) (val : β → α) (l : List β) (m : Sparse α) (hm : swf d m = true) :
    swf d (l.foldl (fun m p => sset d m (key p) (val p)) m) = true := by
  induction l generalizing m with
  | nil => exact hm
  | cons p l ih => exact ih _ (swf_sset d m _ _ hm)

theorem swf_nil (d : Nat → α) : swf d ([] : Sparse α) = true := rfl

theorem sget_lt (d : Nat → α) {b i : Nat} {m : Sparse α} (hm : swfFrom d b m = true) (h : i < b) : sget d m i = d i := by
  cases m with
  | nil => rfl
  | cons p m =>
    obtain ⟨j, w⟩ := p
    simp only [swfFrom, Bool.and_eq_true, decide_eq_true_eq] at hm
    have h1 : ¬ j = i := by omega
    have h2 : i < j := by omega
    simp [sget, h1, h2]

theorem swf_ext_from (d : Nat → α) {b : Nat} {m n : Sparse α} (hm : swfFrom d b m = true) (hn : swfFrom d b n = true)
    (h : ∀ i, sget d m i = sget d n i) : m = n := by
  induction m generalizing b n with
  | nil =>
    cases n with
    | nil => rfl
    | cons p n =>
      obtain ⟨j, w⟩ := p
      simp only [swfFrom, Bool.and_eq_true, decide_eq_true_eq] at hn
      exact absurd (by simpa [sget] using (h j).symm) hn.1.2
  | cons p m ih =>
    obtain ⟨j, w⟩ := p
    have hm' := hm
    simp only [swfFrom, Bool.and_eq_true, decide_eq_true_eq] at hm'
    cases n with
    | nil => exact absurd (by simpa [sget] using h j) hm'.1.2
    | cons q n =>
      obtain ⟨i, x⟩ := q
      have hn' := hn
      simp only [swfFrom, Bool.and_eq_true, decide_eq_true_eq] at hn'
      have hji : j = i := by
        rcases Nat.lt_trichotomy j i with hlt | he | hgt
        · have e := h j
          have h1 : ¬ i = j := by omega
          simp only [sget, h1, hlt, if_true, if_false] at e
          exact absurd e hm'.1.2
        · exact he
        · have e := h i
          have h1 : ¬ j = i := by omega
          simp only [sget, h1, hgt, if_true, if_false] at e
          exact absurd e.symm hn'.1.2
      subst hji
      have hwx : w = x := by simpa [sget] using h j
      subst hwx
      have : m = n := by
        apply ih hm'.2 hn'.2
        intro k
        rcases Nat.lt_or_ge k (j + 1) with hk | hk
        · rw [sget_lt d hm'.2 hk, sget_lt d hn'.2 hk]
        · have e := h k
          have h1 : ¬ j = k := by omega
          have h2 : ¬ k < j := by omega
          simpa only [sget, h1, h2, if_false] using e
      rw [this]

/-- Canonical maps that read alike are equal. -/
theorem swf_ext (d : Nat → α) (m n : Sparse α) (hm : swf d m = true) (hn : swf d n = true) (h : ∀ i, sget d m i = sget d n i) : m = n :=
  swf_ext_from d hm hn h

end Sys2Proof.Machine
end

