-- ==== Sys2Proof/Laws/State.lean ====
section
/-! SUPPORT. What each named update of the device leaves unchanged: one lemma per field and update, true by rfl. -/

namespace Sys2Proof.Machine

@[simp] theorem Dev.wr_mem (d : Dev) (a : Nat) (v : W32) : (d.wr a v).mem = d.mem := rfl
@[simp] theorem Dev.wr_marks (d : Dev) (a : Nat) (v : W32) : (d.wr a v).marks = d.marks := rfl
@[simp] theorem Dev.wr_cores (d : Dev) (a : Nat) (v : W32) : (d.wr a v).cores = d.cores := rfl
@[simp] theorem Dev.wr_regions (d : Dev) (a : Nat) (v : W32) : (d.wr a v).regions = d.regions := rfl
@[simp] theorem Dev.wr_chans (d : Dev) (a : Nat) (v : W32) : (d.wr a v).chans = d.chans := rfl
@[simp] theorem Dev.wr_piles (d : Dev) (a : Nat) (v : W32) : (d.wr a v).piles = d.piles := rfl
@[simp] theorem Dev.wr_tasks (d : Dev) (a : Nat) (v : W32) : (d.wr a v).tasks = d.tasks := rfl
@[simp] theorem Dev.wr_net (d : Dev) (a : Nat) (v : W32) : (d.wr a v).net = d.net := rfl
@[simp] theorem Dev.wr_lamp (d : Dev) (a : Nat) (v : W32) : (d.wr a v).lamp = d.lamp := rfl
@[simp] theorem Dev.wr_ember (d : Dev) (a : Nat) (v : W32) : (d.wr a v).ember = d.ember := rfl
@[simp] theorem Dev.wr_sec (d : Dev) (a : Nat) (v : W32) : (d.wr a v).sec = d.sec := rfl
@[simp] theorem Dev.wr_twin (d : Dev) (a : Nat) (v : W32) : (d.wr a v).twin = d.twin := rfl
@[simp] theorem Dev.wr_power (d : Dev) (a : Nat) (v : W32) : (d.wr a v).power = d.power := rfl
@[simp] theorem Dev.wr_clock (d : Dev) (a : Nat) (v : W32) : (d.wr a v).clock = d.clock := rfl
@[simp] theorem Dev.wr_links (d : Dev) (a : Nat) (v : W32) : (d.wr a v).links = d.links := rfl
@[simp] theorem Dev.wr_cycleEvents (d : Dev) (a : Nat) (v : W32) : (d.wr a v).cycleEvents = d.cycleEvents := rfl
@[simp] theorem Dev.wr_obs (d : Dev) (a : Nat) (v : W32) : (d.wr a v).obs = d.obs := rfl
@[simp] theorem Dev.wr_burstWait (d : Dev) (a : Nat) (v : W32) : (d.wr a v).burstWait = d.burstWait := rfl
@[simp] theorem Dev.wr_coreOpen (d : Dev) (a : Nat) (v : W32) : (d.wr a v).coreOpen = d.coreOpen := rfl
@[simp] theorem Dev.wr_dt (d : Dev) (a : Nat) (v : W32) : (d.wr a v).dt = d.dt := rfl
@[simp] theorem Dev.wr_free (d : Dev) (a : Nat) (v : W32) : (d.wr a v).free = d.free := rfl
@[simp] theorem Dev.wr_shadow (d : Dev) (a : Nat) (v : W32) : (d.wr a v).shadow = d.shadow := rfl
@[simp] theorem Dev.wr_shadowWin (d : Dev) (a : Nat) (v : W32) : (d.wr a v).shadowWin = d.shadowWin := rfl

@[simp] theorem Dev.wr64_mem (d : Dev) (a v : Nat) : (d.wr64 a v).mem = d.mem := rfl
@[simp] theorem Dev.wr64_marks (d : Dev) (a v : Nat) : (d.wr64 a v).marks = d.marks := rfl
@[simp] theorem Dev.wr64_cores (d : Dev) (a v : Nat) : (d.wr64 a v).cores = d.cores := rfl
@[simp] theorem Dev.wr64_regions (d : Dev) (a v : Nat) : (d.wr64 a v).regions = d.regions := rfl
@[simp] theorem Dev.wr64_chans (d : Dev) (a v : Nat) : (d.wr64 a v).chans = d.chans := rfl
@[simp] theorem Dev.wr64_piles (d : Dev) (a v : Nat) : (d.wr64 a v).piles = d.piles := rfl
@[simp] theorem Dev.wr64_tasks (d : Dev) (a v : Nat) : (d.wr64 a v).tasks = d.tasks := rfl
@[simp] theorem Dev.wr64_net (d : Dev) (a v : Nat) : (d.wr64 a v).net = d.net := rfl
@[simp] theorem Dev.wr64_lamp (d : Dev) (a v : Nat) : (d.wr64 a v).lamp = d.lamp := rfl
@[simp] theorem Dev.wr64_ember (d : Dev) (a v : Nat) : (d.wr64 a v).ember = d.ember := rfl
@[simp] theorem Dev.wr64_sec (d : Dev) (a v : Nat) : (d.wr64 a v).sec = d.sec := rfl
@[simp] theorem Dev.wr64_twin (d : Dev) (a v : Nat) : (d.wr64 a v).twin = d.twin := rfl
@[simp] theorem Dev.wr64_power (d : Dev) (a v : Nat) : (d.wr64 a v).power = d.power := rfl
@[simp] theorem Dev.wr64_clock (d : Dev) (a v : Nat) : (d.wr64 a v).clock = d.clock := rfl
@[simp] theorem Dev.wr64_links (d : Dev) (a v : Nat) : (d.wr64 a v).links = d.links := rfl
@[simp] theorem Dev.wr64_cycleEvents (d : Dev) (a v : Nat) : (d.wr64 a v).cycleEvents = d.cycleEvents := rfl
@[simp] theorem Dev.wr64_obs (d : Dev) (a v : Nat) : (d.wr64 a v).obs = d.obs := rfl
@[simp] theorem Dev.wr64_burstWait (d : Dev) (a v : Nat) : (d.wr64 a v).burstWait = d.burstWait := rfl
@[simp] theorem Dev.wr64_coreOpen (d : Dev) (a v : Nat) : (d.wr64 a v).coreOpen = d.coreOpen := rfl
@[simp] theorem Dev.wr64_dt (d : Dev) (a v : Nat) : (d.wr64 a v).dt = d.dt := rfl
@[simp] theorem Dev.wr64_free (d : Dev) (a v : Nat) : (d.wr64 a v).free = d.free := rfl
@[simp] theorem Dev.wr64_shadow (d : Dev) (a v : Nat) : (d.wr64 a v).shadow = d.shadow := rfl
@[simp] theorem Dev.wr64_shadowWin (d : Dev) (a v : Nat) : (d.wr64 a v).shadowWin = d.shadowWin := rfl

@[simp] theorem Dev.inc64_mem (d : Dev) (a n : Nat) : (d.inc64 a n).mem = d.mem := rfl
@[simp] theorem Dev.inc64_marks (d : Dev) (a n : Nat) : (d.inc64 a n).marks = d.marks := rfl
@[simp] theorem Dev.inc64_cores (d : Dev) (a n : Nat) : (d.inc64 a n).cores = d.cores := rfl
@[simp] theorem Dev.inc64_regions (d : Dev) (a n : Nat) : (d.inc64 a n).regions = d.regions := rfl
@[simp] theorem Dev.inc64_chans (d : Dev) (a n : Nat) : (d.inc64 a n).chans = d.chans := rfl
@[simp] theorem Dev.inc64_piles (d : Dev) (a n : Nat) : (d.inc64 a n).piles = d.piles := rfl
@[simp] theorem Dev.inc64_tasks (d : Dev) (a n : Nat) : (d.inc64 a n).tasks = d.tasks := rfl
@[simp] theorem Dev.inc64_net (d : Dev) (a n : Nat) : (d.inc64 a n).net = d.net := rfl
@[simp] theorem Dev.inc64_lamp (d : Dev) (a n : Nat) : (d.inc64 a n).lamp = d.lamp := rfl
@[simp] theorem Dev.inc64_ember (d : Dev) (a n : Nat) : (d.inc64 a n).ember = d.ember := rfl
@[simp] theorem Dev.inc64_sec (d : Dev) (a n : Nat) : (d.inc64 a n).sec = d.sec := rfl
@[simp] theorem Dev.inc64_twin (d : Dev) (a n : Nat) : (d.inc64 a n).twin = d.twin := rfl
@[simp] theorem Dev.inc64_power (d : Dev) (a n : Nat) : (d.inc64 a n).power = d.power := rfl
@[simp] theorem Dev.inc64_clock (d : Dev) (a n : Nat) : (d.inc64 a n).clock = d.clock := rfl
@[simp] theorem Dev.inc64_links (d : Dev) (a n : Nat) : (d.inc64 a n).links = d.links := rfl
@[simp] theorem Dev.inc64_cycleEvents (d : Dev) (a n : Nat) : (d.inc64 a n).cycleEvents = d.cycleEvents := rfl
@[simp] theorem Dev.inc64_obs (d : Dev) (a n : Nat) : (d.inc64 a n).obs = d.obs := rfl
@[simp] theorem Dev.inc64_burstWait (d : Dev) (a n : Nat) : (d.inc64 a n).burstWait = d.burstWait := rfl
@[simp] theorem Dev.inc64_coreOpen (d : Dev) (a n : Nat) : (d.inc64 a n).coreOpen = d.coreOpen := rfl
@[simp] theorem Dev.inc64_dt (d : Dev) (a n : Nat) : (d.inc64 a n).dt = d.dt := rfl
@[simp] theorem Dev.inc64_free (d : Dev) (a n : Nat) : (d.inc64 a n).free = d.free := rfl
@[simp] theorem Dev.inc64_shadow (d : Dev) (a n : Nat) : (d.inc64 a n).shadow = d.shadow := rfl
@[simp] theorem Dev.inc64_shadowWin (d : Dev) (a n : Nat) : (d.inc64 a n).shadowWin = d.shadowWin := rfl

@[simp] theorem Dev.inc32_mem (d : Dev) (a n : Nat) : (d.inc32 a n).mem = d.mem := rfl
@[simp] theorem Dev.inc32_marks (d : Dev) (a n : Nat) : (d.inc32 a n).marks = d.marks := rfl
@[simp] theorem Dev.inc32_cores (d : Dev) (a n : Nat) : (d.inc32 a n).cores = d.cores := rfl
@[simp] theorem Dev.inc32_regions (d : Dev) (a n : Nat) : (d.inc32 a n).regions = d.regions := rfl
@[simp] theorem Dev.inc32_chans (d : Dev) (a n : Nat) : (d.inc32 a n).chans = d.chans := rfl
@[simp] theorem Dev.inc32_piles (d : Dev) (a n : Nat) : (d.inc32 a n).piles = d.piles := rfl
@[simp] theorem Dev.inc32_tasks (d : Dev) (a n : Nat) : (d.inc32 a n).tasks = d.tasks := rfl
@[simp] theorem Dev.inc32_net (d : Dev) (a n : Nat) : (d.inc32 a n).net = d.net := rfl
@[simp] theorem Dev.inc32_lamp (d : Dev) (a n : Nat) : (d.inc32 a n).lamp = d.lamp := rfl
@[simp] theorem Dev.inc32_ember (d : Dev) (a n : Nat) : (d.inc32 a n).ember = d.ember := rfl
@[simp] theorem Dev.inc32_sec (d : Dev) (a n : Nat) : (d.inc32 a n).sec = d.sec := rfl
@[simp] theorem Dev.inc32_twin (d : Dev) (a n : Nat) : (d.inc32 a n).twin = d.twin := rfl
@[simp] theorem Dev.inc32_power (d : Dev) (a n : Nat) : (d.inc32 a n).power = d.power := rfl
@[simp] theorem Dev.inc32_clock (d : Dev) (a n : Nat) : (d.inc32 a n).clock = d.clock := rfl
@[simp] theorem Dev.inc32_links (d : Dev) (a n : Nat) : (d.inc32 a n).links = d.links := rfl
@[simp] theorem Dev.inc32_cycleEvents (d : Dev) (a n : Nat) : (d.inc32 a n).cycleEvents = d.cycleEvents := rfl
@[simp] theorem Dev.inc32_obs (d : Dev) (a n : Nat) : (d.inc32 a n).obs = d.obs := rfl
@[simp] theorem Dev.inc32_burstWait (d : Dev) (a n : Nat) : (d.inc32 a n).burstWait = d.burstWait := rfl
@[simp] theorem Dev.inc32_coreOpen (d : Dev) (a n : Nat) : (d.inc32 a n).coreOpen = d.coreOpen := rfl
@[simp] theorem Dev.inc32_dt (d : Dev) (a n : Nat) : (d.inc32 a n).dt = d.dt := rfl
@[simp] theorem Dev.inc32_free (d : Dev) (a n : Nat) : (d.inc32 a n).free = d.free := rfl
@[simp] theorem Dev.inc32_shadow (d : Dev) (a n : Nat) : (d.inc32 a n).shadow = d.shadow := rfl
@[simp] theorem Dev.inc32_shadowWin (d : Dev) (a n : Nat) : (d.inc32 a n).shadowWin = d.shadowWin := rfl

@[simp] theorem Dev.setFld_mem (d : Dev) (a hi lo x : Nat) : (d.setFld a hi lo x).mem = d.mem := rfl
@[simp] theorem Dev.setFld_marks (d : Dev) (a hi lo x : Nat) : (d.setFld a hi lo x).marks = d.marks := rfl
@[simp] theorem Dev.setFld_cores (d : Dev) (a hi lo x : Nat) : (d.setFld a hi lo x).cores = d.cores := rfl
@[simp] theorem Dev.setFld_regions (d : Dev) (a hi lo x : Nat) : (d.setFld a hi lo x).regions = d.regions := rfl
@[simp] theorem Dev.setFld_chans (d : Dev) (a hi lo x : Nat) : (d.setFld a hi lo x).chans = d.chans := rfl
@[simp] theorem Dev.setFld_piles (d : Dev) (a hi lo x : Nat) : (d.setFld a hi lo x).piles = d.piles := rfl
@[simp] theorem Dev.setFld_tasks (d : Dev) (a hi lo x : Nat) : (d.setFld a hi lo x).tasks = d.tasks := rfl
@[simp] theorem Dev.setFld_net (d : Dev) (a hi lo x : Nat) : (d.setFld a hi lo x).net = d.net := rfl
@[simp] theorem Dev.setFld_lamp (d : Dev) (a hi lo x : Nat) : (d.setFld a hi lo x).lamp = d.lamp := rfl
@[simp] theorem Dev.setFld_ember (d : Dev) (a hi lo x : Nat) : (d.setFld a hi lo x).ember = d.ember := rfl
@[simp] theorem Dev.setFld_sec (d : Dev) (a hi lo x : Nat) : (d.setFld a hi lo x).sec = d.sec := rfl
@[simp] theorem Dev.setFld_twin (d : Dev) (a hi lo x : Nat) : (d.setFld a hi lo x).twin = d.twin := rfl
@[simp] theorem Dev.setFld_power (d : Dev) (a hi lo x : Nat) : (d.setFld a hi lo x).power = d.power := rfl
@[simp] theorem Dev.setFld_clock (d : Dev) (a hi lo x : Nat) : (d.setFld a hi lo x).clock = d.clock := rfl
@[simp] theorem Dev.setFld_links (d : Dev) (a hi lo x : Nat) : (d.setFld a hi lo x).links = d.links := rfl
@[simp] theorem Dev.setFld_cycleEvents (d : Dev) (a hi lo x : Nat) : (d.setFld a hi lo x).cycleEvents = d.cycleEvents := rfl
@[simp] theorem Dev.setFld_obs (d : Dev) (a hi lo x : Nat) : (d.setFld a hi lo x).obs = d.obs := rfl
@[simp] theorem Dev.setFld_burstWait (d : Dev) (a hi lo x : Nat) : (d.setFld a hi lo x).burstWait = d.burstWait := rfl
@[simp] theorem Dev.setFld_coreOpen (d : Dev) (a hi lo x : Nat) : (d.setFld a hi lo x).coreOpen = d.coreOpen := rfl
@[simp] theorem Dev.setFld_dt (d : Dev) (a hi lo x : Nat) : (d.setFld a hi lo x).dt = d.dt := rfl
@[simp] theorem Dev.setFld_free (d : Dev) (a hi lo x : Nat) : (d.setFld a hi lo x).free = d.free := rfl
@[simp] theorem Dev.setFld_shadow (d : Dev) (a hi lo x : Nat) : (d.setFld a hi lo x).shadow = d.shadow := rfl
@[simp] theorem Dev.setFld_shadowWin (d : Dev) (a hi lo x : Nat) : (d.setFld a hi lo x).shadowWin = d.shadowWin := rfl

@[simp] theorem Dev.setBit_mem (d : Dev) (a i : Nat) : (d.setBit a i).mem = d.mem := rfl
@[simp] theorem Dev.setBit_marks (d : Dev) (a i : Nat) : (d.setBit a i).marks = d.marks := rfl
@[simp] theorem Dev.setBit_cores (d : Dev) (a i : Nat) : (d.setBit a i).cores = d.cores := rfl
@[simp] theorem Dev.setBit_regions (d : Dev) (a i : Nat) : (d.setBit a i).regions = d.regions := rfl
@[simp] theorem Dev.setBit_chans (d : Dev) (a i : Nat) : (d.setBit a i).chans = d.chans := rfl
@[simp] theorem Dev.setBit_piles (d : Dev) (a i : Nat) : (d.setBit a i).piles = d.piles := rfl
@[simp] theorem Dev.setBit_tasks (d : Dev) (a i : Nat) : (d.setBit a i).tasks = d.tasks := rfl
@[simp] theorem Dev.setBit_net (d : Dev) (a i : Nat) : (d.setBit a i).net = d.net := rfl
@[simp] theorem Dev.setBit_lamp (d : Dev) (a i : Nat) : (d.setBit a i).lamp = d.lamp := rfl
@[simp] theorem Dev.setBit_ember (d : Dev) (a i : Nat) : (d.setBit a i).ember = d.ember := rfl
@[simp] theorem Dev.setBit_sec (d : Dev) (a i : Nat) : (d.setBit a i).sec = d.sec := rfl
@[simp] theorem Dev.setBit_twin (d : Dev) (a i : Nat) : (d.setBit a i).twin = d.twin := rfl
@[simp] theorem Dev.setBit_power (d : Dev) (a i : Nat) : (d.setBit a i).power = d.power := rfl
@[simp] theorem Dev.setBit_clock (d : Dev) (a i : Nat) : (d.setBit a i).clock = d.clock := rfl
@[simp] theorem Dev.setBit_links (d : Dev) (a i : Nat) : (d.setBit a i).links = d.links := rfl
@[simp] theorem Dev.setBit_cycleEvents (d : Dev) (a i : Nat) : (d.setBit a i).cycleEvents = d.cycleEvents := rfl
@[simp] theorem Dev.setBit_obs (d : Dev) (a i : Nat) : (d.setBit a i).obs = d.obs := rfl
@[simp] theorem Dev.setBit_burstWait (d : Dev) (a i : Nat) : (d.setBit a i).burstWait = d.burstWait := rfl
@[simp] theorem Dev.setBit_coreOpen (d : Dev) (a i : Nat) : (d.setBit a i).coreOpen = d.coreOpen := rfl
@[simp] theorem Dev.setBit_dt (d : Dev) (a i : Nat) : (d.setBit a i).dt = d.dt := rfl
@[simp] theorem Dev.setBit_free (d : Dev) (a i : Nat) : (d.setBit a i).free = d.free := rfl
@[simp] theorem Dev.setBit_shadow (d : Dev) (a i : Nat) : (d.setBit a i).shadow = d.shadow := rfl
@[simp] theorem Dev.setBit_shadowWin (d : Dev) (a i : Nat) : (d.setBit a i).shadowWin = d.shadowWin := rfl

@[simp] theorem Dev.clrBit_mem (d : Dev) (a i : Nat) : (d.clrBit a i).mem = d.mem := rfl
@[simp] theorem Dev.clrBit_marks (d : Dev) (a i : Nat) : (d.clrBit a i).marks = d.marks := rfl
@[simp] theorem Dev.clrBit_cores (d : Dev) (a i : Nat) : (d.clrBit a i).cores = d.cores := rfl
@[simp] theorem Dev.clrBit_regions (d : Dev) (a i : Nat) : (d.clrBit a i).regions = d.regions := rfl
@[simp] theorem Dev.clrBit_chans (d : Dev) (a i : Nat) : (d.clrBit a i).chans = d.chans := rfl
@[simp] theorem Dev.clrBit_piles (d : Dev) (a i : Nat) : (d.clrBit a i).piles = d.piles := rfl
@[simp] theorem Dev.clrBit_tasks (d : Dev) (a i : Nat) : (d.clrBit a i).tasks = d.tasks := rfl
@[simp] theorem Dev.clrBit_net (d : Dev) (a i : Nat) : (d.clrBit a i).net = d.net := rfl
@[simp] theorem Dev.clrBit_lamp (d : Dev) (a i : Nat) : (d.clrBit a i).lamp = d.lamp := rfl
@[simp] theorem Dev.clrBit_ember (d : Dev) (a i : Nat) : (d.clrBit a i).ember = d.ember := rfl
@[simp] theorem Dev.clrBit_sec (d : Dev) (a i : Nat) : (d.clrBit a i).sec = d.sec := rfl
@[simp] theorem Dev.clrBit_twin (d : Dev) (a i : Nat) : (d.clrBit a i).twin = d.twin := rfl
@[simp] theorem Dev.clrBit_power (d : Dev) (a i : Nat) : (d.clrBit a i).power = d.power := rfl
@[simp] theorem Dev.clrBit_clock (d : Dev) (a i : Nat) : (d.clrBit a i).clock = d.clock := rfl
@[simp] theorem Dev.clrBit_links (d : Dev) (a i : Nat) : (d.clrBit a i).links = d.links := rfl
@[simp] theorem Dev.clrBit_cycleEvents (d : Dev) (a i : Nat) : (d.clrBit a i).cycleEvents = d.cycleEvents := rfl
@[simp] theorem Dev.clrBit_obs (d : Dev) (a i : Nat) : (d.clrBit a i).obs = d.obs := rfl
@[simp] theorem Dev.clrBit_burstWait (d : Dev) (a i : Nat) : (d.clrBit a i).burstWait = d.burstWait := rfl
@[simp] theorem Dev.clrBit_coreOpen (d : Dev) (a i : Nat) : (d.clrBit a i).coreOpen = d.coreOpen := rfl
@[simp] theorem Dev.clrBit_dt (d : Dev) (a i : Nat) : (d.clrBit a i).dt = d.dt := rfl
@[simp] theorem Dev.clrBit_free (d : Dev) (a i : Nat) : (d.clrBit a i).free = d.free := rfl
@[simp] theorem Dev.clrBit_shadow (d : Dev) (a i : Nat) : (d.clrBit a i).shadow = d.shadow := rfl
@[simp] theorem Dev.clrBit_shadowWin (d : Dev) (a i : Nat) : (d.clrBit a i).shadowWin = d.shadowWin := rfl

@[simp] theorem Dev.modCore_ctl (d : Dev) (n k : Nat) (f : Core → Core) : (d.modCore n k f).ctl = d.ctl := rfl
@[simp] theorem Dev.modCore_mem (d : Dev) (n k : Nat) (f : Core → Core) : (d.modCore n k f).mem = d.mem := rfl
@[simp] theorem Dev.modCore_marks (d : Dev) (n k : Nat) (f : Core → Core) : (d.modCore n k f).marks = d.marks := rfl
@[simp] theorem Dev.modCore_regions (d : Dev) (n k : Nat) (f : Core → Core) : (d.modCore n k f).regions = d.regions := rfl
@[simp] theorem Dev.modCore_chans (d : Dev) (n k : Nat) (f : Core → Core) : (d.modCore n k f).chans = d.chans := rfl
@[simp] theorem Dev.modCore_piles (d : Dev) (n k : Nat) (f : Core → Core) : (d.modCore n k f).piles = d.piles := rfl
@[simp] theorem Dev.modCore_tasks (d : Dev) (n k : Nat) (f : Core → Core) : (d.modCore n k f).tasks = d.tasks := rfl
@[simp] theorem Dev.modCore_net (d : Dev) (n k : Nat) (f : Core → Core) : (d.modCore n k f).net = d.net := rfl
@[simp] theorem Dev.modCore_lamp (d : Dev) (n k : Nat) (f : Core → Core) : (d.modCore n k f).lamp = d.lamp := rfl
@[simp] theorem Dev.modCore_ember (d : Dev) (n k : Nat) (f : Core → Core) : (d.modCore n k f).ember = d.ember := rfl
@[simp] theorem Dev.modCore_sec (d : Dev) (n k : Nat) (f : Core → Core) : (d.modCore n k f).sec = d.sec := rfl
@[simp] theorem Dev.modCore_twin (d : Dev) (n k : Nat) (f : Core → Core) : (d.modCore n k f).twin = d.twin := rfl
@[simp] theorem Dev.modCore_power (d : Dev) (n k : Nat) (f : Core → Core) : (d.modCore n k f).power = d.power := rfl
@[simp] theorem Dev.modCore_clock (d : Dev) (n k : Nat) (f : Core → Core) : (d.modCore n k f).clock = d.clock := rfl
@[simp] theorem Dev.modCore_links (d : Dev) (n k : Nat) (f : Core → Core) : (d.modCore n k f).links = d.links := rfl
@[simp] theorem Dev.modCore_cycleEvents (d : Dev) (n k : Nat) (f : Core → Core) : (d.modCore n k f).cycleEvents = d.cycleEvents := rfl
@[simp] theorem Dev.modCore_obs (d : Dev) (n k : Nat) (f : Core → Core) : (d.modCore n k f).obs = d.obs := rfl
@[simp] theorem Dev.modCore_burstWait (d : Dev) (n k : Nat) (f : Core → Core) : (d.modCore n k f).burstWait = d.burstWait := rfl
@[simp] theorem Dev.modCore_coreOpen (d : Dev) (n k : Nat) (f : Core → Core) : (d.modCore n k f).coreOpen = d.coreOpen := rfl
@[simp] theorem Dev.modCore_dt (d : Dev) (n k : Nat) (f : Core → Core) : (d.modCore n k f).dt = d.dt := rfl
@[simp] theorem Dev.modCore_free (d : Dev) (n k : Nat) (f : Core → Core) : (d.modCore n k f).free = d.free := rfl
@[simp] theorem Dev.modCore_shadow (d : Dev) (n k : Nat) (f : Core → Core) : (d.modCore n k f).shadow = d.shadow := rfl
@[simp] theorem Dev.modCore_shadowWin (d : Dev) (n k : Nat) (f : Core → Core) : (d.modCore n k f).shadowWin = d.shadowWin := rfl

@[simp] theorem Dev.modRegion_ctl (d : Dev) (n : Nat) (f : Region → Region) : (d.modRegion n f).ctl = d.ctl := rfl
@[simp] theorem Dev.modRegion_mem (d : Dev) (n : Nat) (f : Region → Region) : (d.modRegion n f).mem = d.mem := rfl
@[simp] theorem Dev.modRegion_marks (d : Dev) (n : Nat) (f : Region → Region) : (d.modRegion n f).marks = d.marks := rfl
@[simp] theorem Dev.modRegion_cores (d : Dev) (n : Nat) (f : Region → Region) : (d.modRegion n f).cores = d.cores := rfl
@[simp] theorem Dev.modRegion_chans (d : Dev) (n : Nat) (f : Region → Region) : (d.modRegion n f).chans = d.chans := rfl
@[simp] theorem Dev.modRegion_piles (d : Dev) (n : Nat) (f : Region → Region) : (d.modRegion n f).piles = d.piles := rfl
@[simp] theorem Dev.modRegion_tasks (d : Dev) (n : Nat) (f : Region → Region) : (d.modRegion n f).tasks = d.tasks := rfl
@[simp] theorem Dev.modRegion_net (d : Dev) (n : Nat) (f : Region → Region) : (d.modRegion n f).net = d.net := rfl
@[simp] theorem Dev.modRegion_lamp (d : Dev) (n : Nat) (f : Region → Region) : (d.modRegion n f).lamp = d.lamp := rfl
@[simp] theorem Dev.modRegion_ember (d : Dev) (n : Nat) (f : Region → Region) : (d.modRegion n f).ember = d.ember := rfl
@[simp] theorem Dev.modRegion_sec (d : Dev) (n : Nat) (f : Region → Region) : (d.modRegion n f).sec = d.sec := rfl
@[simp] theorem Dev.modRegion_twin (d : Dev) (n : Nat) (f : Region → Region) : (d.modRegion n f).twin = d.twin := rfl
@[simp] theorem Dev.modRegion_power (d : Dev) (n : Nat) (f : Region → Region) : (d.modRegion n f).power = d.power := rfl
@[simp] theorem Dev.modRegion_clock (d : Dev) (n : Nat) (f : Region → Region) : (d.modRegion n f).clock = d.clock := rfl
@[simp] theorem Dev.modRegion_links (d : Dev) (n : Nat) (f : Region → Region) : (d.modRegion n f).links = d.links := rfl
@[simp] theorem Dev.modRegion_cycleEvents (d : Dev) (n : Nat) (f : Region → Region) : (d.modRegion n f).cycleEvents = d.cycleEvents := rfl
@[simp] theorem Dev.modRegion_obs (d : Dev) (n : Nat) (f : Region → Region) : (d.modRegion n f).obs = d.obs := rfl
@[simp] theorem Dev.modRegion_burstWait (d : Dev) (n : Nat) (f : Region → Region) : (d.modRegion n f).burstWait = d.burstWait := rfl
@[simp] theorem Dev.modRegion_coreOpen (d : Dev) (n : Nat) (f : Region → Region) : (d.modRegion n f).coreOpen = d.coreOpen := rfl
@[simp] theorem Dev.modRegion_dt (d : Dev) (n : Nat) (f : Region → Region) : (d.modRegion n f).dt = d.dt := rfl
@[simp] theorem Dev.modRegion_free (d : Dev) (n : Nat) (f : Region → Region) : (d.modRegion n f).free = d.free := rfl
@[simp] theorem Dev.modRegion_shadow (d : Dev) (n : Nat) (f : Region → Region) : (d.modRegion n f).shadow = d.shadow := rfl
@[simp] theorem Dev.modRegion_shadowWin (d : Dev) (n : Nat) (f : Region → Region) : (d.modRegion n f).shadowWin = d.shadowWin := rfl

@[simp] theorem Dev.modChan_ctl (d : Dev) (i : Nat) (f : Channel → Channel) : (d.modChan i f).ctl = d.ctl := rfl
@[simp] theorem Dev.modChan_mem (d : Dev) (i : Nat) (f : Channel → Channel) : (d.modChan i f).mem = d.mem := rfl
@[simp] theorem Dev.modChan_marks (d : Dev) (i : Nat) (f : Channel → Channel) : (d.modChan i f).marks = d.marks := rfl
@[simp] theorem Dev.modChan_cores (d : Dev) (i : Nat) (f : Channel → Channel) : (d.modChan i f).cores = d.cores := rfl
@[simp] theorem Dev.modChan_regions (d : Dev) (i : Nat) (f : Channel → Channel) : (d.modChan i f).regions = d.regions := rfl
@[simp] theorem Dev.modChan_piles (d : Dev) (i : Nat) (f : Channel → Channel) : (d.modChan i f).piles = d.piles := rfl
@[simp] theorem Dev.modChan_tasks (d : Dev) (i : Nat) (f : Channel → Channel) : (d.modChan i f).tasks = d.tasks := rfl
@[simp] theorem Dev.modChan_net (d : Dev) (i : Nat) (f : Channel → Channel) : (d.modChan i f).net = d.net := rfl
@[simp] theorem Dev.modChan_lamp (d : Dev) (i : Nat) (f : Channel → Channel) : (d.modChan i f).lamp = d.lamp := rfl
@[simp] theorem Dev.modChan_ember (d : Dev) (i : Nat) (f : Channel → Channel) : (d.modChan i f).ember = d.ember := rfl
@[simp] theorem Dev.modChan_sec (d : Dev) (i : Nat) (f : Channel → Channel) : (d.modChan i f).sec = d.sec := rfl
@[simp] theorem Dev.modChan_twin (d : Dev) (i : Nat) (f : Channel → Channel) : (d.modChan i f).twin = d.twin := rfl
@[simp] theorem Dev.modChan_power (d : Dev) (i : Nat) (f : Channel → Channel) : (d.modChan i f).power = d.power := rfl
@[simp] theorem Dev.modChan_clock (d : Dev) (i : Nat) (f : Channel → Channel) : (d.modChan i f).clock = d.clock := rfl
@[simp] theorem Dev.modChan_links (d : Dev) (i : Nat) (f : Channel → Channel) : (d.modChan i f).links = d.links := rfl
@[simp] theorem Dev.modChan_cycleEvents (d : Dev) (i : Nat) (f : Channel → Channel) : (d.modChan i f).cycleEvents = d.cycleEvents := rfl
@[simp] theorem Dev.modChan_obs (d : Dev) (i : Nat) (f : Channel → Channel) : (d.modChan i f).obs = d.obs := rfl
@[simp] theorem Dev.modChan_burstWait (d : Dev) (i : Nat) (f : Channel → Channel) : (d.modChan i f).burstWait = d.burstWait := rfl
@[simp] theorem Dev.modChan_coreOpen (d : Dev) (i : Nat) (f : Channel → Channel) : (d.modChan i f).coreOpen = d.coreOpen := rfl
@[simp] theorem Dev.modChan_dt (d : Dev) (i : Nat) (f : Channel → Channel) : (d.modChan i f).dt = d.dt := rfl
@[simp] theorem Dev.modChan_free (d : Dev) (i : Nat) (f : Channel → Channel) : (d.modChan i f).free = d.free := rfl
@[simp] theorem Dev.modChan_shadow (d : Dev) (i : Nat) (f : Channel → Channel) : (d.modChan i f).shadow = d.shadow := rfl
@[simp] theorem Dev.modChan_shadowWin (d : Dev) (i : Nat) (f : Channel → Channel) : (d.modChan i f).shadowWin = d.shadowWin := rfl

@[simp] theorem Dev.modPile_ctl (d : Dev) (n : Nat) (f : Pile → Pile) : (d.modPile n f).ctl = d.ctl := rfl
@[simp] theorem Dev.modPile_mem (d : Dev) (n : Nat) (f : Pile → Pile) : (d.modPile n f).mem = d.mem := rfl
@[simp] theorem Dev.modPile_marks (d : Dev) (n : Nat) (f : Pile → Pile) : (d.modPile n f).marks = d.marks := rfl
@[simp] theorem Dev.modPile_cores (d : Dev) (n : Nat) (f : Pile → Pile) : (d.modPile n f).cores = d.cores := rfl
@[simp] theorem Dev.modPile_regions (d : Dev) (n : Nat) (f : Pile → Pile) : (d.modPile n f).regions = d.regions := rfl
@[simp] theorem Dev.modPile_chans (d : Dev) (n : Nat) (f : Pile → Pile) : (d.modPile n f).chans = d.chans := rfl
@[simp] theorem Dev.modPile_tasks (d : Dev) (n : Nat) (f : Pile → Pile) : (d.modPile n f).tasks = d.tasks := rfl
@[simp] theorem Dev.modPile_net (d : Dev) (n : Nat) (f : Pile → Pile) : (d.modPile n f).net = d.net := rfl
@[simp] theorem Dev.modPile_lamp (d : Dev) (n : Nat) (f : Pile → Pile) : (d.modPile n f).lamp = d.lamp := rfl
@[simp] theorem Dev.modPile_ember (d : Dev) (n : Nat) (f : Pile → Pile) : (d.modPile n f).ember = d.ember := rfl
@[simp] theorem Dev.modPile_sec (d : Dev) (n : Nat) (f : Pile → Pile) : (d.modPile n f).sec = d.sec := rfl
@[simp] theorem Dev.modPile_twin (d : Dev) (n : Nat) (f : Pile → Pile) : (d.modPile n f).twin = d.twin := rfl
@[simp] theorem Dev.modPile_power (d : Dev) (n : Nat) (f : Pile → Pile) : (d.modPile n f).power = d.power := rfl
@[simp] theorem Dev.modPile_clock (d : Dev) (n : Nat) (f : Pile → Pile) : (d.modPile n f).clock = d.clock := rfl
@[simp] theorem Dev.modPile_links (d : Dev) (n : Nat) (f : Pile → Pile) : (d.modPile n f).links = d.links := rfl
@[simp] theorem Dev.modPile_cycleEvents (d : Dev) (n : Nat) (f : Pile → Pile) : (d.modPile n f).cycleEvents = d.cycleEvents := rfl
@[simp] theorem Dev.modPile_obs (d : Dev) (n : Nat) (f : Pile → Pile) : (d.modPile n f).obs = d.obs := rfl
@[simp] theorem Dev.modPile_burstWait (d : Dev) (n : Nat) (f : Pile → Pile) : (d.modPile n f).burstWait = d.burstWait := rfl
@[simp] theorem Dev.modPile_coreOpen (d : Dev) (n : Nat) (f : Pile → Pile) : (d.modPile n f).coreOpen = d.coreOpen := rfl
@[simp] theorem Dev.modPile_dt (d : Dev) (n : Nat) (f : Pile → Pile) : (d.modPile n f).dt = d.dt := rfl
@[simp] theorem Dev.modPile_free (d : Dev) (n : Nat) (f : Pile → Pile) : (d.modPile n f).free = d.free := rfl
@[simp] theorem Dev.modPile_shadow (d : Dev) (n : Nat) (f : Pile → Pile) : (d.modPile n f).shadow = d.shadow := rfl
@[simp] theorem Dev.modPile_shadowWin (d : Dev) (n : Nat) (f : Pile → Pile) : (d.modPile n f).shadowWin = d.shadowWin := rfl

@[simp] theorem Dev.modTask_ctl (d : Dev) (id : W32) (f : Task → Task) : (d.modTask id f).ctl = d.ctl := rfl
@[simp] theorem Dev.modTask_mem (d : Dev) (id : W32) (f : Task → Task) : (d.modTask id f).mem = d.mem := rfl
@[simp] theorem Dev.modTask_marks (d : Dev) (id : W32) (f : Task → Task) : (d.modTask id f).marks = d.marks := rfl
@[simp] theorem Dev.modTask_cores (d : Dev) (id : W32) (f : Task → Task) : (d.modTask id f).cores = d.cores := rfl
@[simp] theorem Dev.modTask_regions (d : Dev) (id : W32) (f : Task → Task) : (d.modTask id f).regions = d.regions := rfl
@[simp] theorem Dev.modTask_chans (d : Dev) (id : W32) (f : Task → Task) : (d.modTask id f).chans = d.chans := rfl
@[simp] theorem Dev.modTask_piles (d : Dev) (id : W32) (f : Task → Task) : (d.modTask id f).piles = d.piles := rfl
@[simp] theorem Dev.modTask_net (d : Dev) (id : W32) (f : Task → Task) : (d.modTask id f).net = d.net := rfl
@[simp] theorem Dev.modTask_lamp (d : Dev) (id : W32) (f : Task → Task) : (d.modTask id f).lamp = d.lamp := rfl
@[simp] theorem Dev.modTask_ember (d : Dev) (id : W32) (f : Task → Task) : (d.modTask id f).ember = d.ember := rfl
@[simp] theorem Dev.modTask_sec (d : Dev) (id : W32) (f : Task → Task) : (d.modTask id f).sec = d.sec := rfl
@[simp] theorem Dev.modTask_twin (d : Dev) (id : W32) (f : Task → Task) : (d.modTask id f).twin = d.twin := rfl
@[simp] theorem Dev.modTask_power (d : Dev) (id : W32) (f : Task → Task) : (d.modTask id f).power = d.power := rfl
@[simp] theorem Dev.modTask_clock (d : Dev) (id : W32) (f : Task → Task) : (d.modTask id f).clock = d.clock := rfl
@[simp] theorem Dev.modTask_links (d : Dev) (id : W32) (f : Task → Task) : (d.modTask id f).links = d.links := rfl
@[simp] theorem Dev.modTask_cycleEvents (d : Dev) (id : W32) (f : Task → Task) : (d.modTask id f).cycleEvents = d.cycleEvents := rfl
@[simp] theorem Dev.modTask_obs (d : Dev) (id : W32) (f : Task → Task) : (d.modTask id f).obs = d.obs := rfl
@[simp] theorem Dev.modTask_burstWait (d : Dev) (id : W32) (f : Task → Task) : (d.modTask id f).burstWait = d.burstWait := rfl
@[simp] theorem Dev.modTask_coreOpen (d : Dev) (id : W32) (f : Task → Task) : (d.modTask id f).coreOpen = d.coreOpen := rfl
@[simp] theorem Dev.modTask_dt (d : Dev) (id : W32) (f : Task → Task) : (d.modTask id f).dt = d.dt := rfl
@[simp] theorem Dev.modTask_free (d : Dev) (id : W32) (f : Task → Task) : (d.modTask id f).free = d.free := rfl
@[simp] theorem Dev.modTask_shadow (d : Dev) (id : W32) (f : Task → Task) : (d.modTask id f).shadow = d.shadow := rfl
@[simp] theorem Dev.modTask_shadowWin (d : Dev) (id : W32) (f : Task → Task) : (d.modTask id f).shadowWin = d.shadowWin := rfl

@[simp] theorem Dev.setByte_ctl (d : Dev) (a : Nat) (v : Byte) : (d.setByte a v).ctl = d.ctl := rfl
@[simp] theorem Dev.setByte_marks (d : Dev) (a : Nat) (v : Byte) : (d.setByte a v).marks = d.marks := rfl
@[simp] theorem Dev.setByte_cores (d : Dev) (a : Nat) (v : Byte) : (d.setByte a v).cores = d.cores := rfl
@[simp] theorem Dev.setByte_regions (d : Dev) (a : Nat) (v : Byte) : (d.setByte a v).regions = d.regions := rfl
@[simp] theorem Dev.setByte_chans (d : Dev) (a : Nat) (v : Byte) : (d.setByte a v).chans = d.chans := rfl
@[simp] theorem Dev.setByte_piles (d : Dev) (a : Nat) (v : Byte) : (d.setByte a v).piles = d.piles := rfl
@[simp] theorem Dev.setByte_tasks (d : Dev) (a : Nat) (v : Byte) : (d.setByte a v).tasks = d.tasks := rfl
@[simp] theorem Dev.setByte_net (d : Dev) (a : Nat) (v : Byte) : (d.setByte a v).net = d.net := rfl
@[simp] theorem Dev.setByte_lamp (d : Dev) (a : Nat) (v : Byte) : (d.setByte a v).lamp = d.lamp := rfl
@[simp] theorem Dev.setByte_ember (d : Dev) (a : Nat) (v : Byte) : (d.setByte a v).ember = d.ember := rfl
@[simp] theorem Dev.setByte_sec (d : Dev) (a : Nat) (v : Byte) : (d.setByte a v).sec = d.sec := rfl
@[simp] theorem Dev.setByte_twin (d : Dev) (a : Nat) (v : Byte) : (d.setByte a v).twin = d.twin := rfl
@[simp] theorem Dev.setByte_power (d : Dev) (a : Nat) (v : Byte) : (d.setByte a v).power = d.power := rfl
@[simp] theorem Dev.setByte_clock (d : Dev) (a : Nat) (v : Byte) : (d.setByte a v).clock = d.clock := rfl
@[simp] theorem Dev.setByte_links (d : Dev) (a : Nat) (v : Byte) : (d.setByte a v).links = d.links := rfl
@[simp] theorem Dev.setByte_cycleEvents (d : Dev) (a : Nat) (v : Byte) : (d.setByte a v).cycleEvents = d.cycleEvents := rfl
@[simp] theorem Dev.setByte_obs (d : Dev) (a : Nat) (v : Byte) : (d.setByte a v).obs = d.obs := rfl
@[simp] theorem Dev.setByte_burstWait (d : Dev) (a : Nat) (v : Byte) : (d.setByte a v).burstWait = d.burstWait := rfl
@[simp] theorem Dev.setByte_coreOpen (d : Dev) (a : Nat) (v : Byte) : (d.setByte a v).coreOpen = d.coreOpen := rfl
@[simp] theorem Dev.setByte_dt (d : Dev) (a : Nat) (v : Byte) : (d.setByte a v).dt = d.dt := rfl
@[simp] theorem Dev.setByte_free (d : Dev) (a : Nat) (v : Byte) : (d.setByte a v).free = d.free := rfl
@[simp] theorem Dev.setByte_shadow (d : Dev) (a : Nat) (v : Byte) : (d.setByte a v).shadow = d.shadow := rfl
@[simp] theorem Dev.setByte_shadowWin (d : Dev) (a : Nat) (v : Byte) : (d.setByte a v).shadowWin = d.shadowWin := rfl

@[simp] theorem Dev.setMark_ctl (d : Dev) (a m : Nat) : (d.setMark a m).ctl = d.ctl := rfl
@[simp] theorem Dev.setMark_mem (d : Dev) (a m : Nat) : (d.setMark a m).mem = d.mem := rfl
@[simp] theorem Dev.setMark_cores (d : Dev) (a m : Nat) : (d.setMark a m).cores = d.cores := rfl
@[simp] theorem Dev.setMark_regions (d : Dev) (a m : Nat) : (d.setMark a m).regions = d.regions := rfl
@[simp] theorem Dev.setMark_chans (d : Dev) (a m : Nat) : (d.setMark a m).chans = d.chans := rfl
@[simp] theorem Dev.setMark_piles (d : Dev) (a m : Nat) : (d.setMark a m).piles = d.piles := rfl
@[simp] theorem Dev.setMark_tasks (d : Dev) (a m : Nat) : (d.setMark a m).tasks = d.tasks := rfl
@[simp] theorem Dev.setMark_net (d : Dev) (a m : Nat) : (d.setMark a m).net = d.net := rfl
@[simp] theorem Dev.setMark_lamp (d : Dev) (a m : Nat) : (d.setMark a m).lamp = d.lamp := rfl
@[simp] theorem Dev.setMark_ember (d : Dev) (a m : Nat) : (d.setMark a m).ember = d.ember := rfl
@[simp] theorem Dev.setMark_sec (d : Dev) (a m : Nat) : (d.setMark a m).sec = d.sec := rfl
@[simp] theorem Dev.setMark_twin (d : Dev) (a m : Nat) : (d.setMark a m).twin = d.twin := rfl
@[simp] theorem Dev.setMark_power (d : Dev) (a m : Nat) : (d.setMark a m).power = d.power := rfl
@[simp] theorem Dev.setMark_clock (d : Dev) (a m : Nat) : (d.setMark a m).clock = d.clock := rfl
@[simp] theorem Dev.setMark_links (d : Dev) (a m : Nat) : (d.setMark a m).links = d.links := rfl
@[simp] theorem Dev.setMark_cycleEvents (d : Dev) (a m : Nat) : (d.setMark a m).cycleEvents = d.cycleEvents := rfl
@[simp] theorem Dev.setMark_obs (d : Dev) (a m : Nat) : (d.setMark a m).obs = d.obs := rfl
@[simp] theorem Dev.setMark_burstWait (d : Dev) (a m : Nat) : (d.setMark a m).burstWait = d.burstWait := rfl
@[simp] theorem Dev.setMark_coreOpen (d : Dev) (a m : Nat) : (d.setMark a m).coreOpen = d.coreOpen := rfl
@[simp] theorem Dev.setMark_dt (d : Dev) (a m : Nat) : (d.setMark a m).dt = d.dt := rfl
@[simp] theorem Dev.setMark_free (d : Dev) (a m : Nat) : (d.setMark a m).free = d.free := rfl
@[simp] theorem Dev.setMark_shadow (d : Dev) (a m : Nat) : (d.setMark a m).shadow = d.shadow := rfl
@[simp] theorem Dev.setMark_shadowWin (d : Dev) (a m : Nat) : (d.setMark a m).shadowWin = d.shadowWin := rfl

@[simp] theorem Dev.setCtx_ctl (d : Dev) (k : Ctx) (c : Option Context) : (d.setCtx k c).ctl = d.ctl := rfl
@[simp] theorem Dev.setCtx_mem (d : Dev) (k : Ctx) (c : Option Context) : (d.setCtx k c).mem = d.mem := rfl
@[simp] theorem Dev.setCtx_marks (d : Dev) (k : Ctx) (c : Option Context) : (d.setCtx k c).marks = d.marks := rfl
@[simp] theorem Dev.setCtx_regions (d : Dev) (k : Ctx) (c : Option Context) : (d.setCtx k c).regions = d.regions := rfl
@[simp] theorem Dev.setCtx_chans (d : Dev) (k : Ctx) (c : Option Context) : (d.setCtx k c).chans = d.chans := rfl
@[simp] theorem Dev.setCtx_piles (d : Dev) (k : Ctx) (c : Option Context) : (d.setCtx k c).piles = d.piles := rfl
@[simp] theorem Dev.setCtx_tasks (d : Dev) (k : Ctx) (c : Option Context) : (d.setCtx k c).tasks = d.tasks := rfl
@[simp] theorem Dev.setCtx_net (d : Dev) (k : Ctx) (c : Option Context) : (d.setCtx k c).net = d.net := rfl
@[simp] theorem Dev.setCtx_lamp (d : Dev) (k : Ctx) (c : Option Context) : (d.setCtx k c).lamp = d.lamp := rfl
@[simp] theorem Dev.setCtx_ember (d : Dev) (k : Ctx) (c : Option Context) : (d.setCtx k c).ember = d.ember := rfl
@[simp] theorem Dev.setCtx_sec (d : Dev) (k : Ctx) (c : Option Context) : (d.setCtx k c).sec = d.sec := rfl
@[simp] theorem Dev.setCtx_twin (d : Dev) (k : Ctx) (c : Option Context) : (d.setCtx k c).twin = d.twin := rfl
@[simp] theorem Dev.setCtx_power (d : Dev) (k : Ctx) (c : Option Context) : (d.setCtx k c).power = d.power := rfl
@[simp] theorem Dev.setCtx_clock (d : Dev) (k : Ctx) (c : Option Context) : (d.setCtx k c).clock = d.clock := rfl
@[simp] theorem Dev.setCtx_links (d : Dev) (k : Ctx) (c : Option Context) : (d.setCtx k c).links = d.links := rfl
@[simp] theorem Dev.setCtx_cycleEvents (d : Dev) (k : Ctx) (c : Option Context) : (d.setCtx k c).cycleEvents = d.cycleEvents := rfl
@[simp] theorem Dev.setCtx_obs (d : Dev) (k : Ctx) (c : Option Context) : (d.setCtx k c).obs = d.obs := rfl
@[simp] theorem Dev.setCtx_burstWait (d : Dev) (k : Ctx) (c : Option Context) : (d.setCtx k c).burstWait = d.burstWait := rfl
@[simp] theorem Dev.setCtx_coreOpen (d : Dev) (k : Ctx) (c : Option Context) : (d.setCtx k c).coreOpen = d.coreOpen := rfl
@[simp] theorem Dev.setCtx_dt (d : Dev) (k : Ctx) (c : Option Context) : (d.setCtx k c).dt = d.dt := rfl
@[simp] theorem Dev.setCtx_free (d : Dev) (k : Ctx) (c : Option Context) : (d.setCtx k c).free = d.free := rfl
@[simp] theorem Dev.setCtx_shadow (d : Dev) (k : Ctx) (c : Option Context) : (d.setCtx k c).shadow = d.shadow := rfl
@[simp] theorem Dev.setCtx_shadowWin (d : Dev) (k : Ctx) (c : Option Context) : (d.setCtx k c).shadowWin = d.shadowWin := rfl

@[simp] theorem Dev.putBit_mem (d : Dev) (a i : Nat) (v : Bool) : (d.putBit a i v).mem = d.mem := by unfold Dev.putBit; split <;> rfl
@[simp] theorem Dev.putBit_marks (d : Dev) (a i : Nat) (v : Bool) : (d.putBit a i v).marks = d.marks := by unfold Dev.putBit; split <;> rfl
@[simp] theorem Dev.putBit_cores (d : Dev) (a i : Nat) (v : Bool) : (d.putBit a i v).cores = d.cores := by unfold Dev.putBit; split <;> rfl
@[simp] theorem Dev.putBit_regions (d : Dev) (a i : Nat) (v : Bool) : (d.putBit a i v).regions = d.regions := by unfold Dev.putBit; split <;> rfl
@[simp] theorem Dev.putBit_chans (d : Dev) (a i : Nat) (v : Bool) : (d.putBit a i v).chans = d.chans := by unfold Dev.putBit; split <;> rfl
@[simp] theorem Dev.putBit_piles (d : Dev) (a i : Nat) (v : Bool) : (d.putBit a i v).piles = d.piles := by unfold Dev.putBit; split <;> rfl
@[simp] theorem Dev.putBit_tasks (d : Dev) (a i : Nat) (v : Bool) : (d.putBit a i v).tasks = d.tasks := by unfold Dev.putBit; split <;> rfl
@[simp] theorem Dev.putBit_net (d : Dev) (a i : Nat) (v : Bool) : (d.putBit a i v).net = d.net := by unfold Dev.putBit; split <;> rfl
@[simp] theorem Dev.putBit_lamp (d : Dev) (a i : Nat) (v : Bool) : (d.putBit a i v).lamp = d.lamp := by unfold Dev.putBit; split <;> rfl
@[simp] theorem Dev.putBit_ember (d : Dev) (a i : Nat) (v : Bool) : (d.putBit a i v).ember = d.ember := by unfold Dev.putBit; split <;> rfl
@[simp] theorem Dev.putBit_sec (d : Dev) (a i : Nat) (v : Bool) : (d.putBit a i v).sec = d.sec := by unfold Dev.putBit; split <;> rfl
@[simp] theorem Dev.putBit_twin (d : Dev) (a i : Nat) (v : Bool) : (d.putBit a i v).twin = d.twin := by unfold Dev.putBit; split <;> rfl
@[simp] theorem Dev.putBit_power (d : Dev) (a i : Nat) (v : Bool) : (d.putBit a i v).power = d.power := by unfold Dev.putBit; split <;> rfl
@[simp] theorem Dev.putBit_clock (d : Dev) (a i : Nat) (v : Bool) : (d.putBit a i v).clock = d.clock := by unfold Dev.putBit; split <;> rfl
@[simp] theorem Dev.putBit_links (d : Dev) (a i : Nat) (v : Bool) : (d.putBit a i v).links = d.links := by unfold Dev.putBit; split <;> rfl
@[simp] theorem Dev.putBit_cycleEvents (d : Dev) (a i : Nat) (v : Bool) : (d.putBit a i v).cycleEvents = d.cycleEvents := by unfold Dev.putBit; split <;> rfl
@[simp] theorem Dev.putBit_obs (d : Dev) (a i : Nat) (v : Bool) : (d.putBit a i v).obs = d.obs := by unfold Dev.putBit; split <;> rfl
@[simp] theorem Dev.putBit_burstWait (d : Dev) (a i : Nat) (v : Bool) : (d.putBit a i v).burstWait = d.burstWait := by unfold Dev.putBit; split <;> rfl
@[simp] theorem Dev.putBit_coreOpen (d : Dev) (a i : Nat) (v : Bool) : (d.putBit a i v).coreOpen = d.coreOpen := by unfold Dev.putBit; split <;> rfl
@[simp] theorem Dev.putBit_dt (d : Dev) (a i : Nat) (v : Bool) : (d.putBit a i v).dt = d.dt := by unfold Dev.putBit; split <;> rfl
@[simp] theorem Dev.putBit_free (d : Dev) (a i : Nat) (v : Bool) : (d.putBit a i v).free = d.free := by unfold Dev.putBit; split <;> rfl
@[simp] theorem Dev.putBit_shadow (d : Dev) (a i : Nat) (v : Bool) : (d.putBit a i v).shadow = d.shadow := by unfold Dev.putBit; split <;> rfl
@[simp] theorem Dev.putBit_shadowWin (d : Dev) (a i : Nat) (v : Bool) : (d.putBit a i v).shadowWin = d.shadowWin := by unfold Dev.putBit; split <;> rfl

@[simp] theorem Dev.modCtx_ctl (d : Dev) (k : Ctx) (f : Context → Context) : (d.modCtx k f).ctl = d.ctl := by unfold Dev.modCtx; split <;> rfl
@[simp] theorem Dev.modCtx_mem (d : Dev) (k : Ctx) (f : Context → Context) : (d.modCtx k f).mem = d.mem := by unfold Dev.modCtx; split <;> rfl
@[simp] theorem Dev.modCtx_marks (d : Dev) (k : Ctx) (f : Context → Context) : (d.modCtx k f).marks = d.marks := by unfold Dev.modCtx; split <;> rfl
@[simp] theorem Dev.modCtx_regions (d : Dev) (k : Ctx) (f : Context → Context) : (d.modCtx k f).regions = d.regions := by unfold Dev.modCtx; split <;> rfl
@[simp] theorem Dev.modCtx_chans (d : Dev) (k : Ctx) (f : Context → Context) : (d.modCtx k f).chans = d.chans := by unfold Dev.modCtx; split <;> rfl
@[simp] theorem Dev.modCtx_piles (d : Dev) (k : Ctx) (f : Context → Context) : (d.modCtx k f).piles = d.piles := by unfold Dev.modCtx; split <;> rfl
@[simp] theorem Dev.modCtx_tasks (d : Dev) (k : Ctx) (f : Context → Context) : (d.modCtx k f).tasks = d.tasks := by unfold Dev.modCtx; split <;> rfl
@[simp] theorem Dev.modCtx_net (d : Dev) (k : Ctx) (f : Context → Context) : (d.modCtx k f).net = d.net := by unfold Dev.modCtx; split <;> rfl
@[simp] theorem Dev.modCtx_lamp (d : Dev) (k : Ctx) (f : Context → Context) : (d.modCtx k f).lamp = d.lamp := by unfold Dev.modCtx; split <;> rfl
@[simp] theorem Dev.modCtx_ember (d : Dev) (k : Ctx) (f : Context → Context) : (d.modCtx k f).ember = d.ember := by unfold Dev.modCtx; split <;> rfl
@[simp] theorem Dev.modCtx_sec (d : Dev) (k : Ctx) (f : Context → Context) : (d.modCtx k f).sec = d.sec := by unfold Dev.modCtx; split <;> rfl
@[simp] theorem Dev.modCtx_twin (d : Dev) (k : Ctx) (f : Context → Context) : (d.modCtx k f).twin = d.twin := by unfold Dev.modCtx; split <;> rfl
@[simp] theorem Dev.modCtx_power (d : Dev) (k : Ctx) (f : Context → Context) : (d.modCtx k f).power = d.power := by unfold Dev.modCtx; split <;> rfl
@[simp] theorem Dev.modCtx_clock (d : Dev) (k : Ctx) (f : Context → Context) : (d.modCtx k f).clock = d.clock := by unfold Dev.modCtx; split <;> rfl
@[simp] theorem Dev.modCtx_links (d : Dev) (k : Ctx) (f : Context → Context) : (d.modCtx k f).links = d.links := by unfold Dev.modCtx; split <;> rfl
@[simp] theorem Dev.modCtx_cycleEvents (d : Dev) (k : Ctx) (f : Context → Context) : (d.modCtx k f).cycleEvents = d.cycleEvents := by unfold Dev.modCtx; split <;> rfl
@[simp] theorem Dev.modCtx_obs (d : Dev) (k : Ctx) (f : Context → Context) : (d.modCtx k f).obs = d.obs := by unfold Dev.modCtx; split <;> rfl
@[simp] theorem Dev.modCtx_burstWait (d : Dev) (k : Ctx) (f : Context → Context) : (d.modCtx k f).burstWait = d.burstWait := by unfold Dev.modCtx; split <;> rfl
@[simp] theorem Dev.modCtx_coreOpen (d : Dev) (k : Ctx) (f : Context → Context) : (d.modCtx k f).coreOpen = d.coreOpen := by unfold Dev.modCtx; split <;> rfl
@[simp] theorem Dev.modCtx_dt (d : Dev) (k : Ctx) (f : Context → Context) : (d.modCtx k f).dt = d.dt := by unfold Dev.modCtx; split <;> rfl
@[simp] theorem Dev.modCtx_free (d : Dev) (k : Ctx) (f : Context → Context) : (d.modCtx k f).free = d.free := by unfold Dev.modCtx; split <;> rfl
@[simp] theorem Dev.modCtx_shadow (d : Dev) (k : Ctx) (f : Context → Context) : (d.modCtx k f).shadow = d.shadow := by unfold Dev.modCtx; split <;> rfl
@[simp] theorem Dev.modCtx_shadowWin (d : Dev) (k : Ctx) (f : Context → Context) : (d.modCtx k f).shadowWin = d.shadowWin := by unfold Dev.modCtx; split <;> rfl

@[simp] theorem Dev.flushSst_ctl (d : Dev) (k : Ctx) (i : Nat) : (d.flushSst k i).ctl = d.ctl := by unfold Dev.flushSst; dsimp only; split <;> simp
@[simp] theorem Dev.flushSst_mem (d : Dev) (k : Ctx) (i : Nat) : (d.flushSst k i).mem = d.mem := by unfold Dev.flushSst; dsimp only; split <;> simp
@[simp] theorem Dev.flushSst_marks (d : Dev) (k : Ctx) (i : Nat) : (d.flushSst k i).marks = d.marks := by unfold Dev.flushSst; dsimp only; split <;> simp
@[simp] theorem Dev.flushSst_regions (d : Dev) (k : Ctx) (i : Nat) : (d.flushSst k i).regions = d.regions := by unfold Dev.flushSst; dsimp only; split <;> simp
@[simp] theorem Dev.flushSst_chans (d : Dev) (k : Ctx) (i : Nat) : (d.flushSst k i).chans = d.chans := by unfold Dev.flushSst; dsimp only; split <;> simp
@[simp] theorem Dev.flushSst_piles (d : Dev) (k : Ctx) (i : Nat) : (d.flushSst k i).piles = d.piles := by unfold Dev.flushSst; dsimp only; split <;> simp
@[simp] theorem Dev.flushSst_tasks (d : Dev) (k : Ctx) (i : Nat) : (d.flushSst k i).tasks = d.tasks := by unfold Dev.flushSst; dsimp only; split <;> simp
@[simp] theorem Dev.flushSst_net (d : Dev) (k : Ctx) (i : Nat) : (d.flushSst k i).net = d.net := by unfold Dev.flushSst; dsimp only; split <;> simp
@[simp] theorem Dev.flushSst_lamp (d : Dev) (k : Ctx) (i : Nat) : (d.flushSst k i).lamp = d.lamp := by unfold Dev.flushSst; dsimp only; split <;> simp
@[simp] theorem Dev.flushSst_ember (d : Dev) (k : Ctx) (i : Nat) : (d.flushSst k i).ember = d.ember := by unfold Dev.flushSst; dsimp only; split <;> simp
@[simp] theorem Dev.flushSst_sec (d : Dev) (k : Ctx) (i : Nat) : (d.flushSst k i).sec = d.sec := by unfold Dev.flushSst; dsimp only; split <;> simp
@[simp] theorem Dev.flushSst_twin (d : Dev) (k : Ctx) (i : Nat) : (d.flushSst k i).twin = d.twin := by unfold Dev.flushSst; dsimp only; split <;> simp
@[simp] theorem Dev.flushSst_power (d : Dev) (k : Ctx) (i : Nat) : (d.flushSst k i).power = d.power := by unfold Dev.flushSst; dsimp only; split <;> simp
@[simp] theorem Dev.flushSst_clock (d : Dev) (k : Ctx) (i : Nat) : (d.flushSst k i).clock = d.clock := by unfold Dev.flushSst; dsimp only; split <;> simp
@[simp] theorem Dev.flushSst_links (d : Dev) (k : Ctx) (i : Nat) : (d.flushSst k i).links = d.links := by unfold Dev.flushSst; dsimp only; split <;> simp
@[simp] theorem Dev.flushSst_cycleEvents (d : Dev) (k : Ctx) (i : Nat) : (d.flushSst k i).cycleEvents = d.cycleEvents := by unfold Dev.flushSst; dsimp only; split <;> simp
@[simp] theorem Dev.flushSst_obs (d : Dev) (k : Ctx) (i : Nat) : (d.flushSst k i).obs = d.obs := by unfold Dev.flushSst; dsimp only; split <;> simp
@[simp] theorem Dev.flushSst_burstWait (d : Dev) (k : Ctx) (i : Nat) : (d.flushSst k i).burstWait = d.burstWait := by unfold Dev.flushSst; dsimp only; split <;> simp
@[simp] theorem Dev.flushSst_coreOpen (d : Dev) (k : Ctx) (i : Nat) : (d.flushSst k i).coreOpen = d.coreOpen := by unfold Dev.flushSst; dsimp only; split <;> simp
@[simp] theorem Dev.flushSst_dt (d : Dev) (k : Ctx) (i : Nat) : (d.flushSst k i).dt = d.dt := by unfold Dev.flushSst; dsimp only; split <;> simp
@[simp] theorem Dev.flushSst_free (d : Dev) (k : Ctx) (i : Nat) : (d.flushSst k i).free = d.free := by unfold Dev.flushSst; dsimp only; split <;> simp
@[simp] theorem Dev.flushSst_shadow (d : Dev) (k : Ctx) (i : Nat) : (d.flushSst k i).shadow = d.shadow := by unfold Dev.flushSst; dsimp only; split <;> simp
@[simp] theorem Dev.flushSst_shadowWin (d : Dev) (k : Ctx) (i : Nat) : (d.flushSst k i).shadowWin = d.shadowWin := by unfold Dev.flushSst; dsimp only; split <;> simp

@[simp] theorem Dev.flushAllSst_ctl (d : Dev) (k : Ctx) : (d.flushAllSst k).ctl = d.ctl := by unfold Dev.flushAllSst; dsimp only; split <;> simp
@[simp] theorem Dev.flushAllSst_mem (d : Dev) (k : Ctx) : (d.flushAllSst k).mem = d.mem := by unfold Dev.flushAllSst; dsimp only; split <;> simp
@[simp] theorem Dev.flushAllSst_marks (d : Dev) (k : Ctx) : (d.flushAllSst k).marks = d.marks := by unfold Dev.flushAllSst; dsimp only; split <;> simp
@[simp] theorem Dev.flushAllSst_regions (d : Dev) (k : Ctx) : (d.flushAllSst k).regions = d.regions := by unfold Dev.flushAllSst; dsimp only; split <;> simp
@[simp] theorem Dev.flushAllSst_chans (d : Dev) (k : Ctx) : (d.flushAllSst k).chans = d.chans := by unfold Dev.flushAllSst; dsimp only; split <;> simp
@[simp] theorem Dev.flushAllSst_piles (d : Dev) (k : Ctx) : (d.flushAllSst k).piles = d.piles := by unfold Dev.flushAllSst; dsimp only; split <;> simp
@[simp] theorem Dev.flushAllSst_tasks (d : Dev) (k : Ctx) : (d.flushAllSst k).tasks = d.tasks := by unfold Dev.flushAllSst; dsimp only; split <;> simp
@[simp] theorem Dev.flushAllSst_net (d : Dev) (k : Ctx) : (d.flushAllSst k).net = d.net := by unfold Dev.flushAllSst; dsimp only; split <;> simp
@[simp] theorem Dev.flushAllSst_lamp (d : Dev) (k : Ctx) : (d.flushAllSst k).lamp = d.lamp := by unfold Dev.flushAllSst; dsimp only; split <;> simp
@[simp] theorem Dev.flushAllSst_ember (d : Dev) (k : Ctx) : (d.flushAllSst k).ember = d.ember := by unfold Dev.flushAllSst; dsimp only; split <;> simp
@[simp] theorem Dev.flushAllSst_sec (d : Dev) (k : Ctx) : (d.flushAllSst k).sec = d.sec := by unfold Dev.flushAllSst; dsimp only; split <;> simp
@[simp] theorem Dev.flushAllSst_twin (d : Dev) (k : Ctx) : (d.flushAllSst k).twin = d.twin := by unfold Dev.flushAllSst; dsimp only; split <;> simp
@[simp] theorem Dev.flushAllSst_power (d : Dev) (k : Ctx) : (d.flushAllSst k).power = d.power := by unfold Dev.flushAllSst; dsimp only; split <;> simp
@[simp] theorem Dev.flushAllSst_clock (d : Dev) (k : Ctx) : (d.flushAllSst k).clock = d.clock := by unfold Dev.flushAllSst; dsimp only; split <;> simp
@[simp] theorem Dev.flushAllSst_links (d : Dev) (k : Ctx) : (d.flushAllSst k).links = d.links := by unfold Dev.flushAllSst; dsimp only; split <;> simp
@[simp] theorem Dev.flushAllSst_cycleEvents (d : Dev) (k : Ctx) : (d.flushAllSst k).cycleEvents = d.cycleEvents := by unfold Dev.flushAllSst; dsimp only; split <;> simp
@[simp] theorem Dev.flushAllSst_obs (d : Dev) (k : Ctx) : (d.flushAllSst k).obs = d.obs := by unfold Dev.flushAllSst; dsimp only; split <;> simp
@[simp] theorem Dev.flushAllSst_burstWait (d : Dev) (k : Ctx) : (d.flushAllSst k).burstWait = d.burstWait := by unfold Dev.flushAllSst; dsimp only; split <;> simp
@[simp] theorem Dev.flushAllSst_coreOpen (d : Dev) (k : Ctx) : (d.flushAllSst k).coreOpen = d.coreOpen := by unfold Dev.flushAllSst; dsimp only; split <;> simp
@[simp] theorem Dev.flushAllSst_dt (d : Dev) (k : Ctx) : (d.flushAllSst k).dt = d.dt := by unfold Dev.flushAllSst; dsimp only; split <;> simp
@[simp] theorem Dev.flushAllSst_free (d : Dev) (k : Ctx) : (d.flushAllSst k).free = d.free := by unfold Dev.flushAllSst; dsimp only; split <;> simp
@[simp] theorem Dev.flushAllSst_shadow (d : Dev) (k : Ctx) : (d.flushAllSst k).shadow = d.shadow := by unfold Dev.flushAllSst; dsimp only; split <;> simp
@[simp] theorem Dev.flushAllSst_shadowWin (d : Dev) (k : Ctx) : (d.flushAllSst k).shadowWin = d.shadowWin := by unfold Dev.flushAllSst; dsimp only; split <;> simp

end Sys2Proof.Machine
end

