-- ==== Sys2Proof/Laws/Ops.lean ====
section
/-! SUPPORT. What the named operations over control-space words, data space, cores and contexts do: reads after writes, and the canonical form
of the maps that they write. -/

namespace Sys2Proof.Machine

/-! ### Control-space words -/

/-- A word reads as it was written. -/
@[simp] theorem Dev.rd_wr_self (d : Dev) (a : Nat) (v : W32) : (d.wr a v).rd a = v := sget_sset_self _ _ _ _
/-- A write of one word leaves every other. -/
theorem Dev.rd_wr_ne (d : Dev) (a b : Nat) (v : W32) (h : b ≠ a) : (d.wr a v).rd b = d.rd b := sget_sset_ne _ _ _ _ _ h
/-- A read after a write. -/
theorem Dev.rd_wr (d : Dev) (a b : Nat) (v : W32) : (d.wr a v).rd b = if b = a then v else d.rd b := sget_sset _ _ _ _ _

/-- Equal words read alike. -/
theorem Dev.rd_of_ctl {d e : Dev} (h : d.ctl = e.ctl) (a : Nat) : d.rd a = e.rd a := by unfold Dev.rd; rw [h]

theorem Dev.rd_wr64_lo (d : Dev) (a v : Nat) : (d.wr64 a v).rd a = BitVec.ofNat 32 v := by
  unfold Dev.wr64
  rw [Dev.rd_wr_ne _ _ _ _ (by omega), Dev.rd_wr_self]

theorem Dev.rd_wr64_hi (d : Dev) (a v : Nat) : (d.wr64 a v).rd (a + 4) = BitVec.ofNat 32 (v / 2 ^ 32) := Dev.rd_wr_self _ _ _

/-- A 64-bit register written changes its two words only. -/
theorem Dev.rd_wr64_ne (d : Dev) (a b v : Nat) (h : b ≠ a) (h' : b ≠ a + 4) : (d.wr64 a v).rd b = d.rd b := by
  unfold Dev.wr64
  rw [Dev.rd_wr_ne _ _ _ _ h', Dev.rd_wr_ne _ _ _ _ h]

/-- A 64-bit register reads as it was written, modulo 2^64. -/
theorem Dev.rd64_wr64_self (d : Dev) (a v : Nat) : (d.wr64 a v).rd64 a = v % 2 ^ 64 := by
  unfold Dev.rd64
  rw [Dev.rd_wr64_lo, Dev.rd_wr64_hi]
  simp only [BitVec.toNat_ofNat]
  omega

/-- A write of one word leaves a 64-bit register that does not hold it. -/
theorem Dev.rd64_wr_ne (d : Dev) (a b : Nat) (v : W32) (h : b ≠ a) (h' : b + 4 ≠ a) : (d.wr a v).rd64 b = d.rd64 b := by
  unfold Dev.rd64
  rw [Dev.rd_wr_ne _ _ _ _ h, Dev.rd_wr_ne _ _ _ _ h']

theorem Dev.rd64_wr64_ne (d : Dev) (a b v : Nat) (h1 : b ≠ a) (h2 : b ≠ a + 4) (h3 : b + 4 ≠ a) : (d.wr64 a v).rd64 b = d.rd64 b := by
  unfold Dev.rd64
  rw [Dev.rd_wr64_ne _ _ _ _ h1 h2, Dev.rd_wr64_ne _ _ _ _ h3 (by omega)]

/-- A register of 64 bits is less than 2^64. -/
theorem Dev.rd64_lt (d : Dev) (a : Nat) : d.rd64 a < 2 ^ 64 := by
  have h1 := (d.rd a).isLt
  have h2 := (d.rd (a + 4)).isLt
  unfold Dev.rd64
  omega

/-- A 64-bit counter adds and saturates. -/
theorem Dev.rd64_inc64_self (d : Dev) (a n : Nat) : (d.inc64 a n).rd64 a = satTo 64 (d.rd64 a + n) := by
  unfold Dev.inc64
  rw [Dev.rd64_wr64_self]
  unfold satTo
  omega

theorem Dev.rd_inc64_ne (d : Dev) (a b n : Nat) (h : b ≠ a) (h' : b ≠ a + 4) : (d.inc64 a n).rd b = d.rd b := Dev.rd_wr64_ne _ _ _ _ h h'

@[simp] theorem Dev.rd_setBit_self (d : Dev) (a i : Nat) : (d.setBit a i).rd a = d.rd a ||| (1 <<< i) := Dev.rd_wr_self _ _ _
theorem Dev.rd_setBit_ne (d : Dev) (a b i : Nat) (h : b ≠ a) : (d.setBit a i).rd b = d.rd b := Dev.rd_wr_ne _ _ _ _ h
@[simp] theorem Dev.rd_clrBit_self (d : Dev) (a i : Nat) : (d.clrBit a i).rd a = d.rd a &&& ~~~ ((1 : W32) <<< i) := Dev.rd_wr_self _ _ _
theorem Dev.rd_clrBit_ne (d : Dev) (a b i : Nat) (h : b ≠ a) : (d.clrBit a i).rd b = d.rd b := Dev.rd_wr_ne _ _ _ _ h
theorem Dev.rd_setFld_ne (d : Dev) (a b hi lo x : Nat) (h : b ≠ a) : (d.setFld a hi lo x).rd b = d.rd b := Dev.rd_wr_ne _ _ _ _ h

/-- A bit that was set is set. -/
theorem Dev.flag_setBit_self (d : Dev) (a i : Nat) (h : i < 32) : (d.setBit a i).flag a i = true := by
  unfold Dev.flag
  rw [Dev.rd_setBit_self, BitVec.getLsbD_or]
  simp only [Bool.or_eq_true]
  right
  show (BitVec.ofNat 32 (1 <<< i)).getLsbD i = true
  simp [BitVec.getLsbD_ofNat, h, Nat.testBit_shiftLeft]

theorem Dev.flag_clrBit_self (d : Dev) (a i : Nat) (h : i < 32) : (d.clrBit a i).flag a i = false := by
  unfold Dev.flag
  rw [Dev.rd_clrBit_self]
  simp [h]

theorem Dev.flag_wr_ne (d : Dev) (a b i : Nat) (v : W32) (h : b ≠ a) : (d.wr a v).flag b i = d.flag b i := by
  unfold Dev.flag; rw [Dev.rd_wr_ne _ _ _ _ h]

/-- Updates of anything but control-space words leave the words. -/
@[simp] theorem Dev.rd_modCore (d : Dev) (n k : Nat) (f : Core → Core) (a : Nat) : (d.modCore n k f).rd a = d.rd a := rfl
@[simp] theorem Dev.rd_modRegion (d : Dev) (n : Nat) (f : Region → Region) (a : Nat) : (d.modRegion n f).rd a = d.rd a := rfl
@[simp] theorem Dev.rd_modChan (d : Dev) (n : Nat) (f : Channel → Channel) (a : Nat) : (d.modChan n f).rd a = d.rd a := rfl
@[simp] theorem Dev.rd_modPile (d : Dev) (n : Nat) (f : Pile → Pile) (a : Nat) : (d.modPile n f).rd a = d.rd a := rfl
@[simp] theorem Dev.rd_modTask (d : Dev) (n : W32) (f : Task → Task) (a : Nat) : (d.modTask n f).rd a = d.rd a := rfl
@[simp] theorem Dev.rd_setCtx (d : Dev) (k : Ctx) (c : Option Context) (a : Nat) : (d.setCtx k c).rd a = d.rd a := rfl
@[simp] theorem Dev.rd_setByte (d : Dev) (b : Nat) (v : Byte) (a : Nat) : (d.setByte b v).rd a = d.rd a := rfl
@[simp] theorem Dev.rd_setMark (d : Dev) (b m a : Nat) : (d.setMark b m).rd a = d.rd a := rfl

/-! ### Units -/

@[simp] theorem Dev.core_modCore_self (d : Dev) (n k : Nat) (f : Core → Core) : (d.modCore n k f).core n k = f (d.core n k) := sget_smod_self _ _ _ _
theorem Dev.core_modCore_ne (d : Dev) (n k m j : Nat) (f : Core → Core) (h : m * 40 + j ≠ n * 40 + k) : (d.modCore n k f).core m j = d.core m j :=
  sget_smod_ne _ _ _ _ _ h
@[simp] theorem Dev.region_modRegion_self (d : Dev) (n : Nat) (f : Region → Region) : (d.modRegion n f).region n = f (d.region n) := sget_smod_self _ _ _ _
theorem Dev.region_modRegion_ne (d : Dev) (n m : Nat) (f : Region → Region) (h : m ≠ n) : (d.modRegion n f).region m = d.region m :=
  sget_smod_ne _ _ _ _ _ h
@[simp] theorem Dev.chan_modChan_self (d : Dev) (n : Nat) (f : Channel → Channel) : (d.modChan n f).chan n = f (d.chan n) := sget_smod_self _ _ _ _
theorem Dev.chan_modChan_ne (d : Dev) (n m : Nat) (f : Channel → Channel) (h : m ≠ n) : (d.modChan n f).chan m = d.chan m := sget_smod_ne _ _ _ _ _ h
@[simp] theorem Dev.pile_modPile_self (d : Dev) (n : Nat) (f : Pile → Pile) : (d.modPile n f).pile n = f (d.pile n) := sget_smod_self _ _ _ _
theorem Dev.pile_modPile_ne (d : Dev) (n m : Nat) (f : Pile → Pile) (h : m ≠ n) : (d.modPile n f).pile m = d.pile m := sget_smod_ne _ _ _ _ _ h

/-- The key of a core tells its region and its number. -/
theorem coreKey_inj {n m : Fin 8} {k j : Fin 40} (h : m.val * 40 + j.val = n.val * 40 + k.val) : m = n ∧ j = k := by
  constructor <;> apply Fin.ext <;> omega

/-- A context that another context's update does not reach. -/
theorem Dev.ctx?_setCtx_ne (d : Dev) (k j : Ctx) (c : Option Context) (h : j ≠ k) : (d.setCtx k c).ctx? j = d.ctx? j := by
  unfold Dev.ctx? Dev.setCtx
  by_cases hc : j.region.val * 40 + j.core.val = k.region.val * 40 + k.core.val
  · obtain ⟨h1, h2⟩ := coreKey_inj hc
    have h3 : k.slot.val ≠ j.slot.val := by
      intro e
      apply h
      cases j; cases k
      simp_all [Fin.ext_iff]
    rw [h1, h2, Dev.core_modCore_self]
    simp [nth, put, List.getD, List.getElem?_set_ne h3]
  · rw [Dev.core_modCore_ne _ _ _ _ _ _ hc]

/-- A context that is there can be replaced. -/
theorem Dev.ctx?_setCtx_self (d : Dev) (k : Ctx) (c x : Context) (h : d.ctx? k = some x) : (d.setCtx k (some c)).ctx? k = some c := by
  unfold Dev.ctx? at h
  unfold Dev.ctx? Dev.setCtx
  rw [Dev.core_modCore_self]
  have hl : k.slot.val < (d.core k.region k.core).slots.length := by
    by_contra hn
    have : (d.core k.region k.core).slots.length ≤ k.slot.val := by omega
    simp [nth, List.getD, List.getElem?_eq_none this] at h
  simp [nth, put, List.getD, hl]

theorem Dev.ctx?_modCtx_ne (d : Dev) (k j : Ctx) (f : Context → Context) (h : j ≠ k) : (d.modCtx k f).ctx? j = d.ctx? j := by
  unfold Dev.modCtx
  split
  · rfl
  · exact Dev.ctx?_setCtx_ne d k j _ h

/-- The context in a slot after a change of it. -/
theorem Dev.ctx?_modCtx_self (d : Dev) (k : Ctx) (f : Context → Context) : (d.modCtx k f).ctx? k = (d.ctx? k).map f := by
  unfold Dev.modCtx
  split
  · rename_i h; rw [h]; rfl
  · rename_i c h; rw [h]; exact Dev.ctx?_setCtx_self d k _ c h

theorem Dev.ctx_modCtx_self (d : Dev) (k : Ctx) (f : Context → Context) (h : (d.ctx? k).isSome) : (d.modCtx k f).ctx k = f (d.ctx k) := by
  unfold Dev.ctx
  rw [Dev.ctx?_modCtx_self]
  obtain ⟨c, hc⟩ := Option.isSome_iff_exists.mp h
  simp [hc]

@[simp] theorem Dev.rd_modCtx (d : Dev) (k : Ctx) (f : Context → Context) (a : Nat) : (d.modCtx k f).rd a = d.rd a := by
  unfold Dev.modCtx; split <;> rfl
@[simp] theorem Dev.byte_modCtx (d : Dev) (k : Ctx) (f : Context → Context) (a : Nat) : (d.modCtx k f).byte a = d.byte a := by
  unfold Dev.modCtx; split <;> rfl

/-! ### Data space -/

/-- A byte reads as it was written. -/
@[simp] theorem Dev.byte_setByte_self (d : Dev) (a : Nat) (v : Byte) : (d.setByte a v).byte a = v := sget_sset_self _ _ _ _
theorem Dev.byte_setByte_ne (d : Dev) (a b : Nat) (v : Byte) (h : b ≠ a) : (d.setByte a v).byte b = d.byte b := sget_sset_ne _ _ _ _ _ h

theorem sget_foldl_ne (cells : List (Nat × Byte)) (m : Sparse Byte) (b : Nat) (h : ∀ p ∈ cells, p.1 ≠ b) :
    sget memByte (cells.foldl (fun m p => sset memByte m p.1 p.2) m) b = sget memByte m b := by
  induction cells generalizing m with
  | nil => rfl
  | cons p cells ih =>
    rw [List.foldl_cons, ih _ fun q hq => h q (List.mem_cons_of_mem _ hq)]
    exact sget_sset_ne _ _ _ _ _ fun e => h p List.mem_cons_self e.symm

@[simp] theorem Dev.writeCells_mem (d : Dev) (cells : List (Nat × Byte)) :
    (d.writeCells cells).mem = cells.foldl (fun m p => sset memByte m p.1 p.2) d.mem := by
  unfold Dev.writeCells; dsimp only; split <;> rfl

/-- A write of cells leaves every byte that none of them names. -/
theorem Dev.byte_writeCells_ne (d : Dev) (cells : List (Nat × Byte)) (b : Nat) (h : ∀ p ∈ cells, p.1 ≠ b) : (d.writeCells cells).byte b = d.byte b := by
  unfold Dev.byte; rw [Dev.writeCells_mem]; exact sget_foldl_ne cells _ b h

theorem mem_cellsAt (a : Nat) (bs : List Byte) (p : Nat × Byte) : p ∈ cellsAt a bs ↔ ∃ i, i < bs.length ∧ p = (a + i, bs.getD i 0) := by
  simp [cellsAt, upto, eq_comm]

/-- A run of bytes written leaves every byte outside it. -/
theorem Dev.byte_writeBytes_ne (d : Dev) (a : Nat) (bs : List Byte) (b : Nat) (h : b < a ∨ a + bs.length ≤ b) : (d.writeBytes a bs).byte b = d.byte b := by
  apply Dev.byte_writeCells_ne
  intro p hp
  obtain ⟨i, hi, rfl⟩ := (mem_cellsAt a bs p).mp hp
  dsimp only
  omega

theorem sget_foldl_cellsAt (a : Nat) (bs : List Byte) (n : Nat) (m : Sparse Byte) (i : Nat) (hi : i < n) :
    sget memByte (((upto n).map fun i => (a + i, bs.getD i 0)).foldl (fun m p => sset memByte m p.1 p.2) m) (a + i) = bs.getD i 0 := by
  induction n with
  | zero => omega
  | succ n ih =>
    rw [upto, List.range_succ, List.map_append, List.foldl_append]
    simp only [List.map_cons, List.map_nil, List.foldl_cons, List.foldl_nil]
    rcases Nat.lt_or_ge i n with h | h
    · rw [sget_sset_ne _ _ _ _ _ (by omega)]
      exact ih h
    · have : i = n := by omega
      subst this
      exact sget_sset_self _ _ _ _

/-- A run of bytes reads as it was written. -/
theorem Dev.byte_writeBytes_self (d : Dev) (a : Nat) (bs : List Byte) (i : Nat) (hi : i < bs.length) : (d.writeBytes a bs).byte (a + i) = bs.getD i 0 := by
  unfold Dev.byte Dev.writeBytes
  rw [Dev.writeCells_mem]
  exact sget_foldl_cellsAt a bs bs.length d.mem i hi

/-! ### The canonical form -/

/-- The canonical form of data space and of its marks. -/
def Dev.memWf (d : Dev) : Bool := Memory.wf d.mem && swf (fun _ => 0) d.marks

theorem Dev.memWf_setByte (d : Dev) (a : Nat) (v : Byte) (h : d.memWf = true) : (d.setByte a v).memWf = true := by
  simp only [Dev.memWf, Memory.wf, Bool.and_eq_true] at h ⊢
  exact ⟨swf_sset _ _ _ _ h.1, h.2⟩

theorem Dev.memWf_setMark (d : Dev) (a m : Nat) (h : d.memWf = true) : (d.setMark a m).memWf = true := by
  simp only [Dev.memWf, Memory.wf, Bool.and_eq_true] at h ⊢
  exact ⟨h.1, swf_sset _ _ _ _ h.2⟩

theorem Dev.memWf_writeCells (d : Dev) (cells : List (Nat × Byte)) (h : d.memWf = true) : (d.writeCells cells).memWf = true := by
  simp only [Dev.memWf, Memory.wf, Bool.and_eq_true] at h ⊢
  constructor
  · rw [Dev.writeCells_mem]
    exact swf_foldl_sset memByte (fun p : Nat × Byte => p.1) (fun p => p.2) cells d.mem h.1
  · unfold Dev.writeCells
    dsimp only
    split
    · exact h.2
    · exact swf_filter _ _ _ h.2

theorem Dev.memWf_writeBytes (d : Dev) (a : Nat) (bs : List Byte) (h : d.memWf = true) : (d.writeBytes a bs).memWf = true :=
  Dev.memWf_writeCells d _ h

theorem Dev.memWf_eraseRange (d : Dev) (a n : Nat) (h : d.memWf = true) : (d.eraseRange a n).memWf = true := by
  simp only [Dev.memWf, Memory.wf, Bool.and_eq_true] at h ⊢
  exact ⟨swf_filter _ _ _ h.1, swf_filter _ _ _ h.2⟩

theorem State.reset_memWf : State.reset.dev.memWf = true := rfl

theorem Dev.ctlWf_wr (d : Dev) (a : Nat) (v : W32) (h : swf regReset d.ctl = true) : swf regReset (d.wr a v).ctl = true := swf_sset _ _ _ _ h

end Sys2Proof.Machine
end

