-- ==== Sys2Proof/Laws/Bundle.lean ====
section
/-! SUPPORT. Everything that the shared operations of commands can do: an operation of a bundle, and an event. -/

namespace Sys2Proof.Machine

/-- An operation that executes ends as `finish` says. -/
theorem issueOp_acts {s : State} {slot : Nat} {k : Ctx} {d0 d : Dev} (h : s.Acts slot k d0 d) (op : Dev → Dev → OpRes) :
    issueOp slot k op s = .next (s.finish slot k d0 (op d0 d)) := by
  unfold issueOp
  obtain h1 | ⟨h1, h2, h3, h4, rfl, rfl⟩ := h
  · rw [h1]
  · rw [h1]; dsimp only; rw [if_pos h2, h3]; dsimp only; rw [h4]; rfl

/-- An operation that executes and completes. -/
theorem issueOp_ok {s : State} {slot : Nat} {k : Ctx} {d0 d e : Dev} (h : s.Acts slot k d0 d) {op : Dev → Dev → OpRes} (ho : op d0 d = .ok e) :
    issueOp slot k op s = .next (s.after slot k d0 e) := by rw [issueOp_acts h, ho]; rfl

/-- An operation that executes and faults. -/
theorem issueOp_fault {s : State} {slot : Nat} {k : Ctx} {d0 d : Dev} (h : s.Acts slot k d0 d) {op : Dev → Dev → OpRes} {st : Status} {post : Post}
    (ho : op d0 d = .fault st post) : issueOp slot k op s = .next (s.abortedBy k d0 st post) := by rw [issueOp_acts h, ho]; rfl

/-- An operation that executes and holds its bundle. -/
theorem issueOp_hold {s : State} {slot : Nat} {k : Ctx} {d0 d : Dev} (h : s.Acts slot k d0 d) {op : Dev → Dev → OpRes} {x : Hold}
    (ho : op d0 d = .hold x) : issueOp slot k op s = .next (s.heldBy k d0 x) := by rw [issueOp_acts h, ho]; rfl

/-- An operation that only changes its context. -/
theorem issueOp_ctxOp {s : State} {slot : Nat} {k : Ctx} {d0 d : Dev} (h : s.Acts slot k d0 d) (f : Context → Context) :
    issueOp slot k (ctxOp k f) s = .next (s.after slot k d0 (d.modCtx k f)) := issueOp_ok h rfl

/-- Every outcome of an operation: it executes, or its bundle waits for a result, or a due SST write to a pinned row aborts its task, or its context
may not issue. -/
theorem issueOp_cases (slot : Nat) (k : Ctx) (op : Dev → Dev → OpRes) (s : State) :
    (∃ d0 d, s.Acts slot k d0 d ∧ issueOp slot k op s = .next (s.finish slot k d0 (op d0 d))) ∨
    (∃ p, issueOp slot k op s = .next { s with dev := s.dev.dueHold k p, base := none }) ∨
    issueOp slot k op s = .next { s with dev := s.dev.settleSst k (s.dev.ctx k).cyc, base := none } ∨
    issueOp slot k op s = .next { s with base := none } := by
  unfold issueOp
  cases h1 : s.joins slot k with
  | some p => exact .inl ⟨p.1, p.2, .inl h1, rfl⟩
  | none =>
    dsimp only
    by_cases h2 : s.dev.mayIssue k = true
    · rw [if_pos h2]
      cases h3 : (s.dev.ctx k).unarrived (s.dev.ctx k).cyc with
      | nil =>
        dsimp only
        cases h4 : s.dev.sstPinned k (s.dev.ctx k).cyc with
        | false => exact .inl ⟨s.dev, s.dev.issue k, .inr ⟨h1, h2, h3, h4, rfl, rfl⟩, rfl⟩
        | true => exact .inr (.inr (.inl rfl))
      | cons p ps => exact .inr (.inl ⟨p, rfl⟩)
    · rw [if_neg h2]
      exact .inr (.inr (.inr rfl))

/-- An operation answers a next state. -/
theorem issueOp_next (slot : Nat) (k : Ctx) (op : Dev → Dev → OpRes) (s : State) : ∃ t, issueOp slot k op s = .next t := by
  rcases issueOp_cases slot k op s with ⟨d0, d, -, h⟩ | ⟨p, h⟩ | h | h <;> exact ⟨_, h⟩

/-- An operation keeps the queue. -/
theorem issueOp_pending {slot : Nat} {k : Ctx} {op : Dev → Dev → OpRes} {s t : State} (h : issueOp slot k op s = .next t) : t.pending = s.pending := by
  rcases issueOp_cases slot k op s with ⟨d0, d, -, e⟩ | ⟨p, e⟩ | e | e
  · rw [e] at h; cases h; cases op d0 d <;> rfl
  · rw [e] at h; cases h; rfl
  · rw [e] at h; cases h; rfl
  · rw [e] at h; cases h; rfl

/-- What an event does. -/
theorem event_eq (f : Dev → Dev) (s : State) : event f s = .next { s with dev := f s.dev, base := none } := rfl

theorem encoded_true {ok : Bool} (h : ok = true) (r : Out) : encoded ok r = r := by unfold encoded; rw [if_pos h]
theorem encoded_false {ok : Bool} (h : ok = false) (r : Out) : encoded ok r = .refused .undefinedEncoding := by unfold encoded; rw [h]; rfl

end Sys2Proof.Machine
end

