-- ==== Sys2Proof/Laws/Access.lean ====
section
/-! SUPPORT. The checks of accesses: when each lets an access pass. -/

namespace Sys2Proof.Machine

@[simp] theorem firstRefusal_nil : firstRefusal [] = none := rfl
@[simp] theorem firstRefusal_none (l : List Refuse) : firstRefusal (none :: l) = firstRefusal l := rfl
@[simp] theorem firstRefusal_some (r : Status × Post) (l : List Refuse) : firstRefusal (some r :: l) = some r := rfl
@[simp] theorem refuseIf_false (st : Status) : refuseIf false st = none := rfl
@[simp] theorem refuseIf_true (st : Status) : refuseIf true st = some (st, noPost) := rfl
@[simp] theorem guardOp_none (f : OpRes) : guardOp none f = f := rfl
@[simp] theorem guardOp_some (st : Status) (post : Post) (f : OpRes) : guardOp (some (st, post)) f = .fault st post := rfl

/-- Checks that all pass. -/
theorem firstRefusal_all_none (l : List Refuse) (h : ∀ r ∈ l, r = none) : firstRefusal l = none := by
  induction l with
  | nil => rfl
  | cons r l ih =>
    rw [h r List.mem_cons_self, firstRefusal_none]
    exact ih fun x hx => h x (List.mem_cons_of_mem _ hx)

/-- A legal address of a core's access passes. -/
theorem coreAddr_none {d : Dev} {k : Ctx} {a n al : Nat} (h1 : a % al = 0) (h2 : inStore a = true) (h3 : inOneStore a n = true)
    (h4 : (d.core k.region k.core).fixedPipe = true → regionOf a = k.region.val) : d.coreAddr k a n al = none := by
  unfold Dev.coreAddr
  by_cases hp : (d.core k.region k.core).fixedPipe = true
  · simp [h1, h2, h3, hp, h4 hp]
  · simp [h1, h2, h3, hp]

/-- A misaligned address of a core's access is refused. -/
theorem coreAddr_misaligned {d : Dev} {k : Ctx} {a n al : Nat} (h : a % al ≠ 0) : d.coreAddr k a n al = some (0x5001, noPost) := by
  unfold Dev.coreAddr
  rw [show (a % al != 0) = true by simpa using h]; rfl

/-- An aligned address outside the region stores is refused. -/
theorem coreAddr_outside {d : Dev} {k : Ctx} {a n al : Nat} (h : a % al = 0) (h' : inStore a = false) : d.coreAddr k a n al = some (0x5002, noPost) := by
  unfold Dev.coreAddr; simp [h, h']

/-- Bytes of powered groups without marks can be read. -/
theorem storeRead_none {d : Dev} {a n : Nat} {narrow : Bool} (h1 : d.anyOff a n = false) (h2 : narrow = true → d.anyFenced a n = false)
    (h3 : d.markIn a n = 0) : d.storeRead a n narrow = none := by
  unfold Dev.storeRead Dev.markRefusal
  cases narrow with
  | false => simp [h1, h3]
  | true => simp [h1, h2 rfl, h3]

/-- A read of a group that is off is refused. -/
theorem storeRead_off {d : Dev} {a n : Nat} {narrow : Bool} (h1 : d.anyOff a n = true) : d.storeRead a n narrow = some (0x5003, noPost) := by
  unfold Dev.storeRead; simp [h1]

/-- Whole words can be written over uncorrectable ones. -/
theorem runRefusal_whole {d : Dev} {a n : Nat} (h1 : a % 4 = 0) (h2 : n % 4 = 0) : d.runRefusal a n = none := by
  unfold Dev.runRefusal
  have h : (d.marks.filter fun p => p.2 == 2 && decide (a / 4 ≤ p.1) && decide (4 * p.1 < a + n) &&
      (decide (4 * p.1 < a) || decide (a + n < 4 * p.1 + 4))) = [] := by
    rw [List.filter_eq_nil_iff]
    intro p _ hp
    simp only [Bool.and_eq_true, Bool.or_eq_true, decide_eq_true_eq] at hp
    omega
  rw [h]

/-- Bytes of powered groups that no window closes to the writer can be written, when no uncorrectable word is replaced in part. -/
theorem storeWrite_none {d : Dev} {w : Writer} {a n : Nat} {narrow : Bool} (h1 : d.anyOff a n = false) (h2 : narrow = true → d.anyFenced a n = false)
    (h3 : (d.hitchCheck w a n).1 = true) (h4 : d.runRefusal a n = none) : d.storeWrite w a n narrow = none := by
  unfold Dev.storeWrite
  cases narrow with
  | false => simp [h1, h3, h4]
  | true => simp [h1, h2 rfl, h3, h4]

/-- The byte that a list of cells leaves at an address: the last cell that names it, or what stood there. -/
theorem Dev.byte_writeCells (d : Dev) (cells : List (Nat × Byte)) (a : Nat) :
    (d.writeCells cells).byte a = ((cells.reverse.find? fun p => p.1 == a).map fun p => p.2).getD (d.byte a) := by
  unfold Dev.byte
  rw [Dev.writeCells_mem]
  induction cells using List.reverseRecOn with
  | nil => rfl
  | append_singleton l p ih =>
    rw [List.foldl_append, List.reverse_append]
    simp only [List.foldl_cons, List.foldl_nil, List.reverse_cons, List.reverse_nil, List.nil_append, List.singleton_append, List.find?_cons]
    by_cases h : p.1 = a
    · subst h; simp
    · have h1 : (p.1 == a) = false := by simpa using h
      rw [h1, sget_sset_ne _ _ _ _ _ fun e => h e.symm]
      exact ih

end Sys2Proof.Machine
end

