-- ==== Sys2Proof/Tests/Slice0.lean ====
section
/-! SUPPORT. Tests: terms that WellFormed refuses, values taken from the spec, and for every obligation with hypotheses a witness that concrete
states and operands meet them. -/

namespace Sys2Proof.Tests

open Sys2Proof Sys2Proof.Machine

-- One theorem at a time: the kernel evaluations below are many.
set_option Elab.async false

/-! ### Small states -/

/-- Slot 0 of core 0 of region 0. -/
def tk : Ctx := { region := 0, core := 0, slot := 0 }

/-- A context of task 1 that may issue, with the given scalar registers. -/
def cx (rs : List (Fin 64 × W64) := []) : Context :=
  rs.foldl (fun c p => c.write (.s p.1 p.2)) { task := 1, rank := 0, active := true }

/-- A device on which context `c` runs as `tk`. -/
def dv (c : Context) : Dev := (({} : Dev).setCtx tk (some c)).modCore 0 0 fun co => { co with running := some 0 }

/-- The state of device `d` with an empty queue and no bundle in progress. -/
def st (d : Dev) : State := { dev := d, base := none, pending := [] }

/-- The state after `exec` of a command that answers a next state. -/
def next (s : State) : Out → State
  | .next t => t
  | _ => s

/-- Some state lets an operation of slot `slot` of context `k` execute on a device of which `c` holds. -/
def Meets (slot : Nat) (k : Ctx) (c : Dev → Prop) : Prop := ∃ (s : State) (d0 d : Dev), s.Acts slot k d0 d ∧ c d

theorem meets (slot : Nat) (d : Dev) {c : Dev → Prop} (h1 : d.mayIssue tk = true) (h2 : (d.ctx tk).unarrived (d.ctx tk).cyc = [])
    (h3 : c (d.issue tk)) (h4 : d.sstPinned tk (d.ctx tk).cyc = false := by rfl) : Meets slot tk c :=
  ⟨st d, d, d.issue tk, .inr ⟨rfl, h1, h2, h4, rfl, rfl⟩, h3⟩

/-! ### Ill-formed terms -/

theorem test_illformed_getc : exec (.getc tk 1 11) (st {}) = .refused .undefinedEncoding := rfl
theorem test_illformed_floatOnly : [Instr.vfma tk 1 2 3 0 0, .vdiv tk 1 2 3 0 0, .vsqrt tk 1 2 0 0, .vexp2 tk 1 2 0 0, .vlog2 tk 1 2 0 0].all
    (fun i => !i.wellFormed) = true := by decide
theorem test_illformed_vrmax : (Instr.vrmax tk 1 2 0 2).wellFormed = false ∧ (Instr.vrmax tk 1 2 0 1).wellFormed = true := by decide
theorem test_illformed_vcvt : [Instr.vcvt tk 1 1 1 2 3 0 0, .vcvt tk 7 1 1 2 3 0 0, .vcvt tk 1 7 1 2 3 0 0, .vcvt tk 1 2 1 2 3 0 3].all
    (fun i => !i.wellFormed) = true := by decide
theorem test_illformed_vmxq : (Instr.vmxq tk 0 false 1 2 3 0 3).wellFormed = false := by decide
theorem test_illformed_flicker : [Instr.flkRaw tk 1 3 2 0, .flkTraw tk 1 3 2 0, .flkMask tk 1 3 2 0, .flkTmask tk 1 3 2 0].all
    (fun i => !i.wellFormed) = true := by decide
theorem test_illformed_topen : [Instr.topen tk 13 0 0 0 1, .topen tk 0 13 0 0 1].all (fun i => !i.wellFormed) = true := by decide
theorem test_illformed_tround : [Instr.troundNe tk 1 0 7 1 0, .troundNe tk 1 0 6 1 1, .troundRz tk 1 0 7 1 0, .troundRz tk 1 0 6 1 1,
    .troundSr tk 1 0 7 1 0].all (fun i => !i.wellFormed) = true := by decide
theorem test_illformed_tcow : (Instr.tcow tk 1 2 3 0 3).wellFormed = false := by decide
theorem test_illformed_tprune : [Instr.tpruneI tk 1 2 0 5 1, .tpruneF tk 1 2 0 0 0, .tpruneBf tk 1 2 0 0 4, .tpruneH tk 1 2 0 1 8].all
    (fun i => !i.wellFormed) = true := by decide
theorem test_illformed_rows : (Instr.stag tk 1 0 14).wellFormed = false ∧ (Instr.rowLd tk 1 2 0 14).wellFormed = false := by decide

/-- An ill-formed term is refused by `step` too, and a command in front of the queue runs. -/
theorem test_step_refuses : step { st {} with pending := [.vmxq tk 0 false 1 2 3 0 3] } = .refused .undefinedEncoding := rfl

/-! ### Slots C and V -/

theorem witness_slots : Meets 0 tk (fun _ => True) ∧ Meets 1 tk (fun _ => True) ∧ Meets 2 tk (fun _ => True) ∧ Meets 3 tk (fun _ => True) :=
  ⟨meets 0 (dv (cx)) (by decide) rfl trivial, meets 1 (dv (cx)) (by decide) rfl trivial, meets 2 (dv (cx)) (by decide) rfl trivial,
   meets 3 (dv (cx)) (by decide) rfl trivial⟩

/-- An operation joins a bundle in progress: slot V behind slot C. -/
theorem witness_join : ∃ d0 d, ({ dev := dv cx, base := some ⟨tk, 0, dv cx, dv cx⟩, pending := [] } : State).Acts 1 tk d0 d :=
  ⟨dv cx, dv cx, .inl rfl⟩

/-- R141, R261: END releases the coils of its context, but not before the other slots of its bundle have executed. -/
theorem test_end_releases_last :
    let t := next (st {}) (exec (.endOp tk) (st (dv { cx with coils := [(0, 3, 0)] })))
    (t.dev.ctx tk).coils = [] ∧ (t.base.map fun b => (b.work.ctx tk).coils) = some [(0, 3, 0)] := by decide +kernel

/-- R139: ADDI sign-extends its immediate: 5 + (-1) = 4 is written after 4 issue cycles. -/
theorem test_addi : ((next (st {}) (exec (.addi tk 3 1 0xFFF) (st (dv (cx [(1, 5)]))))).dev.ctx tk).pend.map (fun p => (p.due, p.dest)) =
    [(4, .s 3 4)] := by decide +kernel

/-- R139: division by 0 gives all ones, and its remainder the dividend. -/
theorem test_div0 : ((next (st {}) (exec (.divu tk 3 1 2) (st (dv (cx [(1, 5)]))))).dev.ctx tk).pend.map (fun p => p.dest) =
    [.s 3 0xFFFFFFFFFFFFFFFF] := by decide +kernel

/-- The hypotheses of the branches of R140: a taken and an untaken test, a RET under a call and without one, LOOP with count 0 and more. -/
theorem witness_BranchOperations : Meets 0 tk (fun d => (d.ctx tk).getS 1 = 0 ∧ (d.ctx tk).getS 2 ≠ 0 ∧ ((d.ctx tk).getS 2).toInt < 0 ∧
    (d.ctx tk).calls = [9]) :=
  meets 0 (dv { cx [(2, 0xFFFFFFFFFFFFFFFF)] with calls := [9] }) (by decide) (by decide) (by decide +kernel)

theorem witness_ControlOperations : (10 : Fin 16).val ≤ 10 ∧ 10 < (11 : Fin 16).val ∧ Meets 0 tk (fun _ => True) :=
  ⟨by decide, by decide, witness_slots.1⟩

theorem witness_FloatingAndMaskOperations : (3 : Fin 4) ≠ 0 ∧ (1 : Fin 4).val ≤ 1 ∧ 1 < (2 : Fin 4).val ∧ Meets 1 tk (fun _ => True) :=
  ⟨by decide, by decide, by decide, witness_slots.2.1⟩

theorem witness_ConversionAndFlickerOperations : (0 : Fin 8) ≠ 6 ∧ (0 : Fin 8) ≠ 7 ∧ (6 : Fin 8) ≠ 7 ∧ (2 : Fin 4) ≠ 3 ∧ (62 : Fin 64).val % 2 = 0 ∧
    (63 : Fin 64).val % 2 = 1 ∧ Meets 1 tk (fun _ => True) :=
  ⟨by decide, by decide, by decide, by decide, by decide, by decide, witness_slots.2.1⟩

/-! ### Slot T -/

/-- A chunk of window set 0 in FP32 on both sides, with a preload span in FP32. -/
def chunk0 : Chunk := { w := 0, fa := 6, fb := 6, pre := some 6, target := 1, anchor := 0 }

/-- A device whose context has that chunk open. -/
def dvChunk : Dev := dv { cx [(1, 0)] with chunks := [chunk0] }

/-- A device on which staging row 0 of core 0 has been tagged in format 0. -/
def dvTagged : Dev := (dv (cx [(1, 0)])).modCore 0 0 fun co => co.tagRow 0 0

theorem witness_TensorOperations_topen : Meets 2 tk (fun d => (d.ctx tk).chunk? 0 = none ∧ bit ((d.ctx tk).getS 1).toNat 54 = false ∧
    (d.ctx tk).rowsAwaited = [] ∧ spanRows (field ((d.ctx tk).getS 1).toNat 8 0) (field ((d.ctx tk).getS 1).toNat 17 9 + 1) = [0] ∧
    (d.core 0 0).tagBad (spanCode 0) 0 = false) :=
  meets 2 dvTagged (by decide +kernel) (by decide +kernel) (by decide +kernel)

/-- A tensor dot of one term, a dot with a list of no position, a preload and a close on the open chunk. -/
theorem witness_TensorOperations_dots : Meets 2 tk (fun d => (d.ctx tk).chunk? 0 = some chunk0 ∧ (d.core 0 0).replaying = none ∧
    (d.ctx tk).rowsAwaited = [] ∧ pairAllowed chunk0.fa chunk0.fb = true ∧ chunk0.log.length < 4096 ∧ chunk0.pre.isSome = true ∧
    ({ kind := 0 } : LogOp).scaleOver (d.core 0 0).stageByte chunk0 = false ∧
    ({ kind := 1, pos := (d.core 0 0).positions 0 } : LogOp).scaleOver (d.core 0 0).stageByte chunk0 = false) :=
  meets 2 dvChunk (by decide +kernel) (by decide +kernel) (by decide +kernel)

/-- A device with a replay of window set 0 in progress, whose context holds for it, and one whose context holds for nothing. -/
def dvReplay (hs : List Hold) : Dev :=
  dv { cx with pend := [{ due := 4, iat := 0, slot := 2, dest := .promote 1 [], wait := 5, tag := 0 }], holds := hs }

theorem witness_TensorOperations_replay : ((dvReplay []).ctx tk).replays 0 = true ∧
    (((dvReplay []).replayEnds tk 0).ctx tk).holds.filter ((((dvReplay []).replayEnds tk 0).ctx tk).replayHold 0) = [] ∧
    (let d := dvReplay [{ why := .replay 0, kind := 5, slot := 2 }]
     (d.ctx tk).replays 0 = true ∧ ((d.replayEnds tk 0).ctx tk).holds.filter (((d.replayEnds tk 0).ctx tk).replayHold 0) ≠ []) := by decide +kernel

theorem witness_TensorOperations_faults : Meets 2 tk (fun d => (d.ctx tk).chunk? 1 = none ∧ ((d.ctx tk).chunk? 0).isSome = true ∧
    (d.ctx tk).rowsAwaited = []) ∧
    Meets 2 tk (fun d => (d.ctx tk).chunk? 0 = some { chunk0 with fb := 0 } ∧ pairAllowed chunk0.fa 0 = false ∧ (d.core 0 0).replaying = none ∧
      (d.ctx tk).rowsAwaited = []) :=
  ⟨meets 2 dvChunk (by decide +kernel) (by decide +kernel) (by decide +kernel),
   meets 2 (dv { cx with chunks := [{ chunk0 with fb := 0 }] }) (by decide +kernel) (by decide +kernel) (by decide +kernel)⟩

theorem witness_RoundingOperations : (6 : Fin 8).val ≤ 6 ∧ 6 < (7 : Fin 8).val ∧ (1 : Fin 16) ≠ 0 ∧ Meets 2 tk (fun _ => True) :=
  ⟨by decide, by decide, by decide, witness_slots.2.2.1⟩

/-- A Plait operation of step 5. -/
def plait0 : PlaitOp := { seq := 1, all := false, step := 5, td := 1, acc := LongTotal.zero }

/-- Rank 0 of two ranks, with plait operations in progress and a record of rank 1 on its way. -/
def dvPlait (os : List PlaitOp) (x : PlaitRec) : Dev :=
  { dv { cx with plaits := os } with tasks := [{ id := 1, cores := [0, 1], places := [tk, { tk with core := 1 }], plaits := [x] }] }

/-- A record of rank 1 for rank 0, of the given sequence, step and kind. -/
def plaitRec0 (seq : Nat) (step : W64) (kind : Nat) : PlaitRec := { sender := 1, dest := 0, kind := kind, round := 0, seq := seq, step := step, total := LongTotal.zero }

/-- Seven steps in progress and eight; records that meet their operation, of another sequence, of another kind and of another step. -/
theorem witness_PlaitOperations : Meets 2 tk (fun d => (d.ctx tk).plaits.length < 8) ∧
    Meets 2 tk (fun d => 8 ≤ (d.ctx tk).plaits.length ∧ (d.ctx tk).plaits.head? = some plait0) ∧
    [plaitRec0 1 5 0, plaitRec0 2 5 0, plaitRec0 1 5 1, plaitRec0 1 6 0].all (fun x =>
      let d := dvPlait [plait0] x
      match d.task? (d.ctx tk).task with
      | none => false
      | some t => (d.ctx tk).plaitMeets t 1 == some (plait0, 0) &&
        (t.plaits.find? fun x => !x.received && x.sender == 1 && x.dest == (d.ctx tk).rank) == some x) = true :=
  ⟨meets 2 (dv { cx with plaits := List.replicate 7 plait0 }) (by decide +kernel) (by decide +kernel) (by decide +kernel),
   meets 2 (dv { cx with plaits := List.replicate 8 plait0 }) (by decide +kernel) (by decide +kernel) (by decide +kernel), by decide +kernel⟩

/-- A device whose core 0 has `n` stores in its queue. -/
def dvStores (n : Nat) (rs : List (Fin 64 × W64)) : Dev :=
  (dv (cx rs)).modCore 0 0 fun co => { co with storeQ := List.replicate n { slot := 0, task := 1, iat := 0, cells := [(8, 1)] } }

theorem witness_OutputStageOperations : Meets 2 tk (fun d => (d.core 0 0).storeQ.length < 16 ∧ ((d.ctx tk).getS 1).toNat % 8 = 0 ∧
      inStore ((d.ctx tk).getS 1).toNat = true ∧
      inOneStore ((d.ctx tk).getS 1).toNat (cowSegment 8 ((d.ctx tk).getM 0) ((d.ctx tk).getV 2)).length = true ∧
      regionOf ((d.ctx tk).getS 1).toNat = 0) ∧
    Meets 2 tk (fun d => (d.core 0 0).storeQ.length < 16 ∧ ((d.ctx tk).getS 1).toNat % 8 ≠ 0) ∧ Meets 2 tk (fun d => 16 ≤ (d.core 0 0).storeQ.length) ∧
    (2 : Fin 4).val ≤ 2 ∧ 2 < (3 : Fin 4).val ∧ (63 : Fin 64).val < 4 * 2 ^ (4 : Fin 8).val ∧ 4 < (5 : Fin 8).val ∧ 4 * 2 ^ 0 ≤ (4 : Fin 64).val :=
  ⟨meets 2 (dvStores 15 [(1, 8)]) (by decide +kernel) (by decide +kernel) (by decide +kernel),
   meets 2 (dvStores 15 [(1, 12)]) (by decide +kernel) (by decide +kernel) (by decide +kernel),
   meets 2 (dvStores 16 [(1, 8)]) (by decide +kernel) (by decide +kernel) (by decide +kernel), by decide, by decide, by decide, by decide, by decide⟩

/-- The Ply operations on 64 bits at staging 0, with the output at 64; the longest count of each; and counts that are refused. -/
theorem witness_SparseOperations_ply : Meets 2 tk (fun d => field ((d.ctx tk).getS 2).toNat 20 0 = 64 ∧ stAddr64 ((d.ctx tk).getS 1).toNat 36 = 64 ∧
      (d.ctx tk).rowsAwaited = [] ∧ [(plyAnd (d.core 0 0).stageByte 0 0 64), plyPop (d.core 0 0).stageByte 0 64, plyCmp (d.core 0 0).stageByte 0 64].all
        (fun o => !ringOverlap stageSize 64 o.bytes.length 0 8 && !(d.core 0 0).anyPinned (stageRows 64 o.bytes.length)) = true) ∧
    2097088 % 64 = 0 ∧ 65536 % 64 = 0 ∧ (32 % 64 ≠ 0 ∧ 32 < 64) ∧ 65536 < 65600 :=
  ⟨meets 2 (dv (cx [(1, 1 <<< 42), (2, 64)])) (by decide +kernel) (by decide +kernel) (by decide +kernel), by decide⟩

/-- TMODE on a header of staging that holds 0, below 2,048, and on one of 2,048. -/
theorem witness_SparseOperations_tmode : Meets 2 tk (fun d => (d.ctx tk).rowsAwaited = [] ∧
      ((d.core 0 0).stageByte (stAddr ((d.ctx tk).getS 1).toNat 0 + 2)).toNat ≤ 12 ∧ (d.core 0 0).stageByte (stAddr ((d.ctx tk).getS 1).toNat 0 + 3) = 0 ∧
      leNat (d.core 0 0).stageByte (stAddr ((d.ctx tk).getS 1).toNat 0) 2 < 2048) ∧
    Meets 2 tk (fun d => ((d.core 0 0).stageByte 2).toNat ≤ 12 ∧ (d.core 0 0).stageByte 3 = 0 ∧ leNat (d.core 0 0).stageByte 0 2 = 2048) :=
  ⟨meets 2 (dv (cx [(1, 0)])) (by decide +kernel) (by decide +kernel) (by decide +kernel),
   meets 2 ((dv (cx [(1, 0)])).modCore 0 0 fun co => { co with staging := [(1, 8)] }) (by decide +kernel) (by decide +kernel) (by decide +kernel)⟩

/-- A Splice descriptor at 64 of two empty lists, with an output of one entry at 0x1000. -/
def dvSplice : Dev := ((dv (cx [(1, 64)])).writeBytes 96 (leBytes 0x1000 8)).writeBytes 104 (leBytes 1 4)

theorem witness_SparseOperations_splice : Meets 2 tk (fun d => field ((d.ctx tk).getS 1).toNat 47 0 = 64 ∧ ownRange tk 64 64 64 = true ∧
      d.storeRead 64 64 false = none ∧ spliceOk tk (d.loadByte tk) 64 = true ∧ d.storeRead 0 0 false = none ∧
      (∀ isect : Bool, (spliceLoop (d.loadByte tk) isect ⟨0, 0, 0, false⟩ ⟨0, 0, 0, false⟩ 0 0 1 2 { i := 0, j := 0 }).err.first = 0) ∧
      d.storeWrite (d.asWriter tk) 0x1000 0 false = none ∧ d.storeWrite (d.asWriter tk) 116 10 false = none) ∧
    Meets 2 tk (fun _ => ownRange tk 64 32 64 = false) :=
  ⟨meets 2 dvSplice (by decide +kernel) (by decide +kernel) (by decide +kernel), meets 2 dvSplice (by decide +kernel) (by decide +kernel) (by decide)⟩

/-- A TALLY descriptor at 64 of an empty list, with its counts at 0x1000. -/
def dvTally : Dev := ((dv (cx [(1, 64)])).writeBytes 96 (leBytes 0x1000 8)).writeBytes 88 [2]

theorem witness_SparseOperations_tally : Meets 2 tk (fun d => ownRange tk 64 64 64 = true ∧ d.storeRead 64 64 false = none ∧
      tallyOk tk (d.loadByte tk) 64 = true ∧ d.storeRead 0 0 false = none ∧ (tallyCounts (d.loadByte tk) 0 0 0 2 0 0).2 = 0 ∧
      d.storeWrite (d.asWriter tk) 0x1000 2312 false = none) :=
  meets 2 dvTally (by decide +kernel) (by decide +kernel) (by decide +kernel)

/-! ### Slot M -/

/-- Loads at the ends of the immediate ranges: LD.W and LD.D at s1 + 4 and s1 - 2,048, TLDL at s1 + 128, VLD and GATH of 64 lanes. -/
theorem witness_LoadOperations : Meets 3 tk (fun d =>
    (coreReaches d tk ((d.ctx tk).getS 1 + (4 : BitVec 12).signExtend 64).toNat 4 4 ∧ readable d ((d.ctx tk).getS 1 + (4 : BitVec 12).signExtend 64).toNat 4 true) ∧
    (coreReaches d tk ((d.ctx tk).getS 1 + (0x800 : BitVec 12).signExtend 64).toNat 8 8 ∧
      readable d ((d.ctx tk).getS 1 + (0x800 : BitVec 12).signExtend 64).toNat 8 true) ∧
    (coreReaches d tk ((d.ctx tk).getS 1 + (1 : BitVec 12).signExtend 64 * 128).toNat 128 128 ∧
      readable d ((d.ctx tk).getS 1 + (1 : BitVec 12).signExtend 64 * 128).toNat 128 true) ∧
    ∀ l < 64, coreReaches d tk (((d.ctx tk).getS 1).toNat + 4 * l) 4 4 ∧ readable d (((d.ctx tk).getS 1).toNat + 4 * l) 4 true) :=
  meets 3 (dv (cx [(1, 0x1000)])) (by decide +kernel) (by decide +kernel) (by delta coreReaches readable; decide +kernel)

/-- A misaligned load, one beyond the region stores, and one of a bank group that is off. -/
theorem witness_LoadOperations_faults : Meets 3 tk (fun d => ((d.ctx tk).getS 1 + (1 : BitVec 12).signExtend 64 * 1).toNat % 4 ≠ 0) ∧
    Meets 3 tk (fun d => ((d.ctx tk).getS 1).toNat % 128 = 0 ∧ inStore ((d.ctx tk).getS 1).toNat = false) ∧
    Meets 3 tk (fun d => coreReaches d tk ((d.ctx tk).getS 1).toNat 128 128 ∧ d.anyOff ((d.ctx tk).getS 1).toNat 128 = true) :=
  ⟨meets 3 (dv (cx [(1, 0)])) (by decide +kernel) (by decide +kernel) (by decide +kernel),
   meets 3 (dv (cx [(1, 0x24000000)])) (by decide +kernel) (by decide +kernel) (by decide +kernel),
   meets 3 ((dv (cx [(1, 0)])).setBgOff 0 0 true) (by decide +kernel) (by decide +kernel) (by delta coreReaches; decide +kernel)⟩

theorem witness_StoreOperations : Meets 3 tk (fun d => (d.core 0 0).storeQ.length < 16 ∧
      (∀ n ∈ [4, 8, 128], coreReaches d tk ((d.ctx tk).getS 1 + (0 : BitVec 12).signExtend 64).toNat n n) ∧
      ((d.ctx tk).getS 1 + (0 : BitVec 8).signExtend 64 * 256).toNat % 64 = 0 ∧ ∀ l < 64, coreReaches d tk (((d.ctx tk).getS 1).toNat + 4 * l) 4 4) ∧
    Meets 3 tk (fun d => 16 ≤ (d.core 0 0).storeQ.length) ∧
    Meets 3 tk (fun d => (d.core 0 0).storeQ.length < 16 ∧ ((d.ctx tk).getS 1 + (2 : BitVec 12).signExtend 64).toNat % 4 ≠ 0) :=
  ⟨meets 3 (dvStores 15 [(1, 0x1000)]) (by decide +kernel) (by decide +kernel) (by delta coreReaches; decide +kernel),
   meets 3 (dvStores 16 []) (by decide +kernel) (by decide +kernel) (by decide +kernel),
   meets 3 (dvStores 15 [(1, 0x1000)]) (by decide +kernel) (by decide +kernel) (by decide +kernel)⟩

theorem witness_StoresReachMemory : let d := dvStores 2 []
    (d.core 0 0).storeQ = ({ slot := 0, task := 1, iat := 0, cells := [(8, 1)] } : StoreEntry) :: [{ slot := 0, task := 1, iat := 0, cells := [(8, 1)] }] ∧
    (d.ctx tk).coilOps = [] ∧ d.groupOff 8 = false ∧ d.sliceFenced 8 = false ∧ (d.hitchCells (.core tk 1) [(8, 1)]).1 = true ∧ d.marks = [] := by
  decide +kernel

/-- A store of the four bytes of an uncorrectable word, which it replaces whole. -/
theorem witness_StoresReachMemory_mark : let cs : List (Nat × Byte) := [(8, 1), (9, 2), (10, 3), (11, 4)]
    ∀ p ∈ ([(2, 2)] : List (Nat × Nat)), p.2 = 2 → inStore (4 * p.1) = true → (∃ c ∈ cs, c.1 / 4 = p.1) → ∀ i < 4, ∃ c ∈ cs, c.1 = 4 * p.1 + i := by
  decide +kernel

/-- R238: the store reaches memory, and the byte behind it stays. -/
theorem test_store_reaches : ((next (st {}) (exec (.storeQueueWrite 0 0) (st (dvStores 1 [])))).dev.byte 8,
    (next (st {}) (exec (.storeQueueWrite 0 0) (st (dvStores 1 [])))).dev.byte 9) = (1, 0) := by decide +kernel

/-- An accumulator descriptor at 64: 8 entries of type 0 at 0x1000. -/
def dvAcc : Dev := ((dv (cx [(1, 64)])).writeBytes 64 (leBytes 0x1000 8)).writeBytes 72 (leBytes 8 4)

/-- An addition for entry 0 of it, queued at its bank. -/
def addition0 : Addition := { owner := some tk, task := 1, entry := 0x1000, type := 0, addend := 5, desc := 64 }

theorem witness_ScatteredAdditions : Meets 3 tk (fun d => coreReaches d tk ((d.ctx tk).getS 1).toNat 64 64 ∧ readable d ((d.ctx tk).getS 1).toNat 64 false ∧
      accOk (d.loadByte tk) ((d.ctx tk).getS 1).toNat = true ∧ regionOf (leNat (d.loadByte tk) 64 8) = 0 ∧ d.strict (d.ctx tk).task = false ∧
      writable d (d.asWriter tk) 88 8 false) ∧
    (let d := dvAcc.queueAddition addition0
     let e := d.modRegion 0 fun g => { g with queues := sset (fun _ => []) g.queues 0 [] }
     sget (fun _ => []) (d.region 0).queues 0 = [addition0] ∧ (d.region 0).crossbar = [] ∧ (d.core 0 0).storeQ = [] ∧
       readable e 0x1000 (accBytes 0) true ∧ writable e addition0.writer 0x1000 (accBytes 0) true ∧ writable e addition0.writer 80 8 false) :=
  ⟨meets 3 dvAcc (by decide +kernel) (by decide +kernel) (by delta coreReaches readable writable; decide +kernel),
   by delta readable writable; decide +kernel⟩

/-- An addition behind a store of its context to its entry, and the oldest of 17 additions for a bank of 16 places. -/
theorem witness_ScatteredAdditions_waits :
    (let d := (dvAcc.queueAddition addition0).modCore 0 0 fun co => { co with storeQ := [{ slot := 0, task := 1, iat := 0, cells := [(0x1003, 1)] }] }
     ∃ k, addition0.owner = some k ∧ ∃ e ∈ (d.core k.region k.core).storeQ, e.slot = k.slot.val ∧
       ∃ c ∈ e.cells, overlap c.1 1 addition0.entry (accBytes addition0.type) = true) ∧
    (let d := (upto 17).foldl (fun d _ => d.queueAddition addition0) dvAcc
     (sget (fun _ => []) (d.region 0).queues 0).length = 16 ∧ (d.region 0).crossbar = [addition0]) :=
  ⟨⟨tk, rfl, _, List.mem_singleton.2 rfl, by decide, _, List.mem_singleton.2 rfl, by decide +kernel⟩, by decide +kernel⟩

/-- The context and one with a pinned staging row 0; row counts of 1 and of 256, the last row of the buffer. -/
theorem witness_StagingAndRows : Meets 3 tk (fun d => rowsReady d tk (sstRows (stAddr64 ((d.ctx tk).getS 1 + (0 : BitVec 8).signExtend 64 * 256).toNat 0) ((d.ctx tk).getM 0)) ∧
      rowsFree d tk (sstRows (stAddr64 ((d.ctx tk).getS 1 + (0 : BitVec 8).signExtend 64 * 256).toNat 0) ((d.ctx tk).getM 0)) ∧
      rowsReady d tk (spanRows (field ((d.ctx tk).getS 2).toNat 8 0) 256) ∧ rowsFree d tk (spanRows (field ((d.ctx tk).getS 2).toNat 8 0) 256) ∧
      coreReaches d tk ((d.ctx tk).getS 1).toNat (512 * 256) 512 ∧ coreReaches d tk ((d.ctx tk).getS 3).toNat (512 * 1) 512) ∧
    Meets 3 tk (fun d => ¬ rowsFree d tk (sstRows 0 ((d.ctx tk).getM 0))) ∧ (13 : Fin 16).val ≠ 14 :=
  ⟨meets 3 (dv (cx [(1, 0x1000), (2, 511), (3, 0)])) (by decide +kernel) (by decide +kernel) (by delta rowsReady rowsFree coreReaches; decide +kernel),
   meets 3 (dv { cx with closing := [{ rows := [0], release := 9, w := 0, replay := false }] }) (by decide +kernel) (by decide +kernel)
     (by delta rowsFree; decide +kernel), by decide⟩

/-- A row transfer of each kind that may be performed. -/
theorem witness_StagingAndRows_transfer : ∀ kind < 4,
    let x : Xfer := { kind := kind, addr := 0x1000, n := 1, iat := 0 }
    let d := dv { cx with xfers := [x] }
    (d.ctx tk).xfers[0]? = some x ∧ readable d x.addr (512 * x.n) false ∧ readable d x.src (512 * x.n) false ∧ rowsFree d tk (spanRows x.row x.n) ∧
      regionOf x.src = regionOf x.addr ∧
      writable d (d.asWriter tk) x.addr (512 * x.n) false := by delta readable writable rowsFree; decide +kernel

/-- Coil 3 of region 0: enabled, of 64 bytes, rank 1, with 8 bytes readable; c1 of the context is its handle, c2 a stale one. -/
def dvCoil (n : W64) : Dev :=
  ((dv ((({ cx [(1, 3), (2, n)] with coilOps := [] } : Context).write (.c 1 (handleOf 3 0 1 0))).write (.c 2 (handleOf 3 0 1 1)))).wr
    (coilBase 0 3 + 8) 0x10019).wr64 (coilBase 0 3 + 0x18) 8

theorem witness_CoilOperations : Meets 3 tk (fun d => d.coilEnabled 0 3 = true ∧ (d.ctx tk).coils = [] ∧ (d.ctx tk).wins = [] ∧
      hKind ((d.ctx tk).getC 1) = 1 ∧ hGen ((d.ctx tk).getC 1) = d.coilGen 0 3 ∧ ((d.ctx tk).getS 2).toNat % 4 = 0 ∧
      ((d.ctx tk).getS 2).toNat ≤ d.coilSize 0 3 ∧ (d.ctx tk).coilOps = [] ∧
      (∀ push : Bool, d.coilReady tk { push := push, region := 0, coil := 3, bytes := 8, iat := (d.ctx tk).cyc - 1 } = true) ∧
      d.coilReadable 0 3 + ((d.ctx tk).getS 2).toNat ≤ d.coilSize 0 3 ∧ ((d.ctx tk).getS 2).toNat ≤ d.coilReadable 0 3) ∧
    Meets 3 tk (fun d => d.coilSize 0 3 < d.coilReadable 0 3 + ((d.ctx tk).getS 2).toNat ∧ d.coilReadable 0 3 < ((d.ctx tk).getS 2).toNat ∧
      ((d.ctx tk).getS 2).toNat % 4 = 0) ∧
    Meets 3 tk (fun d => ¬ hGen ((d.ctx tk).getC 2) = d.coilGen 0 3) ∧
    Meets 3 tk (fun d => d.coilReady tk { push := true, region := 0, coil := 3, bytes := 8, iat := (d.ctx tk).cyc - 1 } = false) :=
  ⟨meets 3 (dvCoil 8) (by decide +kernel) (by decide +kernel) (by decide +kernel),
   meets 3 (dvCoil 60) (by decide +kernel) (by decide +kernel) (by decide +kernel),
   meets 3 (dvCoil 8) (by decide +kernel) (by decide +kernel) (by decide +kernel),
   meets 3 (((dvStores 1 []).modCtx tk fun c => { c with cyc := 5 })) (by decide +kernel) (by decide +kernel) (by decide +kernel)⟩

/-- A window descriptor at 64: 64 bytes at 0x1000, rank 1, no expiry. -/
def dvHitch : Dev :=
  ((dv (({ cx [(1, 64)] with wins := [] } : Context).write (.h 1 (handleOf 2 0 2 0)))).writeBytes 64 (leBytes 0x1000 8)).writeBytes 72 (leBytes 64 4 ++ leBytes 1 2)

theorem witness_HitchOperations : Meets 3 tk (fun d => coreReaches d tk ((d.ctx tk).getS 1).toNat 32 32 ∧ readable d ((d.ctx tk).getS 1).toNat 32 false ∧
      d.winMayOpen (leNat (d.loadByte tk) 64 8) (leNat (d.loadByte tk) 72 4) (d.loadByte tk 78).toNat (d.loadByte tk 79).toNat (leNat (d.loadByte tk) 82 2)
        (leNat (d.loadByte tk) 88 8) = true ∧ ((upto 256).find? fun i => !d.winOpen 0 i) = some 0 ∧ (d.ctx tk).coils ++ (d.ctx tk).wins = []) ∧
    Meets 3 tk (fun d => hKind ((d.ctx tk).getH 1) = 2 ∧ hGen ((d.ctx tk).getH 1) = d.winGen 0 2) ∧
    Meets 3 tk (fun d => ¬ hKind ((d.ctx tk).getH 3) = 2) ∧
    (let d := ({} : Dev).setBit (winState 0 2) 0
     d.winOpen 0 2 = true ∧ d.winExpiry 0 2 = 0 ∧
       (let e := d.wr64 (winBase 0 2 + 24) 5
        e.winOpen 0 2 = true ∧ e.dt.toNat < e.winExpiry 0 2 ∧ e.winExpiry 0 2 ≤ ({ e with dt := 5 } : Dev).dt.toNat)) :=
  ⟨meets 3 dvHitch (by decide +kernel) (by decide +kernel) (by delta coreReaches readable; decide +kernel),
   meets 3 dvHitch (by decide +kernel) (by decide +kernel) (by decide +kernel),
   meets 3 dvHitch (by decide +kernel) (by decide +kernel) (by decide +kernel), by decide +kernel⟩

/-- The bytes of a COPY descriptor of 64 bytes from 0x2000 to 0x3000. -/
def copyRaw : Raw := [1] ++ List.replicate 15 0 ++ leBytes 0x2000 8 ++ leBytes 0x3000 8 ++ leBytes 64 4 ++ List.replicate 28 0

/-- A task with channel 2, that descriptor at 64, and a handle of the channel in q1, whose queue holds `n` descriptors. -/
def dvChan (n : Nat) : Dev :=
  { ((dv (({ cx [(1, 2), (2, 64), (3, 8)] with wins := [] } : Context).write (.q 1 (handleOf 2 0 3 0)))).writeBytes 64 copyRaw).modChan 2
      fun ch => { ch with queue := List.replicate n { addr := 64, raw := copyRaw, task := 1, owner := tk } } with
    tasks := [{ id := 1, cores := [0], places := [tk], bundles := 100, channels := [2] }] }

theorem witness_ChannelOperations : Meets 3 tk (fun d => field ((d.ctx tk).getS 1).toNat 5 3 = 0 ∧ (d.chan 2).holders = [] ∧ (d.chan 2).queue = [] ∧
      ∃ t, d.task? (d.ctx tk).task = some t ∧ t.channels.contains 2 = true) ∧
    Meets 3 tk (fun d => field ((d.ctx tk).getS 3).toNat 5 3 ≠ 0) ∧
    Meets 3 tk (fun d => (hKind ((d.ctx tk).getQ 1) = 3 ∧ hGen ((d.ctx tk).getQ 1) = (d.chan 2).generation.toNat) ∧ (d.chan 2).queue.length < 64 ∧
      ((d.ctx tk).getS 2).toNat % 64 = 0 ∧ inStoreOf 0 ((d.ctx tk).getS 2).toNat 64 = true ∧ readable d 64 64 false ∧ (d.rawAt 64).ctl 0 = false ∧
      d.armCheck 2 64 ((d.task? (d.ctx tk).task).getD { id := (d.ctx tk).task }) (d.rawAt 64) = none ∧ writable d (.chan (d.ctx tk).task) 66 1 false ∧
      writable d (.chan (d.ctx tk).task) 122 2 false) ∧
    Meets 3 tk (fun d => (hKind ((d.ctx tk).getQ 1) = 3 ∧ hGen ((d.ctx tk).getQ 1) = (d.chan 2).generation.toNat) ∧ (d.rawAt 64).ctl 0 = true ∧
      readable d 64 64 false ∧ writable d (.chan (d.ctx tk).task) 122 2 false) ∧
    Meets 3 tk (fun d => (hKind ((d.ctx tk).getQ 1) = 3 ∧ hGen ((d.ctx tk).getQ 1) = (d.chan 2).generation.toNat) ∧ 64 ≤ (d.chan 2).queue.length) ∧
    Meets 3 tk (fun d => ¬ hKind ((d.ctx tk).getQ 2) = 3) :=
  ⟨meets 3 (dvChan 0) (by decide +kernel) (by decide +kernel) ⟨by decide +kernel, by decide +kernel, by decide +kernel, _, by rfl, by rfl⟩,
   meets 3 (dvChan 0) (by decide +kernel) (by decide +kernel) (by decide +kernel),
   meets 3 (dvChan 63) (by decide +kernel) (by decide +kernel) (by delta readable writable; decide +kernel),
   meets 3 ((dvChan 1).writeBytes 66 [1]) (by decide +kernel) (by decide +kernel) (by delta readable writable; decide +kernel),
   meets 3 (dvChan 64) (by decide +kernel) (by decide +kernel) (by decide +kernel),
   meets 3 (dvChan 0) (by decide +kernel) (by decide +kernel) (by decide +kernel)⟩

/-- A device whose region 0 has `n` transfers on its short path. -/
def dvShort (n : Nat) : Dev :=
  (dv (cx [(1, 0x1000), (2, 0x2000 + 255 <<< 48), (3, 0x1002), (4, 0x24000000), (5, 0x2000 + 3 <<< 48)])).modRegion 0 fun g =>
    { g with shorts := List.replicate n { owner := tk, task := 1, src := 0x1000, dst := 0x2000, len := 4, iat := 0 } }

theorem witness_ShortPath : Meets 3 tk (fun d => (d.region 0).shorts.length < 64 ∧ ((d.ctx tk).getS 1).toNat = 0x1000 ∧
      field ((d.ctx tk).getS 2).toNat 47 0 = 0x2000 ∧ field ((d.ctx tk).getS 2).toNat 55 48 + 1 = 256 ∧ 0x1000 / 512 = (0x1000 + 256 - 1) / 512 ∧
      0x2000 / 512 = (0x2000 + 256 - 1) / 512 ∧ inStore 0x1000 = true ∧ inStore 0x2000 = true) ∧
    Meets 3 tk (fun d => (d.region 0).shorts.length < 64 ∧ ¬ ((d.ctx tk).getS 3).toNat % 4 = 0) ∧
    Meets 3 tk (fun d => (d.region 0).shorts.length < 64 ∧ inStore ((d.ctx tk).getS 4).toNat = false ∧ ((d.ctx tk).getS 4).toNat % 4 = 0 ∧
      field ((d.ctx tk).getS 5).toNat 47 0 % 4 = 0 ∧ (field ((d.ctx tk).getS 5).toNat 55 48 + 1) % 4 = 0 ∧
      ((d.ctx tk).getS 4).toNat / 512 = (((d.ctx tk).getS 4).toNat + 4 - 1) / 512) ∧
    Meets 3 tk (fun d => 64 ≤ (d.region 0).shorts.length) ∧
    (let d := dvShort 1
     let e := d.modRegion 0 fun g => { g with shorts := [] }
     (d.region 0).shorts = [{ owner := tk, task := 1, src := 0x1000, dst := 0x2000, len := 4, iat := 0 }] ∧ readable e 0x1000 4 false ∧
       writable e (.core tk 1) 0x2000 4 false) :=
  ⟨meets 3 (dvShort 63) (by decide +kernel) (by decide +kernel) (by decide +kernel),
   meets 3 (dvShort 63) (by decide +kernel) (by decide +kernel) (by decide +kernel),
   meets 3 (dvShort 63) (by decide +kernel) (by decide +kernel) (by decide +kernel),
   meets 3 (dvShort 64) (by decide +kernel) (by decide +kernel) (by decide +kernel), by delta readable writable; decide +kernel⟩

/-- A device with task 1 of `n` ranks, of which only rank 0 is bound. -/
def dvSave (n : Nat) (c : Context) : Dev := { dv c with tasks := [{ id := 1, cores := upto n, places := [tk], bundles := 100 }] }

theorem witness_ContextLife_save : Meets 3 tk (fun d => (d.task? (d.ctx tk).task).map (fun t => (t.csaves, t.cores.length)) = some ([], 2) ∧ (d.ctx tk).chunks = [] ∧
      (d.ctx tk).rank = 0 ∧ ((d.ctx tk).getS 1).toNat % 64 = 0 ∧ runMapped ((((d.ctx tk).getS 1).toNat : Int), imageLength 2) = true) ∧
    Meets 3 tk (fun d => (d.task? (d.ctx tk).task).map (fun t => (t.csaves, t.cores.length)) = some ([], 1) ∧ (d.ctx tk).chunks = [] ∧
      runMapped ((((d.ctx tk).getS 1).toNat : Int), imageLength 1) = true ∧ d.dataWrite (d.asWriter tk) 0x1000 (imageLength 1) false = none) ∧
    Meets 3 tk (fun d => (d.task? (d.ctx tk).task).isSome = true ∧ (d.ctx tk).chunks ≠ []) :=
  ⟨meets 3 (dvSave 2 (cx [(1, 0x1000)])) (by decide +kernel) (by decide +kernel) (by decide +kernel),
   meets 3 (dvSave 1 (cx [(1, 0x1000)])) (by decide +kernel) (by decide +kernel) (by decide +kernel),
   meets 3 (dvSave 1 { cx with chunks := [chunk0] }) (by decide +kernel) (by decide +kernel) (by decide +kernel)⟩

/-! ### Contexts and tasks -/

/-- Slot 1 of the core of `tk`. -/
def tk1 : Ctx := { tk with slot := 1 }

/-- A timing record of one variant, on core 0, with one phase of 100 cyc (R372 to R375). -/
def record0 : List Byte :=
  magicTim ++ leBytes 1 2 ++ leBytes 0 2 ++ leBytes 1 2 ++ leBytes 0 2 ++ leBytes 1 4 ++ leBytes 0 4 ++ leBytes 64 4 ++ leBytes 64 4 ++ leBytes 192 4 ++
  leBytes 64 4 ++ leBytes 4 4 ++ leBytes 10 4 ++ leBytes 0 16 ++ (leBytes 0 4 ++ leBytes 1 2 ++ leBytes 0 2 ++ leBytes 1 120) ++
  (leBytes 100 4 ++ leBytes 0 6 ++ leBytes 0xFFFF 2 ++ leBytes 0 20)

/-- The bytes of an image before its check: a header, one bundle that is END, and that record (R120). -/
def imageBytes0 : List Byte :=
  magicPrg ++ leBytes 2 2 ++ leBytes 0 2 ++ leBytes 1 4 ++ leBytes 64 8 ++ leBytes 0 16 ++ leBytes 128 8 ++ leBytes 224 8 ++ leBytes 0 8 ++
  (leBytes 0x3D000000 4 ++ leBytes 0 60) ++ record0

/-- The image as the Lamplighter keeps it, from address 0x10000; the program is its identity, the check of its bytes. -/
def image0 (program : W64) : Image :=
  { addr := 0x10000, program := program, rowOnly := false, bundles := 1, codeOffset := 64, record := record0 }

/-- The check of those bytes (R120). -/
def crc0 : Nat := 17458111401954505026

/-- A device with the bytes of that image and their check at 0x10000, which is being registered. -/
def dvImage : Dev :=
  { mem := ((imageBytes0 ++ leBytes crc0 8).zipIdx.filter fun p => p.1 != 0).map fun p => (0x10000 + p.2, p.1)
    lamp := { job := some 0x10000 } }

/-- A Lit device whose logical core 0 is its core 0, with that image under handle 1 and the given tasks. -/
def dvLit (ts : List Task) : Dev :=
  { ((((({} : Dev).wr (aPw + rPwState) 2).wr (aRn 0 + rRnLmap) 0).modRegion 0 fun g => { g with fixedPipe := false }).modCore 0 0
      fun co => { co with fixedPipe := false }) with lamp := { ({} : Lamp) with images := [(1, some (image0 7))] }, tasks := ts }

/-- A device on which slots 0 and 1 of core 0 hold contexts, slot `run` runs and `sw` is switched to. -/
def dvTwo (c c1 : Context) (run sw : Option Nat) : Dev :=
  ((({} : Dev).setCtx tk (some c)).setCtx tk1 (some c1)).modCore 0 0 fun co => { co with running := run, switching := sw }

theorem witness_ContextLife_holds : (let d := dv { cx with holds := [{ why := .metered, kind := 1, slot := 3 }] }
     (d.ctx tk).holds[0]? = some { why := .metered, kind := 1, slot := 3 } ∧ d.holdDone tk { why := .metered, kind := 1, slot := 3 } = true) ∧
    (let h : Hold := { why := .storeQueue, kind := 2, slot := 3, before := true }
     let d := (dvStores 16 []).addHold tk h
     (d.ctx tk).holds[0]? = some h ∧ d.holdDone tk h = false ∧ ((dvStores 15 []).addHold tk h).holdDone tk h = true) := by decide +kernel

/-- A device whose running context holds at a switch point and whose slot 1 is ready. -/
def dvSwitch : Dev :=
  { (dvTwo { cx with holds := [{ why := .drain, kind := 6, slot := 0 }] } { cx with task := 2 } (some 0) none).modCore 0 0 fun co =>
      { co with ipages := at_ co.ipages 0 fun _ => some { handle := 1, program := 7, page := 0, code := [0x80000000] } } with
    tasks := [{ id := 1, image := 1, program := 7 }, { id := 2 }] }

theorem witness_ContextLife_switch : (let d := dvTwo cx { cx with task := 2 } none none
     (d.core 0 0).switching = none ∧ d.nextSlot (d.core 0 0) = some 0 ∧ (d.core 0 0).running = none) ∧
    ((dvSwitch.core 0 0).switching = none ∧ dvSwitch.nextSlot (dvSwitch.core 0 0) = some 1 ∧ (dvSwitch.core 0 0).running = some 0 ∧
      ((nth (dvSwitch.core 0 0).slots 0 none).map fun c => (decide (c.holds ≠ []), dvSwitch.heldSp (dvSwitch.core 0 0) c)) = some (true, true)) ∧
    ((dvTwo cx cx (some 0) (some 1)).core 0 0).switching = some 1 := by decide +kernel

theorem witness_ContextLife_free : (let d := dvTwo { cx with ended := true, active := false } cx none none
     d.slotQuiet tk = true ∧ (d.ctx tk).lanesHandled = 0) ∧
    (let d := dvTwo { cx with ended := true, active := false, chunks := [{ chunk0 with errReplayed := 4 }] } cx none none
     d.slotQuiet tk = true ∧ (d.ctx tk).lanesHandled ≠ 0) ∧ (dv cx).slotQuiet tk = false := by decide +kernel

/-- R112, R114: the switch completes into the ready context. -/
theorem test_switch_done : ((next (st {}) (exec (.switchDone 0 0) (st (dvTwo cx cx none (some 1))))).dev.core 0 0).running = some 1 := by decide +kernel

/-- Task 5 of image 1 on one core, whose planned start is DT 0. -/
def task5 : Task := { id := 5, image := 1, program := 7, cores := [0], bundles := 1, stop := 3000, deadline := 9000 }

/-- The VERDICT that accepted it. -/
def verdict5 : Mbt := { type := 0x11, session := 0, body := leBytes 0 4 ++ leBytes 5 4 }

theorem witness_ContextLife_binding : (let d := dvLit [task5]
     d.task? 5 = some task5 ∧ task5.started = false ∧ task5.start.toNat ≤ d.dt.toNat ∧ task5.cores.any d.remapBusy = false ∧ d.verdictHeld task5 = false ∧
       task5.cores.any d.pipeBusy = false ∧ d.placesFor task5.cores = some [tk] ∧
       d.image? task5.image = some (image0 7) ∧ d.codeRoom (d.core 0 0) task5.image (image0 7) = true) ∧
    (let d := (dvLit [task5]).modCore 0 0 fun co =>
       { co with ipages := List.replicate 16 (some { handle := 2, program := 8, page := 0, code := [] })
                 slots := at_ co.slots 1 fun _ => some { cx with task := 6 } }
     let d := { d with tasks := task5 :: [{ id := 6, image := 2, program := 8, started := true, cores := [0], bundles := 20000, places := [tk1] }] }
     d.placesFor task5.cores = some [tk] ∧ d.codeRoom (d.core 0 0) task5.image (image0 7) = false) ∧
    (let d := (dvLit [task5]).setBit (aRn 0 + rRnLmap) 6
     d.placesFor task5.cores = none) ∧
    (let d := dvLit [{ task5 with start := 1 }]
     d.dt.toNat < ((d.task? 5).getD task5).start.toNat) ∧
    task5.cores.any ((dvLit [task5]).setBit (aRn 0 + rRnLmap) 7).remapBusy = true ∧
    task5.cores.any ((dvLit [task5]).modCore 0 0 fun co => { co with fixedPipe := true }).pipeBusy = true ∧
    ((dvLit [task5]).modSession 0 fun x => { x with waiting := [verdict5] }).verdictHeld task5 = true := by decide +kernel

/-- A message on session 0 of the given type and body, of the peer of that session. -/
def msg (type : Nat) (body : List Byte) (session : Nat := 0) : InMsg :=
  { port := 0, msg := { type := type, session := session, body := body, deadline := 1000000 }, arrived := 0 }

/-- Device `d` with message `m` alone in the receive queues. -/
def inbox (d : Dev) (m : InMsg) : Dev := { d with net := { d.net with inbox := [m] } }

/-- The body of a SUBMIT of image handle 1 without slots. -/
def submit0 : List Byte := leBytes 1 64

theorem witness_SubmitIsAnswered : atHead (inbox (dvLit []) (msg 0x10 submit0)) (msg 0x10 submit0) [] ∧ submitOk submit0 = true ∧
    (msg 0x10 submit0).msg.response = false ∧ submitOk [] = false ∧ ({ msg 0x10 submit0 with poison := [0] }).poison ≠ [] :=
  ⟨⟨rfl, rfl⟩, by decide +kernel, rfl, by decide +kernel, by decide⟩

/-- Both answers of an evaluator are possible: the Lit device accepts the SUBMIT, and one without the image refuses it. -/
theorem witness_SubmitIsAnswered_judged : (match ((dvLit []).judge (msg 0x10 submit0)).2 with | .fits im _ _ => im == image0 7 | _ => false) = true ∧
    (match (({} : Dev).judge (msg 0x10 submit0)).2 with | .refused st _ => st == 0x100C | _ => false) = true := by decide +kernel

/-- R391: the accepted task starts 3,000 ns after the SUBMIT's last byte, under task_id 1. -/
theorem test_submit_accepted : (next (st {}) (exec (.submit false 100) (st (inbox (dvLit []) (msg 0x10 submit0))))).dev.tasks.map
    (fun t => (t.id, t.start, t.cores)) = [(1, 3000, [0])] := by decide +kernel

/-- A task whose ranks have all ended, with no results, at DT 0. -/
def task6 : Task := { task5 with started := true, places := [tk], args := 0x1000 }

theorem witness_TaskEnds_digest : (let d := { dv { cx with task := 5, ended := true } with tasks := [task6] }
     d.task? 5 = some task6 ∧ task6.written = none ∧ d.allWritten task6 = true ∧ d.digestCheck task6.args = none ∧
       ((d.setBgOff 0 0 true).digestCheck task6.args).isSome = true) ∧
    (let d := { dvStores 1 [] with tasks := [{ task6 with id := 1 }] }
     d.allWritten { task6 with id := 1 } = false) := by decide +kernel

theorem witness_TaskEnds_overrun : (let d : Dev := { dvLit [task5] with dt := 1000 }
     d.late task5 = true ∧ task5.overrun = false ∧ { d with dt := 999 }.late task5 = false) ∧
    (let d : Dev := { dvLit [task5] with dt := 7000 }
     d.late task5 = true ∧ d.due task5.deadline = true) ∧
    (let d : Dev := { dvLit [] with lamp := { ({} : Lamp) with lastOverrun := some 100 }, dt := 8100 }
     d.lamp.lastOverrun = some 100 ∧ (100 : W64).toNat + 8000 ≤ d.dt.toNat ∧ { d with dt := 8099 }.dt.toNat < (100 : W64).toNat + 8000) := by decide +kernel

theorem witness_TaskEnds_compare : let t : Task := { task6 with written := some (0, 0), mirrored := true }
    let d : Dev := { (({} : Dev).setTether 3 true) with tasks := [t], dt := 70000 }
    d.task? 5 = some t ∧ t.twinDigest = none ∧ (0 : W64).toNat + d.fld (aTt + rTtCfg) 15 0 ≤ d.dt.toNat ∧ d.ttPrimary = true := by decide +kernel

theorem witness_ImageRegistration : (dvLit []).regBusy = false ∧ ((dvLit []).setBit (aLl + rLlState) 0).regBusy = true ∧
    (dvLit []).image? 2 = none ∧ ((dvLit [task5]).image? 1).isSome = true ∧ (∃ t ∈ (dvLit [task5]).tasks, t.image = 1) ∧
    (∀ t ∈ (dvLit []).tasks, t.image ≠ 1) := by
  refine ⟨by decide +kernel, by decide +kernel, by decide +kernel, by decide +kernel, ⟨task5, .head _, rfl⟩, ?_⟩
  intro t h; cases h

/-- A CRC-64 in two parts. -/
theorem crc64From_parts (c n : Nat) (bs : List Byte) : crc64From c bs = crc64From (crc64From c (bs.take n)) (bs.drop n) := by
  rw [crc64From, crc64From, crc64From, ← List.foldl_append, List.take_append_drop]

theorem crc64_imageBytes0 : crc64 imageBytes0 = crc0 := by
  rw [crc64, crc64From_parts 0 120, show crc64From 0 (imageBytes0.take 120) = 2417032562515393538 by decide +kernel, crc64From_parts _ 120,
    show crc64From 2417032562515393538 ((imageBytes0.drop 120).take 120) = 1445054275533501425 by decide +kernel]
  decide +kernel

/-- R370: a valid image is read, and none is found in empty memory. -/
theorem witness_ImageRegistration_read : (dvImage.readImage 0x10000).1 = some (image0 (BitVec.ofNat 64 crc0)) ∧ ((dvLit []).readImage 0x10000).1 = none := by
  refine ⟨?_, by decide +kernel⟩
  have bytes : readBytes dvImage.byte 0x10000 352 = imageBytes0 := by decide +kernel
  have len : programLength dvImage.byte 0x10000 = 360 := by decide +kernel
  unfold Dev.readImage
  rw [if_neg (by decide +kernel), show dvImage.dataRead 0x10000 64 false = none by decide +kernel]
  dsimp only
  rw [if_neg (by rw [len]; decide +kernel), len, show dvImage.dataRead 0x10000 360 false = none by decide +kernel]
  dsimp only
  rw [show 360 - 8 = 352 from rfl, bytes, crc64_imageBytes0, if_pos (by decide +kernel)]
  decide +kernel

theorem witness_ImageRegistration_done : dvImage.lamp.job = some 0x10000 ∧ ((upto 1024).find? fun j => (dvImage.image? (j + 1)).isNone) = some 0 ∧
    dvImage.lamp.recordBytes + record0.length ≤ 2 ^ 25 := by decide +kernel

/-! ### Stream channels and remote transfers -/

/-- A descriptor at 64 with the given bytes. -/
def desc0 (raw : Raw) : Desc := { addr := 64, raw := raw, task := 1, owner := tk }

/-- Task 1 on core 0, bound, which declares channel 2. -/
def task1 : Task := { id := 1, cores := [0], places := [tk], channels := [2] }

/-- A device whose channel 2 has that descriptor queued, and whose coil 3 is enabled and empty. -/
def dvDesc (x : Desc) : Dev :=
  { ((({} : Dev).wr (coilBase 0 3 + 8) 0x10025).writeBytes 64 x.raw).modChan 2 (fun ch => { ch with queue := [x] }) with tasks := [task1] }

theorem startable_of (x : Desc) (h1 : ((dvDesc x).chan 2).queue = [x]) (h2 : ((dvDesc x).chan 2).gate = none) (h3 : x.started = false)
    (h4 : (dvDesc x).task? x.task = some task1) (h5 : ((dvDesc x).region 0).gated = false)
    (h6 : (dvDesc x).chansStopped = false := by decide +kernel) : startable (dvDesc x) (chanNo 0 2) x task1 := by
  refine ⟨?_, h4, ?_, ?_, h5, h6⟩
  · rw [show chanNo 0 2 = 2 from rfl, h1]; simp [h3]
  · rw [show chanNo 0 2 = 2 from rfl, h1]; simp [h3]
  · intro k h; rw [show chanNo 0 2 = 2 from rfl, h2] at h; cases h

/-- A COPY that pops 64 bytes from coil 3. -/
def popRaw : Raw := [1, 0, 0, 0, 0, 0, 3, 0x20] ++ (copyRaw.drop 8)

theorem witness_StreamDescriptors_copy : let x := desc0 copyRaw
    startable (dvDesc x) (chanNo 0 2) x task1 ∧ x.raw.kind = 1 ∧ (dvDesc x).coilStarts ((dvDesc x).chan 2) x ((dvDesc x).moved 2 task1 x.raw) = true ∧
      (let e := (dvDesc x).markStarted 2 x
       (e.moved 2 task1 x.raw).checks e (.chan task1.id) = none ∧ e.chanReach 2 (e.moved 2 task1 x.raw) = none) ∧
      (let e := ((dvDesc x).setBgOff 0 0 true).markStarted 2 x
       ((e.moved 2 task1 x.raw).checks e (.chan task1.id)).isSome = true) :=
  ⟨startable_of _ (by decide +kernel) (by decide +kernel) rfl (by decide +kernel) (by decide +kernel), by decide +kernel⟩

theorem witness_StreamDescriptors_kinds : (let x := desc0 popRaw
     startable (dvDesc x) (chanNo 0 2) x task1 ∧ x.raw.kind = 1 ∧
       (dvDesc x).coilStarts ((dvDesc x).chan 2) x ((dvDesc x).moved 2 task1 x.raw) = false) ∧
    (let x := desc0 [11]; startable (dvDesc x) (chanNo 0 2) x task1 ∧ x.raw.kind = 11) ∧
    (let x := desc0 [12]; startable (dvDesc x) (chanNo 0 2) x task1 ∧ x.raw.kind = 12) :=
  ⟨⟨startable_of _ (by decide +kernel) (by decide +kernel) rfl (by decide +kernel) (by decide +kernel), by decide +kernel⟩,
   ⟨startable_of _ (by decide +kernel) (by decide +kernel) rfl (by decide +kernel) (by decide +kernel), by decide +kernel⟩,
   ⟨startable_of _ (by decide +kernel) (by decide +kernel) rfl (by decide +kernel) (by decide +kernel), by decide +kernel⟩⟩

theorem witness_StreamDescriptors_complete : (let x := { desc0 copyRaw with moved := true }
     ((dvDesc x).chan (chanNo 0 2)).queue = [x] ∧ (dvDesc x).chanAdds (chanNo 0 2) = false ∧ (dvDesc x).completeCheck x = none ∧
       (((dvDesc x).setBgOff 0 0 true).completeCheck x).isSome = true) ∧
    ((dvDesc (desc0 copyRaw)).chan (chanNo 0 2)).queue = [desc0 copyRaw] ∧ (desc0 copyRaw).moved = false ∧
    ((dvDesc (desc0 copyRaw)).queueAddition { addition0 with chan := some 2 }).chanAdds (chanNo 0 2) = true := by decide +kernel

/-- A REMOTE in service with one block of 64 bytes in flight to 0x3000, asked for on session 0 with seq 9, whose limit is DT 500. -/
def remote0 : Desc := { desc0 ([12] ++ List.replicate 11 0 ++ [6] ++ List.replicate 51 0) with started := true }
def block0 : RemoteBlock := { block := 4, dst := 0x3000, left := 64, session := 0, seq := 9, limit := 500 }
def dvRemote : Dev := (dvDesc remote0).modChan 2 fun ch => { ch with remotes := [block0] }

/-- A segment of that block: 64 bytes at its offset 0, with the given status. -/
def segment (status : Nat) (ref : W32) : InMsg :=
  { port := 0, msg := { type := 0x22, session := 0, ref := ref, flags := 1, body := leBytes status 8 ++ List.replicate 64 5 }, arrived := 0 }

theorem witness_RemoteTransfers_segments : (segment 0 9).msg.type = 0x22 ∧ (segment 0 9).msg.response = true ∧ atHead (inbox dvRemote (segment 0 9)) (segment 0 9) [] ∧
    (let e := taken (inbox dvRemote (segment 0 9)) []
     e.blockOfSegment (segment 0 8) = none ∧ e.blockOfSegment (segment 0 9) = some (2, block0) ∧ (e.chan 2).remote = some remote0 ∧
       8 ≤ (segment 0 9).msg.body.length ∧ leNat (bytesAt (segment 0 9).msg.body) 2 2 = 0 ∧ leNat (bytesAt (leBytes 0x10000 8)) 2 2 ≠ 0 ∧ 0 + 64 ≤ 2 ^ remote0.raw.u 12 1 ∧
       e.dataWrite (.chan remote0.task) (block0.dst + 0) 64 (narrowRun (block0.dst + 0) 64) = none ∧
       ((e.setBgOff 0 0 true).dataWrite (.chan remote0.task) (block0.dst + 0) 64 (narrowRun (block0.dst + 0) 64)).isSome = true) := by
  refine ⟨by decide +kernel, by decide +kernel, ⟨rfl, rfl⟩, ?_⟩
  decide +kernel

theorem witness_RemoteTransfers_limit : (dvRemote.chan (chanNo 0 2)).remote = some remote0 ∧
    ((dvRemote.chan (chanNo 0 2)).remotes.find? fun y => y.block == 4) = some block0 ∧ dvRemote.dt.toNat < block0.limit.toNat ∧
    block0.limit.toNat ≤ ({ dvRemote with dt := 500 } : Dev).dt.toNat := by decide +kernel

/-- A remote write of 4 bytes at address `a`. -/
def write0 (a : Nat) (checked : Bool) (status : Status) : RemoteWrite :=
  { session := 0, seq := 1, addr := a, data := [1, 2, 3, 4], checked := checked, status := status }

/-- A device with that write on its way, and an open window of 64 bytes at 0x3000 that admits session 0. -/
def dvWrite (w : RemoteWrite) : Dev :=
  { ((((({} : Dev).wr64 (winBase 0 0) 0x3000).wr (winBase 0 0 + 8) 64).wr (winBase 0 0 + 12) 0x1F0000).setBit (winState 0 0) 0) with net := { writes := [w] } }

theorem witness_RemoteTransfers_arrive : (dvWrite (write0 0x3000 false 0)).net.writes[0]? = some (write0 0x3000 false 0) ∧
    (dvWrite (write0 0x3000 false 0)).arriveCheck (write0 0x3000 false 0) = none ∧
    (((dvWrite (write0 0x3000 false 0)).setBgOff 0 0 true).arriveCheck (write0 0x3000 false 0)).isSome = true ∧
    ((dvWrite (write0 pilesBase false 0)).arriveCheck (write0 pilesBase false 0)).isSome = true := by decide +kernel

theorem witness_RemoteTransfers_performed : [(0 : Status), 0x7005].all (fun st =>
      let w := write0 0x3000 true st
      let d := dvWrite w
      let e := (d.performWrite w).modWrite 0 fun w => { w with done := true }
      d.net.writes[0]? == some w && w.checked && !w.done && !e.twinPending w &&
        ({ e with net := { e.net with fwdAcks := [(0, 0, 2)] } }).twinPending w) = true := by decide +kernel

/-! ### Region stores and piles -/

/-- Region 0 is fenced. -/
def fenced0 (d : Dev) : Dev := d.setBit (aRn 0 + rRnState) 4

theorem witness_RegionUpkeep_correction : inStore 0 = true ∧ inStore 0x24000000 = false ∧ ({} : Dev).groupOff 0 = false ∧ (({} : Dev).setBgOff 0 0 true).groupOff 0 = true ∧
    ((({} : Dev).modRegion 0 fun g => { g with writebacks := [64] }).region 0).writebacks.contains 64 = true ∧ (({} : Dev).region 0).writebacks.contains 64 = false := by
  decide +kernel

/-- The scrubber idles with scrubbing off, in a group that is off and in Pilot; it goes on at its first and at its last line. -/
theorem witness_RegionUpkeep_scrub : let on := ({} : Dev).setBit (aRs 0 + rRnStScrubCtl) 0
    (on.clrBit (aRs 0 + rRnStScrubCtl) 0).flag (aRs 0 + rRnStScrubCtl) 0 = false ∧ (on.setBgOff 0 0 true).groupOff (lineAddr 0 0 0) = true ∧
    (on.setPw 4 0).pilotOff 0 0 = true ∧
    (on.flag (aRs 0 + rRnStScrubCtl) 0 = true ∧ on.groupOff (lineAddr 0 0 0) = false ∧ on.pilotOff 0 0 = false) ∧
    (let last := on.modRegion 0 fun g => { g with scrubLine := [(0, 2047)] }
     sget (fun _ => 0) (last.region 0).scrubLine 0 = 2047 ∧ last.groupOff (lineAddr 0 0 2047) = false) := by decide +kernel

theorem witness_RegionUpkeep_power : ({} : Dev).locked (aRs 0) = false ∧ (fenced0 {}).locked (aRs 0) = true ∧ ({} : Dev).bgOff 0 71 = false ∧
    (({} : Dev).setBgOff 0 71 true).bgOff 0 71 = true ∧ (({} : Dev).setBgBusy 0 71 true).bgBusy 0 71 = true ∧ ({} : Dev).bgBusy 0 71 = false ∧
    ({} : Dev).groupHeld 0 71 = false ∧ (({} : Dev).wr (coilBase 0 3 + 8) 0x25).groupHeld 0 0 = true := by decide +kernel

/-- A held coil; a buffer smaller than R252 allows and one of 512 bytes; a retained buffer of 32 MiB, which takes 32 groups. -/
theorem witness_RegionUpkeep_coils : (({} : Dev).coilHold 0 3).coilHolders 0 3 ≠ 0 ∧ ({} : Dev).coilHolders 0 3 = 0 ∧
    coilBufferOk 0 (({} : Dev).coilAddr 0 3 0) (field 0x21 7 2) = false ∧ coilBufferOk 0 (({} : Dev).coilAddr 0 3 0) (field 0x25 7 2) = true ∧
    coilBufferOk 0 (({} : Dev).coilAddr 0 3 0) (field 103 7 2) = true ∧ 16 < ((({} : Dev).wr (coilBase 0 3 + 8) 103).retainedGroups 0).length ∧
    0x25 % 4 ≠ 3 ∧ coilBaseOk 0 (0x1000 % 2 ^ 48) = true ∧ coilBaseOk 0 (0x1001 % 2 ^ 48) = false ∧
    coilBufferOk 0 (storeSize - 512) (({ } : Dev).wr (coilBase 0 3 + 8) 0x29 |>.fld (coilBase 0 3 + 8) 7 2) = false ∧
    ((({} : Dev).wr64 (coilBase 0 3) 0x1000).retainedGroups 0).length ≤ 16 ∧ ({} : Dev).coilEnabled 0 3 = false ∧ (({} : Dev).wr (coilBase 0 3 + 8) 0x25).coilEnabled 0 3 = true := by decide +kernel

/-- Window 255 with the registers of a legal window of 64 bytes at 0x1000. -/
def dvWin : Dev := (({} : Dev).wr64 (winBase 0 255) 0x1000).wr (winBase 0 255 + 8) 64

theorem witness_RegionUpkeep_windows : (dvWin.winOpen 0 255 = false ∧ inStore (dvWin.winAddr 0 255) = true ∧ regionOf (dvWin.winAddr 0 255) = 0 ∧
      dvWin.winMayOpen (dvWin.winAddr 0 255) (dvWin.winLen 0 255) (dvWin.winWriters 0 255) (dvWin.fld (winBase 0 255 + 12) 31 24)
        (dvWin.fld (winBase 0 255 + 16) 31 16) (dvWin.rd64 (winBase 0 255 + 24)) = true) ∧
    ({} : Dev).winMayOpen 0 (({} : Dev).winLen 0 255) 0 0 0 0 = false ∧
    (let d := (dvWin.setBit (winState 0 255) 0).setBit (winState 0 255) 1
     d.winOpen 0 255 = true ∧ d.flag (winState 0 255) 1 = true) ∧ dvWin.flag (winState 0 255) 1 = false := by decide +kernel

theorem witness_RegionUpkeep_bursts : arbiterAt (aArRn 0) = some (some 0, (arbiterAt (aArRn 0)).elim 0 fun p => p.2) ∧
    arbiterAt aArHb = some (none, 4) ∧ ({} : Dev).locked (aArRn 0) = false ∧ (fenced0 {}).locked (aArRn 0) = true ∧
    (({} : Dev).setBit (aArRn 0 + 4) 8).flag (aArRn 0 + 4) 8 = true ∧ ({} : Dev).flag (aArRn 0 + 4) 8 = false ∧
    sget (fun _ => []) ({} : Dev).burstWait (aArRn 0) = [] ∧
    (let d : Dev := { (({} : Dev).setBit (aArRn 0 + 4) 8) with burstWait := [(aArRn 0, [1])], tasks := [task1] }
     sget (fun _ => []) d.burstWait (aArRn 0) = [1] ∧ (d.task? 1).isSome = true) := by decide +kernel

/-- Pile 0 ready, with scrubbing on. -/
def dvPile : Dev := (({} : Dev).setFld (aPl 0 + rPlState) 2 0 2).setBit (aPl 0 + rPlScrubCtl) 0

theorem witness_PileUpkeep : dvPile.pileReady 0 = true ∧ ({} : Dev).pileReady 0 = false ∧ dvPile.flag (aPl 0 + rPlScrubCtl) 0 = true ∧
    (dvPile.clrBit (aPl 0 + rPlScrubCtl) 0).flag (aPl 0 + rPlScrubCtl) 0 = false ∧ inPile pilesBase = true ∧ inPile (pilesBase - 1) = false ∧
    inPile (pilesEnd - 1) = true ∧ inPile pilesEnd = false ∧ regionOf pilesBase = 0 ∧ dvPile.pileReady (regionOf pilesBase) = true ∧
    dvPile.pileReady (regionOf (pilesEnd - 1)) = false := by decide +kernel

theorem witness_NearMemoryOperations : dvPile.nmoClosed 0 = false ∧ ({} : Dev).nmoClosed 0 = true ∧ (dvPile.setBit (aPl 0 + rPlState) 4).nmoClosed 0 = true ∧
    (dvPile.pile 0).nmo = none ∧ ((dvPile.modPile 0 fun q => { q with nmo := some 4 }).pile 0).nmo = some 4 := by decide +kernel

/-! ### Ethernet and device time -/

/-- The module's address on port 0. -/
def ip0 : W32 := 0x0A000001

/-- Port 0 with its first sublink up, a MAC address, and that address. -/
def dvPort : Dev :=
  ((({} : Dev).setBit (aEt 0 + rEtState) 0).wr64 (aEt 0 + rEtMac0) 0x20).setBit (aEt 0 + rEtIpCfg) 0 |>.wr (aEt 0 + rEtIpv4) ip0

/-- A CLOSE of session 1. -/
def close0 : Mbt := { type := 3, session := 1 }

/-- A frame of `n` bytes for that port with the given UDP payload. -/
def frame0 (d : Dev) (n : Nat) (ok : Bool) (sec : Option SecTag) (data : List Byte) : Frame :=
  { port := 0, fcsOk := ok, size := n, dstMac := 0x20, sec := sec, oddIp := false, src := 5, dst := mapV4 ip0, srcPort := 7
    dstPort := BitVec.ofNat 16 (d.fld (aMt + rMtCfg) 15 0), checksumOk := true, data := data }

theorem witness_FramesAndPauses_filters : let f := frame0 dvPort 64 true none []
    ({} : Dev).flag (aEt f.port + rEtState) f.sub = false ∧ dvPort.flag (aEt f.port + rEtState) f.sub = true ∧ f.size ≤ dvPort.fld (aEt f.port + rEtMode) 17 4 ∧
    dvPort.ownMac f.port f.dstMac = true ∧ dvPort.flag (aEt f.port + rEtMode) 2 = false ∧ (frame0 dvPort 63 true none []).size < 64 ∧
    dvPort.macsecCheck f.toEnvelope false = some dvPort ∧ (dvPort.setBit (aEt 0 + rEtMode) 2).macsecCheck f.toEnvelope false = none ∧
    dvPort.vidOk f.toEnvelope = true ∧ (dvPort.wr (aEt 0 + rEtVlan) 9).vidOk { f.toEnvelope with vid := some 5 } = false ∧ f.dstPort ≠ 319 ∧ f.dstPort ≠ 320 ∧
    dvPort.frameAccepted f = true ∧ dvPort.frameAccepted { f with oddIp := true } = false ∧ mbtParse f.data = none := by decide +kernel

/-- A frame for that port with the given destination, for the commands whose frame holds no UDP datagram. -/
def env1 (mac : BitVec 48) : Envelope := { port := 0, dstMac := mac }

/-- A frame for one of the module's addresses, or for one of the given addresses, passes the checks of an unprotected port. -/
theorem passes_dvPort (mac : BitVec 48) (groups : List Nat) (clear : Bool) (h : dvPort.ownMac 0 mac = true ∨ groups.contains mac.toNat = true) :
    Passes dvPort (env1 mac) groups clear dvPort :=
  ⟨by show dvPort.flag (aEt 0 + rEtState) 0 = true; decide +kernel, rfl, Nat.le_refl 64, by show 64 ≤ dvPort.fld (aEt 0 + rEtMode) 17 4; decide +kernel, h,
   fun _ => rfl, by
     have m : dvPort.flag (aEt 0 + rEtMode) 2 = false := by decide +kernel
     show dvPort.macsecCheck (env1 mac) clear = some dvPort
     unfold Dev.macsecCheck
     rw [show ((env1 mac).port : Nat) = 0 from rfl, m]
     rfl⟩

theorem witness_FramesAndPauses_passes : Passes dvPort (env1 0x20) [] false dvPort ∧ Passes dvPort (env1 0xFFFFFFFFFFFF) [0xFFFFFFFFFFFF] false dvPort ∧
    Passes dvPort (env1 0x0180C2000001) [0x0180C2000001] false dvPort ∧ dvPort.vidOk (env1 0x20) = true :=
  ⟨passes_dvPort _ _ _ (.inl (by decide +kernel)), passes_dvPort _ _ _ (.inr (by decide)), passes_dvPort _ _ _ (.inr (by decide)), by decide +kernel⟩

/-- A port under MACsec whose association 1 is enabled and expects packet number 5; frames at and below it, and one of a bad check. -/
theorem witness_FramesAndPauses_macsec : let d := (((dvPort.setBit (aEt 0 + rEtMode) 2).wr (aEt 0 + rEtSaCtl + 64) 1).wr64 (aEt 0 + rEtSaPn + 64) 5)
    d.flag (aEt 0 + rEtMode) 2 = true ∧ d.flag (aEt 0 + rEtMode) 3 = false ∧ (d.setBit (aEt 0 + rEtMode) 3).flag (aEt 0 + rEtMode) 3 = true ∧
    [((5 : BitVec 64), true), (4, true), (5, false)].map (fun p =>
      let t : SecTag := { sa := 1, pn := p.1, intact := p.2 }
      decide (t.intact = true ∧ d.fld (aEt 0 + rEtSaCtl + 64 * t.sa) 1 0 = 1 ∧ d.rd64 (aEt 0 + rEtSaPn + 64 * t.sa) ≤ t.pn.toNat)) = [true, false, false] := by
  decide +kernel

/-- A datagram to a PTP port: one to the module's address and one to the group of PTP. -/
theorem witness_FramesAndPauses_ptp : (319 : BitVec 16) = 319 ∧ (1 : Fin 3).val = (if ipIsV4 (mapV4 ip0) = true then 1 else 2) ∧
    (1 : Fin 3).val = (if ipIsV4 (ptpAddr 1 false) = true then 1 else 2) ∧ (2 : Fin 3).val = (if ipIsV4 (ptpAddr 2 true) = true then 1 else 2) ∧
    dvPort.answersFor 0 (mapV4 ip0) = true := by decide +kernel

theorem witness_FramesAndPauses_messages : mbtParse close0.bytes = some close0 ∧
    dvPort.rqLevel 0 + 8 * ceilDiv close0.body.length 8 ≤ 0x800000 ∧
    (let full := inbox dvPort { msg 4 [] with left := 0x100000 }
     0x800000 < full.rqLevel 0 + 8 * ceilDiv (8 : Nat) 8 ∧ full.rqLevel 0 ≠ 0) ∧ dvPort.rqLevel 0 = 0 := by decide +kernel

theorem witness_FramesAndPauses_pauses : (let full := inbox (dvPort.setBit (aEt 0 + rEtState) 3) { msg 4 [] with left := 0x100000 }
     full.xoff 0 = true ∧ 65536 * full.fld (aEt 0 + rEtRqCfg) 14 8 ≤ full.rqLevel 0) ∧ dvPort.xoff 0 = false ∧ dvPort.portUp 0 = true ∧
    ({} : Dev).portUp 0 = false ∧ (1 : BitVec 16) ≠ 0 := by decide +kernel

theorem witness_PortsAndLinks : dvPort.portUp 0 = true ∧ dvPort.answersFor 0 (mapV4 ip0) = true ∧ dvPort.answersFor 0 (mapV4 0) = false ∧
    (let six := (dvPort.setBit (aEt 0 + rEtIpCfg) 1).wr (aEt 0 + rEtIpv6 + 12) 9
     six.answersFor 0 9 = true ∧ ipIsV4 9 = false) ∧ (0x20 : BitVec 48) ≠ 0 := by decide +kernel

/-- A solicitation of an IPv6 address goes to its group. -/
theorem witness_PortsAndLinks_solicit : ∃ mac : BitVec 48, Passes dvPort (env1 mac) (ndGroups 9) false dvPort :=
  ⟨BitVec.ofNat 48 ((ndGroups 9).headD 0), passes_dvPort _ _ _ (.inr (by decide +kernel))⟩

theorem witness_PortsAndLinks_links : [(2, 1), (1, 0)].all (fun (p : Nat × Nat) =>
      let d := (({} : Dev).setFld (aEt 0 + rEtMode) 1 0 p.1).setPw 2 0
      d.fld (aPw + rPwState) 2 0 != 0 && d.fld (aPw + rPwState) 2 0 != 4 && d.fld (aEt 0 + rEtMode) 1 0 == p.1) = true ∧
    [0, 4].all (fun s => (({} : Dev).setPw s 0).fld (aPw + rPwState) 2 0 == s) = true ∧ dvPort.flag (aEt 0 + rEtState) 0 = true ∧
    ({} : Dev).flag (aEt 0 + rEtState) 1 = false ∧ portSecured 0 .bus = true ∧ portSecured 0 (.session 3 none) = false ∧
    portSecured 0 (.session 3 (some 0)) = true ∧ portSecured 0 (.session 3 (some 1)) = false ∧ (4 : W32).getLsbD 2 ≠ dvPort.flag (aEt 0 + rEtMode) 2 ∧
    (0 : W32).getLsbD 2 = dvPort.flag (aEt 0 + rEtMode) 2 := by decide +kernel

/-- The loss of the source of a locked DT, with and without valid pulses, and of one that is not locked. -/
theorem witness_TimeSources_loss : let e (d : Dev) : Dev :=
      (match d.timePort with | some p => d.modPtp p fun _ => {} | none => d).modClock fun c => { c with ptp := false }
    ((e (({} : Dev).setTime 2)).timeState = 2 ∧ (e (({} : Dev).setTime 2)).ppsValid = false) ∧ (e (({} : Dev).setTime 1)).timeState ≠ 2 ∧
      (e ((({} : Dev).setTime 2).setBit (aCk + rCkState) 3)).ppsValid = true := by decide +kernel

/-- A port on which PTP runs, on UDP over IPv4. -/
def dvPtp : Dev := ((dvPort.setBit (aEt 0 + rEtPtpCfg) 0).setFld (aEt 0 + rEtPtpCfg) 2 1 1).setPw 2 0

/-- That port with a chosen master. -/
def dvMaster (k : Nat) : Dev := dvPtp.modPtp 0 fun q => { q with master := some k, delay := some 100 }

/-- A PTP message of 64 bytes of the given type, first byte of its flags, and sender. -/
def ptp0 (type flags src : Nat) : List Byte := beBytes type 1 ++ beBytes 2 1 ++ beBytes 0 4 ++ beBytes flags 1 ++ beBytes 0 13 ++ beBytes src 10 ++ beBytes 0 34

/-- The messages of the exchange: an Announce, a Sync of one step and of two, a Pdelay_Req; one of another domain, and one that is too short. -/
theorem witness_TimeSources_messages : (ptpParse (ptp0 11 0 7)).map (fun m => (m.type, m.domain, m.src, m.rank)) = some (11, 0, 7, 0) ∧
    (ptp0 11 0 7).length = 64 ∧ (ptpParse (ptp0 0 0 7)).map (fun m => (m.type, m.twoStep)) = some (0, false) ∧
    (ptpParse (ptp0 0 2 7)).map (fun m => (m.type, m.twoStep)) = some (0, true) ∧ (ptpParse (ptp0 2 0 7)).map (fun m => m.type) = some 2 ∧
    dvPtp.fld (aEt 0 + rEtPtpCfg) 11 4 = 0 ∧ (dvPtp.setFld (aEt 0 + rEtPtpCfg) 11 4 255).fld (aEt 0 + rEtPtpCfg) 11 4 ≠ 0 ∧
    (ptpParse ((ptp0 0 0 7).take 43)) = none := by decide +kernel

/-- The port takes part; it has no master, or one of identity 7 or 8 whose dataset is better or worse than that of an Announce of 7; it uses
the delay mechanism or that of the peers. -/
theorem witness_TimeSources_exchange : Passes dvPtp (env1 0x20) (ptpGroups 1) true dvPtp ∧ dvPtp.vidOk (env1 0x20) = true ∧
    (dvPtp.portUp 0 && dvPtp.flag (aEt 0 + rEtPtpCfg) 0 && dvPtp.hubRuns) = true ∧ dvPtp.ptpTransport 0 = (1 : Fin 3).val ∧ dvPtp.ptpTransport 0 ≠ (0 : Fin 3).val ∧
    (dvPtp.port 0).ptp.master = none ∧ ((dvMaster 8).port 0).ptp.master = some 8 ∧ (8 : Nat) % 2 ^ 80 ≠ 7 ∧ 0 * 2 ^ 80 + 7 < 8 ∧ (6 : Nat) ≤ 0 * 2 ^ 80 + 7 ∧
    (7 : Nat) % 2 ^ 80 = 7 ∧ ((dvMaster 7).port 0).ptp.delay = some 100 ∧ (dvMaster 7).timePort = some 0 ∧ dvPtp.timePort ≠ some 0 ∧
    dvPtp.ptpPeer 0 = false ∧ (dvPtp.setBit (aEt 0 + rEtPtpCfg) 3).ptpPeer 0 = true := by
  refine ⟨⟨by decide +kernel, rfl, Nat.le_refl 64, by decide +kernel, .inl (by decide +kernel), fun _ => rfl, ?_⟩, by decide +kernel⟩
  decide +kernel

/-- Holdover since DT 100: the alert is due at DT 60,000,000,100. -/
theorem witness_TimeSources_holdover : let d : Dev := { (({} : Dev).setTime 3) with clock := { holdover := some 100 }, dt := 60000000100 }
    d.clock.holdover = some 100 ∧ d.timeState = 3 ∧ (100 : W64).toNat + 60000000000 ≤ d.dt.toNat ∧
      ({ d with dt := 60000000099 } : Dev).dt.toNat < (100 : W64).toNat + 60000000000 := by decide +kernel

theorem witness_TimeSources_pps : let d := ({} : Dev).setPw 2 0
    d.hubRuns = true ∧ d.power.pps.window = none ∧ (({} : Dev).setPw 4 0).hubRuns = false ∧ d.power.input = true ∧ (d.modPower fun q => { q with input := false }).power.input = false ∧
      (d.modPin 3 fun p => { p with high := false }).power.pps.high = false ∧ d.power.pps.high = true ∧
      (let e := d.modPin 3 fun p => { p with window := some 1000000 }
       e.power.pps.window = some 1000000 ∧ e.dt.toNat < (1000000 : W64).toNat ∧ (1000000 : W64).toNat ≤ ({ e with dt := 1000000 } : Dev).dt.toNat) := by
  decide +kernel

/-- Pulses at both limits of 1 s, and pulses that are 1 ns beyond them. -/
theorem witness_TimeSources_pulse : [(999900000, true), (1000100000, true), (999899999, false), (1000100001, false)].all (fun (p : Nat × Bool) =>
    let d : Dev := { clock := { pps := some 5 }, dt := BitVec.ofNat 64 (p.1 + 5) }
    d.clock.pps == some 5 && decide ((5 : W64).toNat + 1000000000 ≤ d.dt.toNat + 100000 ∧ d.dt.toNat ≤ (5 : W64).toNat + 1000100000) == p.2) = true := by
  decide +kernel

theorem witness_TimeSources_set : ({} : Dev).pwState ≤ 1 ∧ (({} : Dev).setPw 0 0).pwState = 0 ∧ 1 < (({} : Dev).setPw 2 0).pwState ∧ isBus (.firmware 0) = false ∧
    ({} : Dev).power.cold = none ∧ (({} : Dev).setPw 1 4).pwState = 1 ∧ (({} : Dev).setPw 1 4).pwStep = 4 := by decide +kernel

/-! ### MBT sessions -/

/-- A cold start on which everything passes. -/
def env0 : ColdEnv :=
  { inRange := true, cellLost := false, badCopy0 := false, badCopy1 := false, identity := true, piles := [], badCores := [], links := [], time := none, ms := [] }

/-- An OPEN from address 5 for session `want`, from the peer's session 3 with first number 10; `flags` 4 asks to resume. -/
def openFor (want flags : Nat) (body : List Byte := leBytes 3 4 ++ leBytes 10 4 ++ leBytes 0 8) : InMsg :=
  { port := 0, msg := { type := 1, session := want, flags := flags, body := body }, arrived := 0, src := 5, srcUdp := 7 }

/-- A device whose session 1 is in state `state` with peer 5 at port 7, its session 3. -/
def dvSession (state : Nat) (f : Session → Session := id) : Dev :=
  ({} : Dev).modSession 1 fun x => f { x with state := state, addr := 5, udp := 7, peerSession := 3 }

theorem witness_SessionsOpen_address : (openFor 1 0 []).msg.body.length ≠ 16 ∧ (openFor 1 0).msg.body.length = 16 ∧ ({} : Dev).allowed 5 = true ∧
    (({} : Dev).wr (aMt + rMtAllow + 16) 0x180).allowed 5 = false ∧ ({} : Dev).pairMode = 0 ∧ ({} : Dev).freeSession = some 0 ∧
    ¬ (4096 : Nat) < 4096 := by decide +kernel

/-- Open sessions from `a` on. -/
def openRun (a : Nat) : Nat → Sparse Session
  | 0 => []
  | n + 1 => (a, { state := 2 }) :: openRun (a + 1) n

theorem openRun_get (n : Nat) : ∀ a s : Nat, a ≤ s → s < a + n → (sget (fun _ => {}) (openRun a n) s).state = 2 := by
  induction n with
  | zero => intro a s h1 h2; omega
  | succ n ih =>
    intro a s h1 h2
    rw [openRun, sget]
    split
    · rfl
    · rw [if_neg (by omega)]
      exact ih (a + 1) s (by omega) (by omega)

/-- No session is free: 0 to 4,094 are open. -/
theorem witness_SessionsOpen_full : ({ net := { sessions := openRun 0 4095 } } : Dev).freeSession = none := by
  unfold Dev.freeSession
  rw [List.find?_eq_none]
  intro s h
  have h : s < 4095 := by simpa [upto] using h
  have e := openRun_get 4095 0 s (Nat.zero_le s) (by omega)
  simp only [Dev.session, e]
  decide

theorem witness_SessionsOpen_states : [0, 1, 2, 3].all (fun st => ((dvSession st).session 1).state == st && ((dvSession st).session 1).fromPeer (openFor 1 0) &&
      !((dvSession st).session 1).fromPeer { openFor 1 0 with srcUdp := 8 } &&
      ((dvSession st).session 1).peerSession.toNat == leNat (bytesAt (openFor 1 0).msg.body) 0 2) = true ∧
    bit (openFor 1 4).msg.flags 2 = true ∧ bit (openFor 1 0).msg.flags 2 = false ∧ atHead (inbox (dvSession 1) (openFor 1 0)) (openFor 1 0) [] :=
  ⟨by decide +kernel, by decide, by decide, rfl, rfl⟩

/-- R411: the OPEN opens session 1, which expects the peer's first number. -/
theorem test_open : let d := (next (st {}) (exec .openMsg (st (inbox {} (openFor 1 0))))).dev
    ((d.session 1).state, (d.session 1).rxExpect) = (2, 10) := by decide +kernel

/-- A message of the peer on session 1. -/
def small (type : Nat) (body : List Byte) : InMsg :=
  { port := 0, msg := { type := type, session := 1, body := body }, arrived := 0, src := 5, srcUdp := 7 }

theorem witness_SessionUpkeep_messages : ((dvSession 2).session 1).state = 2 ∧ ((dvSession 2).session 1).fromPeer (small 3 []) = true ∧
    ((dvSession 1).session 1).state ≠ 2 ∧ ((dvSession 1).session 1).fromPeer (small 2 (leBytes 3 16)) = true ∧
    ((dvSession 1).session 1).peerSession.toNat = leNat (bytesAt (leBytes 3 16)) 0 2 ∧ (leBytes 3 16).length = 16 ∧ (leBytes 0 4).length = 4 ∧
    mbtKnown 0x60 = false ∧ mbtSequenced 0x60 = true ∧ mbtKnown 0x49 = false ∧ mbtSequenced 0x49 = false := by decide +kernel

/-- A NAK from the number of the oldest message, after 7 and after 8 resends without an ack that advances; one that acks it; one of no message. -/
theorem witness_SessionUpkeep_nak : [7, 8].all (fun n =>
      let x := (dvSession 2 fun x => { x with unacked := [{ msg := { type := 0x12, session := 1, seq := 4 }, sentAt := 0 }], retries := n }).session 1
      x.retries == n && (x.unacked.any fun u => decide (0 < serialDiff 5 u.msg.seq)) && !(x.unacked.any fun u => decide (0 < serialDiff 4 u.msg.seq)) &&
        !(x.unacked.all fun u => decide (serialDiff u.msg.seq (nakStart (small 5 (leBytes 4 4)).msg) < 0)) &&
        x.unacked.all fun u => decide (serialDiff u.msg.seq (nakStart (small 5 (leBytes 5 4)).msg) < 0)) = true := by decide +kernel

theorem witness_SessionUpkeep_heads : ∀ t ∈ [2, 3, 4, 5, 6, 7, 0x60], atHead (inbox (dvSession 2) (small t [])) (small t []) [] ∧ (small t []).msg.type = t := by
  intro t _; exact ⟨⟨rfl, rfl⟩, rfl⟩

/-- An unacknowledged message sent at DT 0: due at DT 20,000. -/
def sent0 : Sent := { msg := { type := 0x12, session := 1, seq := 4 }, sentAt := 0 }

theorem witness_SessionUpkeep_retransmit : [7, 8].all (fun n =>
      let d := dvSession 2 fun x => { x with unacked := [sent0], retries := n }
      (d.session 1).unacked == [sent0] && (d.session 1).state == 2 && decide ((d.session 1).retries = n) &&
        decide (sent0.sentAt.toNat + 20000 ≤ ({ d with dt := 20000 } : Dev).dt.toNat) &&
        decide (({ d with dt := 19999 } : Dev).dt.toNat < sent0.sentAt.toNat + 20000)) = true ∧ ((dvSession 2).session 1).unacked = [] := by decide +kernel

theorem witness_SessionUpkeep_timers : (let d := dvSession 2 fun x => { x with ackOwed := some 100 }
     (d.session 1).ackOwed = some 100 ∧ (d.session 1).state = 2 ∧ (100 : W64).toNat + 2000 ≤ ({ d with dt := 2100 } : Dev).dt.toNat ∧
       ({ d with dt := 2099 } : Dev).dt.toNat < (100 : W64).toNat + 2000) ∧ ((dvSession 2).session 1).ackOwed = none ∧
    [7, 8].all (fun n =>
      let d := dvSession 1 fun x => { x with opens := n }
      (d.session 1).state == 1 && (d.session 1).opens == n && decide ((d.session 1).openAt.toNat + 20000 ≤ ({ d with dt := 20000 } : Dev).dt.toNat)) = true ∧
    (let d : Dev := { dvSession 3 with dt := 2000000 }
     (d.session 1).state = 3 ∧ (d.session 1).suspendedAt.toNat + 2000000 ≤ d.dt.toNat) ∧
    ({} : Dev).selected = 0 ∧ (({} : Dev).session ({} : Dev).selected).state = 0 ∧
    (let d := (dvSession 2).wr (aMt + rMtSel) 1
     d.selected = 1 ∧ (d.session d.selected).state = 2) := by decide +kernel

theorem witness_DataAndControlMessages_turn : (small 0x20 []).msg.response = false ∧
    ({ obs := { marks := [{ tick := 1000, asked := [(1, 4)] }] } } : Dev).obs.awaiting.contains 1 = true ∧
    ({ obs := { deferred := [small 0x21 []] } } : Dev).obs.deferred.any (fun x => x.msg.session == 1) = true ∧
    (({} : Dev).obs.awaiting.contains 1 || ({} : Dev).obs.deferred.any fun x => x.msg.session == 1) = false := by decide +kernel

/-- A MARK for the tick that its session waits for, and one for another. -/
theorem witness_DataAndControlMessages_mark : let d : Dev := { obs := { marks := [{ tick := 1000, asked := [(1, 4)] }] } }
    d.markFollows (small 0x30 (leBytes 1000 8)) = true ∧ d.markFollows (small 0x30 (leBytes 900 8)) = false := by decide +kernel

/-- A DREAD of 16 MiB at 64; one of 0 bytes; bodies of another form; and a body with and without poisoned words. -/
theorem witness_DataAndControlMessages_dread : (let b := leBytes 64 8 ++ leBytes 0x1000000 4 ++ leBytes 0 4
     b.length = 16 ∧ leNat (bytesAt b) 12 4 = 0 ∧ leNat (bytesAt b) 0 8 % 64 = 0 ∧ leNat (bytesAt b) 8 4 % 64 = 0 ∧ 64 ≤ leNat (bytesAt b) 8 4 ∧
       leNat (bytesAt b) 8 4 ≤ 2 ^ 24) ∧
    (let b := leBytes 64 8 ++ leBytes 0 8
     b.length = 16 ∧ leNat (bytesAt b) 12 4 = 0 ∧ ¬ 64 ≤ leNat (bytesAt b) 8 4) ∧ ¬ ([] : List Byte).length = 16 ∧ (small 0x22 []).poison = [] ∧
    ({ small 0x22 [] with poison := [0] } : InMsg).poison ≠ [] := by decide +kernel

/-- A DWRITE of 4 bytes at 0x3000, one at 0x3002, one at an address mapped to nothing, each not poisoned and poisoned. -/
theorem witness_DataAndControlMessages_dwrite : ({} : Dev).safeHold = false ∧ (({} : Dev).setPw 6 0).safeHold = true ∧ ({} : Dev).isSecondary = false ∧
    (small 0x23 []).msg.body.length < 8 ∧
    (let m := small 0x23 (leBytes 0x3000 8 ++ leBytes 1 4)
     8 ≤ m.msg.body.length ∧ m.poison.contains 0 = false ∧ ({ m with poison := [0] }).poison.contains 0 = true ∧ (writeOf m).addr = 0x3000 ∧
       (writeOf m).data.length = 4 ∧ 4 ≤ ({} : Dev).maxBody - 8 ∧ inOneUnit (writeOf m).addr (writeOf m).data.length = true) ∧
    (writeOf (small 0x23 (leBytes 0x3002 8 ++ leBytes 1 4))).addr % 4 ≠ 0 ∧ inOneUnit 0x24000000 4 = false := by decide +kernel

theorem witness_MarksAndTelemetry : (let d : Dev := { obs := { marks := [{ tick := 1000, asked := [(1, 4)] }] }, dt := 1000 }
     d.obs.marks = [{ tick := 1000, asked := [(1, 4)] }] ∧ d.hubRuns = true ∧ (1000 : W64).toNat ≤ d.dt.toNat ∧
       ({ d with dt := 999 } : Dev).dt.toNat < (1000 : W64).toNat) ∧ ({} : Dev).obs.marks = [] ∧ ({} : Dev).dt.toNat % 1000000 = 0 ∧
    ({ dt := 999999 } : Dev).dt.toNat % 1000000 ≠ 0 ∧ (({} : Dev).setPw 4 0).hubRuns = false ∧ ({} : Dev).reaches .bus rDvTeleSeq = true ∧
    (({} : Dev).setPw 0 0).reaches .bus rDvTeleSeq = false := by decide +kernel

/-- A pair in which this module is secondary. -/
def dvSecondary : Dev := { (({} : Dev).setTether 3 false) with ember := { store := [(0x90, 1)] } }

theorem witness_DataAndControlMessages_secondary : dvSecondary.isSecondary = true ∧ dvSecondary.safeHold = false := by decide +kernel

/-! ### Control space and the Tether -/

theorem witness_ControlSpaceAccess_words : halfAt (aCo 0 0 + rCoPfIssue) = 1 ∧ halfAt (aCo 0 0 + rCoPfIssue + 4) = 2 ∧ halfAt (aDv + rDvShadowBase) = 0 ∧
    (wordAt (aDv + rDvShadowBase)).isSome = true ∧ halfAt 0xFF0000 = 0 ∧ wordAt 0xFF0000 = none ∧ aCo 0 0 + rCoPfIssue ≠ rDvTeleSeq ∧
    aCo 0 0 + rCoPfIssue < 2 ^ 32 := by decide +kernel

theorem witness_ControlSpaceAccess_open : [Requester.bus, .session 3 none, .firmware 2].all (fun who =>
      ({} : Dev).reaches who (aCo 0 0 + rCoPfIssue) && !({} : Dev).writeClosed who (aDv + rDvShadowBase) 5) = true ∧
    (({} : Dev).countUnmapped (aCo 0 0 + rCoPfIssue)).locked (aCo 0 0 + rCoPfIssue) = false ∧
    ((fenced0 {}).countUnmapped (aCo 0 0 + rCoPfIssue)).locked (aCo 0 0 + rCoPfIssue) = true ∧
    (({} : Dev).setPw 4 0).reaches .bus (aCo 0 0 + rCoPfIssue) = false ∧ ({} : Dev).writeClosed (.session 3 none) (aSc + rScArbCmd) 1 = true ∧
    ((aDv + rDvShadowBase + 2) % 4 ≠ 0) := by decide +kernel

theorem witness_ControlSpaceAccess_bus : ({} : Dev).busServed = true ∧ (({} : Dev).setPw 0 0).busServed = false ∧ ({} : Dev).obs.smbAddr.toNat % 4 = 0 ∧
    ({ obs := { smbAddr := 2 } } : Dev).obs.smbAddr.toNat % 4 ≠ 0 ∧ ({} : Dev).locked (aDv + rDvShadowBase) = false ∧
    (blockOf (aDv + rDvShadowBase)).isSome = true ∧ ({} : Dev).writeClosed .bus (aDv + rDvShadowBase) 5 = false := by decide +kernel

/-- A write over the management bus is a step of the device. -/
theorem witness_ControlSpaceAccess_takes : ∃ e, Takes (.regWrite .bus 0 5) {} e :=
  ⟨({} : Dev).regWrite .bus 0 5, fun _ _ => rfl⟩

theorem witness_ClearsAndTables_blocks : [aCo 7 39, aRn 7, aRs 7, aSt 7 7].all (fun a => !({} : Dev).locked a) = true ∧
    [aCo 0 39, aRn 0, aRs 0, aSt 0 7].all (fun a => (fenced0 {}).locked a) = true ∧ (recordAt aErDv).isSome = true ∧ aErDv < 2 ^ 32 ∧
    ({} : Dev).reaches .bus (aCo 7 39 + rCoArithClear) = true ∧ (({} : Dev).setPw 4 0).reaches .bus (aCo 7 39 + rCoArithClear) = false ∧
    (({} : Dev).setPw 4 0).reaches (.firmware 0) (aCo 7 39 + rCoArithClear) = true := by decide +kernel

/-- R518: in Pilot state the bus clears a hub block, and not a region's. -/
theorem test_clear_reach : let d := (({} : Dev).setPw 4 0).wr (aLl + rLlAccepts) 3
    ((next (st {}) (exec (.llClear .bus) (st d))).dev.rd (aLl + rLlAccepts), (next (st {}) (exec (.rnStClear .bus 0) (st (d.wr64 (aRs 0 + rRnStCorrected) 3)))).dev.rd64
      (aRs 0 + rRnStCorrected)) = (0, 3) := by decide +kernel

theorem witness_ClearsAndTables_tables : (({} : Dev).setBit (aHb + rHbFlkState) 0).flag (aHb + rHbFlkState) 0 = true ∧ ({} : Dev).flag (aHb + rHbFlkState) 0 = false ∧
    (∃ t ∈ [task6], t.started = true) ∧ (4 : W32).getLsbD 0 = false ∧ (5 : W32).getLsbD 0 = true ∧ ({} : Dev).pwinOk 15 = false ∧
    ((({} : Dev).wr64 (aMt + rMtPwinBase + 480) pilesBase).wr64 (aMt + rMtPwinLen + 480) 64).pwinOk 15 = true :=
  ⟨by decide +kernel, by decide +kernel, ⟨task6, .head _, rfl⟩, by decide +kernel, by decide +kernel, by decide +kernel, by decide +kernel⟩

/-- A message of the peer at address 0 on the Tether session. -/
def tmsg (type : Nat) (body : List Byte) : InMsg := { port := 0, msg := { type := type, session := tether, body := body }, arrived := 0 }

/-- A device in Tether state `state` with serial number 1 and a stored record of binding 9 and mode `mode`. -/
def dvTether (state mode : Nat) (primary : Bool) : Dev :=
  { (({} : Dev).setTether state primary) with ember := { store := cellsAt 0x18 (leBytes 1 8) ++ [(0x80, 9), (0x90, BitVec.ofNat 8 mode)] } }

theorem witness_TetherMessages_heads : ∀ t ∈ [0x45, 0x40, 0x44, 0x42, 0x43, 0x41, 0x48], atHead (inbox (dvTether 2 1 false) (tmsg t [])) (tmsg t []) [] ∧
    (tmsg t []).msg.session = tether ∧ (small t []).msg.session ≠ tether := by
  intro t _; exact ⟨⟨rfl, rfl⟩, rfl, by show (1 : Nat) ≠ tether; decide⟩

theorem witness_TetherMessages_pair : (dvTether 2 1 false).ttState ≠ 0 ∧ (dvTether 0 0 false).ttState = 0 ∧ (leBytes 9 8).length = 8 ∧
    leNat (bytesAt (leBytes 9 8)) 0 8 = (dvTether 2 1 false).pairBinding ∧
    (let d := dvTether 1 1 false
     d.ttState = 1 ∧ d.joinValid (bytesAt (leBytes 9 8 ++ leBytes 1 8 ++ leBytes 1 96)) = true ∧ (leBytes 9 8 ++ leBytes 1 8 ++ leBytes 1 96).length = 112) ∧
    (dvTether 1 1 false).joinValid (bytesAt []) = false := by decide +kernel

theorem witness_TetherMessages_bodies : (leBytes 0 200).length = 200 ∧
    ((dvTether 2 1 false).modTwin fun t => { t with joined := some ⟨1, 1, 1, true, 0⟩ }).twin.joined.isSome = true ∧ (dvTether 2 1 false).twin.joined = none ∧
    (dvTether 2 1 false).isSecondary = true ∧ (dvTether 2 1 true).isSecondary = false ∧ (dvTether 2 2 false).isSecondary = true ∧
    (dvTether 2 1 false).pairMode = 1 ∧ (dvTether 2 2 false).pairMode ≠ 1 ∧ (112 : Nat) ≤ (leBytes 0 176).length ∧ (leBytes 0 24).length = 24 ∧
    (((dvTether 3 1 true).setFld (aTt + rTtState) 5 4 1).replicates) = true ∧ (dvTether 2 1 true).replicates = false := by decide +kernel

theorem witness_TetherMessages_fwd : mbtParse (([] : List Byte).drop 8) = none ∧
    [0x23, 0x12, 0x13, 0x11].all (fun t =>
      let h : Mbt := { type := t, session := 2 }
      let b := leBytes 2 2 ++ leBytes 0 2 ++ leBytes 4 4 ++ h.bytes
      mbtParse (b.drop 8) == some h && leNat (bytesAt b) 2 2 == 0 && !h.response) = true := by decide +kernel

theorem witness_TetherMessages_beats : [2, 3].all (fun s => (dvTether s 1 false).ttState == s) = true ∧ (dvTether 4 1 false).ttState = 4 ∧
    (leBytes 0 32).length = 32 ∧ leNat (bytesAt (leBytes 0 32)) 0 8 = (dvTether 3 1 false).pairPeerSerial ∧ (tmsg 0x48 []).src = (dvTether 3 1 false).peerIp ∧
    bit (leNat (bytesAt (leBytes 0 25 ++ [2])) 25 1) 1 = true ∧ bit (leNat (bytesAt (leBytes 0 32)) 25 1) 1 = false ∧
    ¬ leNat (bytesAt (leBytes 1 32)) 0 8 = (dvTether 3 1 false).pairPeerSerial := by decide +kernel

/-- Bodies of another length, or with a reserved field that is not 0; and a SOLO module whose twin has joined, which still exchanges beats. -/
theorem witness_TetherMessages_refused : ([] : List Byte).length ≠ 8 ∧ ([] : List Byte).length ≠ 24 ∧ ¬ 112 ≤ ([] : List Byte).length ∧
    ((leBytes 0 4 ++ leBytes 1 196).length = 200 ∧ leNat (bytesAt (leBytes 0 4 ++ leBytes 1 196)) 4 4 ≠ 0) ∧
    (let d := (dvTether 4 1 true).modTwin fun t => { t with joined := some ⟨1, 1, 1, true, 0⟩ }
     d.ttState = 4 ∧ d.twin.joined.isSome = true ∧ d.hubRuns = true) := by decide +kernel

theorem witness_TetherControl_beats : (dvTether 3 1 true).beats = true ∧ (dvTether 1 1 true).beats = false ∧ (dvTether 3 1 true).dt.toNat % 8000 = 0 ∧
    ({ dvTether 3 1 true with dt := 7999 } : Dev).dt.toNat % 8000 ≠ 0 ∧ (dvTether 3 1 true).hubRuns = true ∧ (dvTether 3 1 true).twin.heard = false ∧
    [1, 2].all (fun n => ((dvTether 3 1 true).modTwin fun t => { t with missed := n }).twin.missed == n) = true := by decide +kernel

theorem witness_TetherControl_seek : (let d := (dvTether 1 1 false).setBit (aEt 0 + rEtState) 0
     d.ttState = 1 ∧ d.twin.seekAt = none ∧ d.tetherPaths = [(0, 0, false)] ∧ (dvTether 1 1 false).tetherPaths = []) ∧
    (let d : Dev := { ((dvTether 1 1 false).setPw 2 0) with dt := 16000000000 }
     d.ttState = 1 ∧ d.lit = true ∧ d.pairServes = true ∧ 16000000000 ≤ (d.dt - d.twin.poweredAt).toNat ∧
       ¬ 16000000000 ≤ (({ d with dt := 15999999999 } : Dev).dt - d.twin.poweredAt).toNat) := by decide +kernel

/-- A JOINED device of a pair of mode 3 whose STATEs have met. -/
def dvJoined : Dev := (dvTether 2 3 true).modTwin fun t => { t with stateSent := [0], stateGot := some (leBytes 0 192) }

theorem witness_TetherControl_ready : dvJoined.ttState = 2 ∧ dvJoined.pairAgrees = true ∧ dvJoined.pairMode = 3 ∧ dvJoined.ttPrimary = true ∧
    (dvTether 2 1 true).pairAgrees = false ∧ (dvTether 2 1 false).ttPrimary = false ∧ (dvTether 5 1 true).ttState = 5 ∧
    ((dvTether 5 1 true).session tether).state ≠ 2 ∧ (((dvTether 5 1 true).modSession tether fun x => { x with state := 2 }).session tether).state = 2 := by
  decide +kernel

theorem witness_TetherControl_commit : anySecured .bus = true ∧ anySecured (.session 3 none) = false ∧ pairRecordOk ({} : Dev).pairStaged = true ∧
    pairRecordOk (({} : Dev).wr (aTt + rTtPair + 16) 4).pairStaged = false ∧ ({} : Dev).scClosed = false ∧ (({} : Dev).setPw 4 0).scClosed = true ∧
    ({} : Dev).em 0x21 1 < 64 ∧ 64 ≤ ({ ember := { store := [(0x21, 64)] } } : Dev).em 0x21 1 ∧
    ({ ember := { store := [(0x80, 9)] } } : Dev).pairStaged ≠ ({ ember := { store := [(0x80, 9)] } } : Dev).emBytes 0x80 96 := by decide +kernel

/-! ### Errors, ageing and power -/

theorem witness_ErrorsEscalate_cores : ({} : Dev).watched 0 39 = true ∧ (fenced0 {}).watched 0 39 = false ∧
    (({} : Dev).modRegion 0 fun g => { g with recovering := true }).region 0 ≠ ({} : Dev).region 0 ∧ (({} : Dev).region 0).recovering = false ∧
    ({} : Dev).handling (aErCo 0 0) = false ∧ (({} : Dev).setHandling (aErCo 0 0) true).handling (aErCo 0 0) = true ∧
    [0, 1].all (fun n => decide ((0 :: ({} : Dev).withinDay (List.replicate n 0)).length < 3)) = true ∧
    3 ≤ (0 :: ({} : Dev).withinDay (List.replicate 2 0)).length ∧ (({} : Dev).wr (aRn 0 + rRnLmap) 0).logicalOf 0 0 = some 0 ∧
    ({} : Dev).logicalOf 0 39 = none := by decide +kernel

/-- An error that repeats one of its cycle, at a lane, a core, a region and a slice. -/
theorem witness_ErrorsEscalate_again : [(aErLane 0 0 5, 1, 0x02, 0, 1), (aErCo 0 0, 16, 0x11, 3, 4), (aErRn 0, 128, 0x23, 3, 0), (aErRn 0, 128, 0x22, 3, 0),
    (aErDv, 256, 0x41, 2, 0)].all (fun (p : Nat × Nat × Nat × Nat × Nat) =>
      (({} : Dev).enterError p.1 p.2.1 0x8001 p.2.2.1 p.2.2.2.1 p.2.2.2.2 0 0).sameCycle p.1 p.2.2.1 p.2.2.2.1 p.2.2.2.2 &&
        !({} : Dev).sameCycle p.1 p.2.2.1 p.2.2.2.1 p.2.2.2.2) = true := by decide +kernel

theorem witness_ErrorsEscalate_lanes : dvChunk.watched 0 0 = true ∧ (dvChunk.ctx? tk).isSome = true ∧ (dvChunk.ctx tk).chunk? 1 = none ∧
    (dvChunk.ctx tk).chunk? 0 = some chunk0 ∧ chunk0.errReplayed.getLsbD 63 = false ∧ ({ chunk0 with errReplayed := 1 <<< 63 }).errReplayed.getLsbD 63 = true ∧
    ({} : Dev).ctx? tk = none := by decide +kernel

/-- A region with a spare under test, and one whose substitution began at DT 1. -/
def dvSubst : Dev := ({} : Dev).modRegion 0 fun g => { g with substs := [{ index := 35, snuffed := 3, spare := 36 }], snuffedAt := [(35, 1)] }

theorem witness_ErrorsEscalate_spares : ((dvSubst.region 0).substs.find? fun s => s.index == 35) = some ⟨35, 3, 36⟩ ∧
    ((dvSubst.region 0).substs.find? fun s => s.index == 0) = none ∧
    (let t := sget (fun _ => 0) (dvSubst.region 0).snuffedAt 35
     t ≠ 0 ∧ t.toNat + 2000000 ≤ ({ dvSubst with dt := 2000001 } : Dev).dt.toNat ∧ ¬ t.toNat + 2000000 ≤ ({ dvSubst with dt := 2000000 } : Dev).dt.toNat ∧
       dvSubst.flag (lmapAt 0 35) 7 = false) := by decide +kernel

theorem witness_ErrorsEscalate_regions : ({} : Dev).regionFenced 0 = false ∧ (fenced0 {}).regionFenced 0 = true ∧ ({} : Dev).handling (aErRn 0) = false ∧
    (({} : Dev).setHandling (aErRn 0) true).handling (aErRn 0) = true ∧ ({} : Dev).flag (aRs 0 + rRnStSlice) 3 = false ∧
    (({} : Dev).setBit (aRs 0 + rRnStSlice) 3).flag (aRs 0 + rRnStSlice) 3 = true ∧
    ((({} : Dev).modRegion 0 fun g => { g with recovering := true }).region 0).recovering = true := by decide +kernel

theorem witness_LinksAndHub : ({} : Dev).handling aErDv = false ∧ (({} : Dev).setHandling aErDv true).handling aErDv = true ∧
    (0 :: ({} : Dev).withinDay ({} : Dev).links.begun).length < 3 ∧
    (let d : Dev := { links := { recovering := some 2, begun := [0, 0] } }
     3 ≤ (d.dt :: d.withinDay d.links.begun).length ∧ d.links.recovering.isSome = true) ∧ ({} : Dev).links.recovering = none ∧
    (let h := ({} : Dev).enterError aErDv 256 0x8009 0x43 0 0 0 0
     h.safeHold = false ∧ h.fld (aPw + rPwState) 2 0 ≠ 0) := by decide +kernel

/-- A gauge of slack `s` ps. -/
def gauge (s : Int) : Gauge := { slack := BitVec.ofInt 10 s, mhz := 100 }

/-- Region 0 at voltage step `v` and clock `f`, in a taper run, with target 40 and floor 10. -/
def dvTaper (v f : Nat) : Dev :=
  (((({} : Dev).setFld (aTp 0 + rTpState) 3 0 v).setFld (aTp 0 + rTpState) 21 11 f).setBit (aTp 0 + rTpState) 7).setFld (aTp 0 + rTpCfg) 15 0 (40 + 10 * 256)

theorem witness_TaperRuns_start : ({} : Dev).regionFenced 0 = false ∧ ({} : Dev).flag (aTp 0 + rTpState) 7 = false ∧ ({} : Dev).locked (aTp 0) = false ∧
    (let d : Dev := { dt := 0xFFFFFFFFFFFFFF }
     d.rd64 (aTp 0 + rTpLastAt) + 3600000000000 * d.fld (aTp 0 + rTpCfg) 23 16 ≤ d.dt.toNat) ∧
    ¬ ({} : Dev).rd64 (aTp 0 + rTpLastAt) + 3600000000000 * ({} : Dev).fld (aTp 0 + rTpCfg) 23 16 ≤ ({} : Dev).dt.toNat := by decide +kernel

/-- Measurements at each branch: below the target with a step left, at the target, and at the last step at a clock above 1,000 MHz, and at
1,000 MHz on and below the floor. -/
theorem witness_TaperRuns_measures : [((39 : Int), 11, 1600), (40, 11, 1600), (39, 12, 1600), (10, 12, 1000), (9, 12, 1000)].all (fun (p : Int × Nat × Nat) =>
      let d := dvTaper p.2.1 p.2.2
      let gs := [gauge p.1, gauge 100, gauge 100, gauge 100]
      let best := gs.zipIdx.foldl (fun (m : Int × Nat) g => if g.1.slack.toInt < m.1 then (g.1.slack.toInt, g.2) else m) (511, 0)
      let e := (d.showGauges 0 gs).modRegion 0 fun x => { x with slack := best.1 }
      best.1 == p.1 && e.fld (aTp 0 + rTpCfg) 7 0 == 40 && e.fld (aTp 0 + rTpCfg) 15 8 == 10 && e.fld (aTp 0 + rTpState) 3 0 == p.2.1 && e.fMhz 0 == p.2.2 &&
        d.flag (aTp 0 + rTpState) 7 && (d.region 0).taperPhase != 2 && !(e.region 0).taperChanged && !e.handling (aErRn 0)) = true := by decide +kernel

theorem witness_TaperRuns_notch : ((dvTaper 12 1600).setBit (aTp 0 + rTpState) 8).flag (aTp 0 + rTpState) 8 = true ∧ (dvTaper 12 1600).notchMeets 0 = true ∧
    (dvTaper 12 1600).flag (aTp 0 + rTpState) 8 = false ∧
    { dvTaper 12 1600 with tasks := [{ task5 with start := 8000, deadline := 8000 }] }.notchMeets 0 = false := by decide +kernel

theorem witness_PowerAndPins_input : (({} : Dev).setPw 0 0).pwState = 0 ∧ ({} : Dev).power.input = true ∧
    (({} : Dev).modPower fun p => { p with input := false }).power.input = false ∧ ({} : Dev).pwState = 1 ∧ ({} : Dev).pwStep = 1 ∧
    ({} : Dev).power.cold = none ∧ ({} : Dev).pastStep1 = false ∧ (({} : Dev).setPw 1 2).pastStep1 = true ∧ (({} : Dev).setPw 6 0).pwState = 6 ∧
    (({} : Dev).modPower fun p => { p with cold := some env0 }).power.cold = some env0 := by decide +kernel

theorem witness_PowerAndPins_pins : ({} : Dev).power.warn.high = true ∧ ({} : Dev).power.throttle.high = true ∧
    (let d := ({} : Dev).modPin 1 fun p => { p with high := false, window := some 1000000 }
     d.power.warn.high = false ∧ (d.pin 1).window = some 1000000 ∧ (d.pin 1).high ≠ (d.pin 1).acted ∧ d.dt.toNat < (1000000 : W64).toNat) ∧
    (({} : Dev).modPin 2 fun p => { p with high := false }).power.throttle.high = false ∧ ({} : Dev).clock.pps = none ∧
    ({} : Dev).power.throttle.window = none := by decide +kernel

theorem witness_PowerStates_manager : ({} : Dev).pwState ≠ 0 ∧ (({} : Dev).setPw 0 0).pwState = 0 ∧ dvPile.pileReady 0 = true ∧ ({} : Dev).pileReady 0 = false ∧
    105 < (106 : Byte).toNat ∧ (105 : Byte).toNat ≤ 105 ∧ (95 : Byte).toNat ≤ 95 ∧
    (let d := (({} : Dev).setPw 2 0).modPower fun p => { p with hotMask := 1 }
     d.throttles 0 = true ∧ d.regionFenced 0 = false ∧ d.lit = true ∧ d.tasks = []) ∧ ({} : Dev).throttles 0 = false := by decide +kernel

theorem witness_PowerStates_pilot : (({} : Dev).setPw 2 0).lit = true ∧ ({} : Dev).lit = false ∧
    (let d := (({} : Dev).setPw 2 0).setBit (aPw + rPwState) 6
     d.lit = true ∧ d.flag (aPw + rPwState) 6 = true ∧ d.tasks = []) ∧ (({} : Dev).setPw 3 0).pwState = 3 ∧ (({} : Dev).setPw 4 0).pwState = 4 ∧
    (∀ n < 8, (({} : Dev).pile n).nmo = none) := by decide +kernel

/-- A device on its way to Pilot with every region fenced. -/
def dvEntering : Dev := (upto 8).foldl (fun d r => d.setBit (aRn r + rRnState) 4) (({} : Dev).setPw 3 0)

theorem witness_PowerStates_wake : dvEntering.pilotDone.power.wake = none ∧
    (let w : WakeEnv := { recalibrated := [], failed := [], badCores := [], slow := false }
     (dvEntering.modPower fun p => { p with wake := some w }).pilotDone.power.wake = some w) := by decide +kernel

theorem witness_SecurityAndStore_block : ({} : Dev).scClosed = false ∧ (({} : Dev).setScBusy true).scClosed = true ∧
    (({} : Dev).setBit (aSc + rScState) 2).flag (aSc + rScState) 2 = true ∧ ({} : Dev).flag (aSc + rScState) 2 = false ∧ ({} : Dev).sec.job = none ∧
    ({ sec := { job := some (.stage 64) } } : Dev).sec.job = some (.stage 64) ∧ ({ sec := { job := some (.quote [1]) } } : Dev).sec.job = some (.quote [1]) ∧
    ({ sec := { job := some (.challenge [1]) } } : Dev).sec.job = some (.challenge [1]) ∧ isBus (.session 3 none) = false ∧ ({} : Dev).sec.change = none ∧
    ({ sec := { change := some ⟨5, []⟩ } } : Dev).sec.change = some ⟨5, []⟩ ∧ (({} : Dev).setBit (aEm + rEmState) 3).flag (aEm + rEmState) 3 = true ∧
    ({} : Dev).flag (aEm + rEmState) 3 = false := by decide +kernel

/-- A device whose Ember store holds the given bytes. -/
def dvEmber (cells : List (Nat × Byte)) : Dev := { ember := { store := cells } }

theorem witness_SecurityAndStore_counters : 256 ≤ (dvEmber [(0x24, 0), (0x25, 1)]).arb ∧ (dvEmber [(0x24, 255), (0x25, 0)]).arb < 256 ∧
    (dvEmber [(0x24, 5)]).runRollback < (dvEmber [(0x24, 5)]).arb + 1 ∧
    (let d := (dvEmber [(0x24, 5)]).setFld (aSc + rScState) 31 16 6
     d.arb + 1 ≤ d.runRollback) ∧ 8 ≤ (dvEmber [(0x20, 8)]).em 0x20 1 ∧ (dvEmber [(0x20, 7)]).em 0x20 1 < 8 ∧
    16 ≤ (dvEmber [(0x22, 16)]).em 0x22 1 ∧ (dvEmber [(0x22, 15)]).em 0x22 1 < 16 ∧ (dvEmber []).ownerSet = false ∧ (dvEmber [(0x40, 1)]).ownerSet = true ∧
    (dvEmber []).ownerStaged = (dvEmber []).ownerDigest ∧ (dvEmber [(0x40, 1)]).ownerStaged ≠ (dvEmber [(0x40, 1)]).ownerDigest ∧
    ({ sec := { challenge := true } } : Dev).sec.challenge = true ∧ (dvEmber [(0x23, 1)]).debugOpen = true ∧ (dvEmber [(0x23, 0)]).debugOpen = false := by
  decide +kernel

/-- A signature is right under the owner key when its key block has the owner's digest and RSASSA-PSS accepts it: both are Config's, and neither
has a value here. -/
theorem witness_SecurityAndStore_signed (d : Dev) (m : List Byte) (h0 : d.ownerSet = true) (h1 : sha64 d.scKey = d.ownerDigest)
    (h2 : Config.pssVerify d.scKey m d.scSig = true) : d.ownerSigned m = true := by
  simp [Dev.ownerSigned, Dev.keyIsOwner, h0, h1, h2]

/-! ### The whole block -/

theorem witness_StepRunsTheFrontCommand : ({ st {} with pending := [.beatSend, .seekRetry] } : State).pending = .beatSend :: [.seekRetry] := rfl

theorem witness_EmptyQueuePassesTime : (st {}).pending = [] ∧ (st {}).dev.power.input = true ∧ (st {}).dev.clock.slew = 0 ∧ (st {}).dev.twin.stateSent = [] ∧
    (st (({} : Dev).modPower fun p => { p with input := false })).dev.power.input = false ∧ (st {}).dev.timeState ≠ 3 := ⟨rfl, rfl, rfl, rfl, rfl, by decide +kernel⟩

/-- Slewing forwards and back, and holdover with a ns gathered in either direction and with none. -/
theorem witness_EmptyQueuePassesTime_clock : let d := ({} : Dev).setTime 3
    [(1 : Int), -1].all (fun n => let c := (d.modClock fun c => { c with slew := n }).clock; c.slewWait == 0 && c.slew == n) = true ∧ d.timeState = 3 ∧
      d.clock.slew = 0 ∧ d.clock.slewWait = 0 ∧
      [(999999999, 1), (999999998, 1), (-999999999, -1)].map (fun (p : Int × Int) =>
        let c := (d.modClock fun c => { c with gathered := p.1, freq := p.2 }).clock
        (decide (1000000000 ≤ c.gathered + c.freq), decide (c.gathered + c.freq ≤ -1000000000))) = [(true, false), (false, false), (false, true)] := by
  decide +kernel

theorem witness_EveryCommandCompletes : (Instr.addi tk 3 1 0).wellFormed = true ∧ (Instr.getc tk 1 11).wellFormed = false := ⟨rfl, rfl⟩

/-- An operation that takes effect, one that aborts its task, one that holds its bundle, one whose bundle waits for a result, and one of a
context that does not run. -/
theorem witness_BundlesAreAtomic : (∃ d0 d, (st (dv cx)).Acts 0 tk d0 d) ∧ slotOf (.addi tk 3 1 0) = some (0, tk) ∧ slotOf .beatSend = none ∧
    ((dv { cx with pend := [{ due := 0, iat := 0, slot := 3, dest := .s 3 1, wait := 2 }] }).ctx tk).unarrived 0 =
      [{ due := 0, iat := 0, slot := 3, dest := .s 3 1, wait := 2 }] ∧ ({} : Dev).mayIssue tk = false :=
  ⟨⟨dv cx, (dv cx).issue tk, .inr ⟨rfl, by decide +kernel, rfl, by decide +kernel, rfl, rfl⟩⟩, rfl, rfl, by decide +kernel, by decide +kernel⟩

/-- A bundle at whose issue an SST write into a pinned row is due. -/
theorem witness_BundlesAreAtomic_pinned : let d := dv { cx with ssts := [{ addr := 0, mask := 1, x := [], due := 0 }]
                                                                closing := [{ rows := [0], release := 9, w := 0, replay := false }] }
    (st d).joins 0 tk = none ∧ d.mayIssue tk = true ∧ (d.ctx tk).unarrived (d.ctx tk).cyc = [] ∧ d.sstPinned tk (d.ctx tk).cyc = true := by decide +kernel

theorem witness_OperationFrames : ∃ d0 d t, slotOf (.addi tk 3 1 0) = some (0, tk) ∧ (st (dv cx)).Acts 0 tk d0 d ∧
    exec (.addi tk 3 1 0) (st (dv cx)) = .next t ∧ t.base.isSome = true ∧ endsClean t tk ∧ writesWindow (.addi tk 3 1 0) = false :=
  ⟨dv cx, (dv cx).issue tk, _, rfl, .inr ⟨rfl, by decide +kernel, rfl, by decide +kernel, rfl, rfl⟩, rfl, by decide +kernel, by intro b h; cases h; decide +kernel, rfl⟩

theorem witness_StepsKeepTheBundleInvariant : bundleInv (st {}) ∧ (∃ t, step { st {} with pending := [.beatSend] } = .next t) ∧
    bundleInv { dev := dv cx, base := some ⟨tk, 0, dv cx, dv cx⟩, pending := [] } := by
  refine ⟨?_, ⟨_, rfl⟩, ?_⟩
  · intro b h; cases h
  · intro b h; cases h; exact ⟨by decide, by decide +kernel, by decide +kernel, by decide +kernel⟩

/-- Two results for s3, of latencies 6 and 4, that become visible at the same issue cycle. -/
theorem witness_ResultsBecomeVisible : (∀ q ∈ ({ cx with cyc := 1 } : Context).pend, (6 : Nat) < q.due) ∧ 0 < ({ cx with cyc := 1 } : Context).cyc ∧
    (6 : Nat) = ({ cx with cyc := 1 } : Context).cyc - 1 + 6 ∧ (6 : Nat) = ({ cx with cyc := 1 } : Context).cyc + 2 - 1 + 4 ∧ (3 : Fin 64) ≠ 0 ∧
    (3 : Fin 64).val < ({ cx with cyc := 1 } : Context).s.length ∧ (5 : Nat) < ({ cx with cyc := 1 } : Context).cyc - 1 + 6 := by
  refine ⟨?_, by decide, by decide, by decide, by decide, by decide +kernel, by decide⟩
  intro q h; cases h

theorem witness_BusReachesByState : [1, 2, 3, 4, 5, 6, 0].all (fun s => (({} : Dev).setPw s 0).pwState == s) = true ∧
    (({} : Dev).setPw 4 0).reaches .bus 0xFFFFFC = true ∧ (({} : Dev).setPw 4 0).reaches .bus 0x1000000 = false := by decide +kernel

/-- A message at the ends of its fields. -/
theorem witness_MessagesDecodeToThemselves : (let m : Mbt := { type := 255, session := 65535, flags := 65535 }
     m.type < 2 ^ 8 ∧ m.session < 2 ^ 16 ∧ m.flags < 2 ^ 16 ∧ m.body.length ≤ 8192 ∧ mbtParse m.bytes = some m) := by decide +kernel

/-! ### A published value -/

/-- R406: CRC-32C gives its published check value (PRESUMED: the spec names the CRC and states no check value). -/
theorem test_crc32c : crc32c [0x31, 0x32, 0x33, 0x34, 0x35, 0x36, 0x37, 0x38, 0x39] = 0xE3069283 := by decide +kernel

/-! ### The words of the slots -/

/-- A word of the given opcode whose fields are the values `x` at their lowest bits `n`, as the tables of R132, R137, R142, R150 and R163 place them. -/
def word (opcode : Nat) (fields : List (Nat × Nat)) : Nat := fields.foldl (fun w f => w + f.1 * 2 ^ f.2) (opcode * 2 ^ 24)

/-- R137, R138: a word of each format of slot C, and words with a bit that must be 0 or an opcode of no row. -/
theorem test_words_C : decodeC tk (word 0x01 [(5, 18), (4, 12), (63, 6)]) = some (.add tk 5 4 63) ∧
    decodeC tk (word 0x20 [(5, 18), (4, 12), (0xFFF, 0)]) = some (.addi tk 5 4 0xFFF) ∧ decodeC tk (word 0x26 [(5, 18), (4, 12), (63, 0)]) = some (.srai tk 5 4 63) ∧
    decodeC tk (word 0x29 [(5, 18), (3, 16), (0x8001, 0)]) = some (.movk tk 5 3 0x8001) ∧ decodeC tk (word 0x37 [(9, 18), (16383, 0)]) = some (.loop tk 9 16383) ∧
    decodeC tk (word 0x38 [(7, 18), (10, 0)]) = some (.getc tk 7 10) ∧ decodeC tk (word 0x3D []) = some (.endOp tk) ∧
    decodeC tk 0 = some (.nop tk false) ∧ decodeC tk (word 0x80 []) = some (.nop tk true) ∧ decodeC tk (word 0xA0 [(5, 18)]) = some (.addi tk 5 0 0) ∧
    [word 0x01 [(1, 0)], word 0x38 [(11, 0)], word 0x3E []].all (fun w => (decodeC tk w).isNone) = true := by decide +kernel

/-- R142, R143: the same for slot V. -/
theorem test_words_V : decodeV tk 0 = some (.vnop tk) ∧ decodeV tk (word 0x01 [(1, 18), (2, 12), (3, 6), (4, 2), (1, 0)]) = some (.vadd tk 1 2 3 4 1) ∧
    decodeV tk (word 0x21 [(15, 20), (2, 12), (3, 6), (4, 2), (2, 0)]) = some (.vcmpLt tk 15 2 3 4 2) ∧
    decodeV tk (word 0x29 [(1, 18), (2, 12), (3, 6)]) = some (.vext tk 1 2 3) ∧ decodeV tk (word 0x33 [(1, 20), (2, 16), (3, 12), (4, 8)]) = some (.mandn tk 1 2 3 4) ∧
    decodeV tk (word 0x34 [(1, 20), (3, 6)]) = some (.mset tk 1 3) ∧ decodeV tk (word 0x35 [(1, 18), (2, 12)]) = some (.mget tk 1 2) ∧
    decodeV tk (word (0x40 + 8 * 1 + 4) [(1, 18), (2, 12), (3, 6), (4, 2), (2, 0)]) = some (.vcvt tk 1 4 1 2 3 4 2) ∧
    decodeV tk (word 0x8D [(1, 18), (2, 12), (3, 6), (4, 2), (1, 0)]) = some (.vmxq tk 5 true 1 2 3 4 1) ∧
    decodeV tk (word 0xA1 [(1, 20), (2, 12), (3, 6), (4, 2)]) = some (.flkMask tk 1 2 3 4) ∧
    [word 0x04 [], word (0x40 + 8 + 1) [], word 0x80 [(3, 0)], word 0xA0 [(1, 12)], word 0xFF []].all (fun w => (decodeV tk w).isNone) = true := by decide +kernel

/-- R150, R151: the same for slot T. -/
theorem test_words_T : decodeT tk 0 = some (.tnop tk) ∧ decodeT tk (word 0x10 [(7, 21), (31, 16), (5, 10), (12, 6), (3, 2)]) = some (.topen tk 12 3 7 31 5) ∧
    decodeT tk (word 0x11 [(7, 21), (1, 15), (2, 9), (3, 5), (15, 1)]) = some (.tdot tk 7 1 2 3 15) ∧
    decodeT tk (word 0x13 [(7, 21), (1, 15), (3, 11)]) = some (.tpre tk 7 1 3) ∧ decodeT tk (word 0x14 [(7, 21)]) = some (.tclose tk 7) ∧
    decodeT tk (word 0x1A [(1, 18), (31, 13), (6, 10), (2, 4), (15, 0)]) = some (.troundSr tk 1 31 6 2 15) ∧
    decodeT tk (word 0x1C [(31, 19), (1, 14)]) = some (.tadd tk 31 1) ∧ decodeT tk (word 0x20 [(1, 18), (2, 12), (3, 6), (4, 2)]) = some (.topk tk 1 2 3 4) ∧
    decodeT tk (word 0x23 [(1, 18), (2, 12), (3, 6), (4, 2), (2, 0)]) = some (.tcow tk 1 2 3 4 2) ∧
    decodeT tk (word 0x25 [(1, 20), (2, 14), (3, 10), (4, 7), (63, 1)]) = some (.tpruneF tk 1 2 3 4 63) ∧
    decodeT tk (word 0x39 [(1, 18), (2, 12)]) = some (.splxIsect tk 1 2) ∧
    [word 0x10 [(13, 6)], word 0x12 [(1, 1)], word 0x18 [(1, 0)], word 0x24 [], word 0xFF []].all (fun w => (decodeT tk w).isNone) = true := by decide +kernel

/-- R163, R164: the same for slot M. -/
theorem test_words_M : decodeM tk 0 false = some (.mnop tk) ∧ decodeM tk (word 0x02 [(1, 18), (2, 12), (0x800, 0)]) true = some (.ldD tk 1 2 0x800 true) ∧
    decodeM tk (word 0x09 [(1, 18), (2, 12), (3, 8), (0x80, 0)]) false = some (.vst tk 1 2 3 0x80) ∧
    decodeM tk (word 0x0B [(1, 18), (2, 12), (3, 6), (4, 2)]) false = some (.scatAdd tk 1 2 3 4) ∧
    decodeM tk (word 0x0D [(31, 19), (2, 12), (5, 0)]) false = some (.tstl tk 31 2 5) ∧
    decodeM tk (word 0x18 [(1, 18), (2, 12), (255, 4), (13, 0)]) false = some (.rowLd tk 1 2 255 13) ∧
    decodeM tk (word 0x23 [(15, 20), (3, 6)]) false = some (.coilPush tk 15 3) ∧ decodeM tk (word 0x31 [(7, 21), (2, 12)]) false = some (.strIssue tk 7 2) ∧
    decodeM tk (word 0x35 [(7, 21), (255, 8)]) false = some (.knotWait tk 7 255) ∧ decodeM tk (word 0x37 [(3, 6), (63, 0)]) false = some (.blyWait tk 63 3) ∧
    decodeM tk (word 0x33 [(2, 12), (3, 6)]) false = some (.strShort tk 2 3) ∧
    [word 0x18 [(14, 0)], word 0x19 [(1, 0)], word 0x20 [(1, 6)], word 0xFF []].all (fun w => (decodeM tk w false).isNone) = true := by decide +kernel

/-- Words of both kinds in each slot, and a bundle with an undefined word. -/
theorem witness_SlotWordsSpellOperations : (definedC 0 && definedV 0 && definedT 0 && definedM 0) = true ∧
    (definedC (word 0x3E []) || definedV (word 0xFF []) || definedT (word 0xFF []) || definedM (word 0xFF [])) = false ∧
    (Word4.of (0 + 0 * 2 ^ 32 + word 0xFF [] * 2 ^ 64 + 0 * 2 ^ 96)).ops tk false = none := by decide +kernel

/-- Words that spell the same operation of slot C: those of ADDI with and without the switch-point bit. -/
theorem witness_SlotWordsDropNoBit : decodeC tk (word 0xA0 [(5, 18)]) = decodeC tk (word 0x20 [(5, 18)]) ∧
    (decodeV tk 0).isSome = true ∧ (decodeT tk 0).isSome = true ∧ (decodeM tk 0 true).isSome = true ∧ (∃ sp, Instr.nop tk true = .nop tk sp) :=
  ⟨by decide +kernel, by decide +kernel, by decide +kernel, by decide +kernel, _, rfl⟩

/-! ### The Ember store at a cold start -/

/-- The store of a module as it comes, and one whose copies have been lost or overtaken. -/
theorem witness_EmberReconciled : (let d : Dev := {}
     d.ember.valid = true ∧ emberFormed d.ember.store = true ∧ d.ember.copy0.intact = true ∧ emberFormed d.ember.copy0.image = true ∧ env0.badCopy0 = false) ∧
    (let d : Dev := { ember := { ({} : Ember) with valid := false } }
     (d.reconcile { env0 with badCopy0 := true, badCopy1 := true }).isNone = true ∧ (d.reconcile env0).isSome = true) := by decide +kernel
end Sys2Proof.Tests
end

section
/-! PROOF. Results becoming visible (R96, R97, R100): where a pending result stands in the list of its context, what settling the list writes, and
what a scalar register reads after a write. -/

namespace Sys2Proof.Machine

/-! ### The place of a pending result -/

@[simp] theorem mem_pendInsert {p q : Pend} {l : List Pend} : q ∈ pendInsert p l ↔ q = p ∨ q ∈ l := by
  induction l with
  | nil => simp [pendInsert]
  | cons r l ih =>
    by_cases h : p.due < r.due
    · simp [pendInsert, h]
    · simp [pendInsert, h, ih, or_left_comm]

/-- A result stands behind all that are due no later and in front of all that are due later. -/
theorem pendInsert_append {p : Pend} {now rest : List Pend} (hnow : ∀ q ∈ now, q.due ≤ p.due) (hrest : ∀ q ∈ rest, p.due < q.due) :
    pendInsert p (now ++ rest) = now ++ p :: rest := by
  induction now with
  | nil =>
    cases rest with
    | nil => rfl
    | cons q rest => simp [pendInsert, hrest q List.mem_cons_self]
  | cons q now ih =>
    obtain ⟨hq, hnow⟩ := List.forall_mem_cons.mp hnow
    simp [pendInsert, Nat.not_lt.mpr hq, ih hnow]

/-- The pending result that `Context.later` puts into the list. -/
def Context.newPend (c : Context) (slot lat : Nat) (x : Dest) : Pend := { due := c.cyc - 1 + lat, iat := c.cyc - 1, slot := slot, dest := x }

@[simp] theorem Context.newPend_due (c : Context) (slot lat : Nat) (x : Dest) : (c.newPend slot lat x).due = c.cyc - 1 + lat := rfl
@[simp] theorem Context.newPend_wait (c : Context) (slot lat : Nat) (x : Dest) : (c.newPend slot lat x).wait = 0 := rfl

theorem Context.later_append (c : Context) {slot lat : Nat} {x : Dest} {now rest : List Pend} (hnow : ∀ q ∈ now, q.due ≤ c.cyc - 1 + lat)
    (hrest : ∀ q ∈ rest, c.cyc - 1 + lat < q.due) :
    { c with pend := now ++ rest }.later slot lat x = { c with pend := now ++ c.newPend slot lat x :: rest } :=
  congrArg (fun l => { c with pend := l }) (pendInsert_append (p := c.newPend slot lat x) hnow hrest)

/-! ### What settling writes -/

/-- Where the due and arrived results stand in front of those not yet due, settling takes them from the list and writes them in its order. -/
theorem Context.settle_append {i : Nat} (c : Context) {now rest : List Pend} (hnow : ∀ p ∈ now, p.due ≤ i ∧ p.wait = 0)
    (hrest : ∀ q ∈ rest, i < q.due) :
    { c with pend := now ++ rest }.settle i = now.foldl (fun c p => c.write p.dest) { c with pend := rest } := by
  have taken : (now ++ rest).filter (fun p => decide (p.due ≤ i) && p.wait == 0) = now := by
    rw [List.filter_append, List.filter_eq_self.mpr (by simpa using hnow),
      List.filter_eq_nil_iff.mpr fun q hq => by simp [Nat.not_le.mpr (hrest q hq)], List.append_nil]
  have left : (now ++ rest).filter (fun p => !(decide (p.due ≤ i) && p.wait == 0)) = rest := by
    rw [List.filter_append, List.filter_eq_nil_iff.mpr (by simpa using hnow),
      List.filter_eq_self.mpr fun q hq => by simp [Nat.not_le.mpr (hrest q hq)], List.nil_append]
  simp only [Context.settle, taken, left]

/-- No result is visible before its cycle (R96). -/
theorem Context.settle_of_not_due {c : Context} {i : Nat} (h : ∀ q ∈ c.pend, i < q.due) : c.settle i = c :=
  c.settle_append (now := []) (by simp) h

section
variable {c : Context} {i : Nat} (hc : ∀ q ∈ c.pend, i < q.due)
include hc

theorem Context.settle_later_of_lt {s lat : Nat} {x : Dest} (h : i < c.cyc - 1 + lat) : (c.later s lat x).settle i = c.later s lat x :=
  Context.settle_of_not_due fun q hq => by
    rcases mem_pendInsert.mp hq with rfl | hq
    · exact h
    · exact hc q hq

/-- A result that is due before all others of its context stands first. -/
theorem Context.later_of_due {s lat : Nat} {x : Dest} (h : i = c.cyc - 1 + lat) :
    c.later s lat x = { c with pend := [c.newPend s lat x] ++ c.pend } :=
  c.later_append (now := []) (by simp) (h ▸ hc)

theorem Context.settle_later_of_due {s lat : Nat} {x : Dest} (h : i = c.cyc - 1 + lat) : (c.later s lat x).settle i = c.write x := by
  rw [Context.later_of_due hc h]
  exact c.settle_append (by simp [← h]) hc

/-- Of two results due at `i`, the one issued later is written over the other (R97). -/
theorem Context.settle_later_later_of_due {s₁ s₂ l₁ l₂ n : Nat} {x y : Dest} (h₁ : i = c.cyc - 1 + l₁) (h₂ : i = c.cyc + n - 1 + l₂) :
    ({ c.later s₁ l₁ x with cyc := c.cyc + n }.later s₂ l₂ y).settle i = ({ c with cyc := c.cyc + n }.write x).write y := by
  have queued := { c with cyc := c.cyc + n }.later_append (slot := s₂) (x := y) (now := [c.newPend s₁ l₁ x])
    (by simp [← h₁, ← h₂]) (h₂ ▸ hc)
  rw [Context.later_of_due hc h₁, queued]
  exact { c with cyc := c.cyc + n }.settle_append (now := [_, _]) (by simp [← h₁, ← h₂]) hc

end

/-! ### Scalar and mask registers (R100) -/

@[simp] theorem Context.write_s_zero (c : Context) (v : W64) : c.write (.s 0 v) = c := rfl
@[simp] theorem Context.write_m_zero (c : Context) (mask v : W64) : c.write (.m 0 mask v) = c := rfl
@[simp] theorem Context.getS_zero (c : Context) : c.getS 0 = 0 := rfl
@[simp] theorem Context.getM_zero (c : Context) : c.getM 0 = 0xFFFFFFFFFFFFFFFF := rfl

@[simp] theorem Context.length_s_write_s (c : Context) (r : Fin 64) (v : W64) : (c.write (.s r v)).s.length = c.s.length := by
  by_cases h : r = 0
  · simp [h]
  · simp [Context.write, h, put]

theorem Context.getS_write_s {c : Context} {r : Fin 64} (v : W64) (hr : r ≠ 0) (hlen : r.val < c.s.length) : (c.write (.s r v)).getS r = v := by
  simp [Context.write, Context.getS, hr, put, nth, hlen]

/-! ### The statement -/

/-- Settles O54: the pending list keeps results in order of due cycle and issue, and settling writes its due part in that order. -/
theorem resultsBecomeVisible : Obligations.ResultsBecomeVisible := by
  intro c s₁ s₂ l₁ l₂ n i x y later hc _
  have both (h₁ : i = c.cyc - 1 + l₁) (h₂ : i = c.cyc + n - 1 + l₂) :
      later.settle i = ({ c with cyc := c.cyc + n }.write x).write y := Context.settle_later_later_of_due hc h₁ h₂
  refine ⟨Context.settle_later_of_lt hc, Context.settle_later_of_due hc, both, ?_,
    fun v m => ⟨c.write_s_zero v, c.write_m_zero m v⟩, c.getS_zero, c.getM_zero⟩
  intro v w r hr hlen hx hy h₁ h₂
  rw [both h₁ h₂, hx, hy]
  exact Context.getS_write_s w hr (by simpa using hlen)

end Sys2Proof.Machine
end

section
/-! PROOF. What the management bus reaches (R518): the reachable part in each state that PW_STATE shows (R520), and what an access outside it does. -/

namespace Sys2Proof.Machine

section
variable {d : Dev} {a : Nat}

/-! ### The reachable part in each state -/

theorem Dev.reaches_bus_of_all (h : d.pwState = 1 ∨ d.pwState = 2 ∨ d.pwState = 6) : d.reaches .bus a = true := by
  rcases h with starting | lit | hold
  · simp [Dev.reaches, isBus, starting]
  · simp [Dev.reaches, isBus, lit]
  · simp [Dev.reaches, isBus, hold]

theorem Dev.reaches_bus_iff_of_hub (h : d.pwState = 3 ∨ d.pwState = 4 ∨ d.pwState = 5) : d.reaches .bus a = true ↔ a < 0x1000000 := by
  rcases h with entering | pilot | leaving
  · simp [Dev.reaches, isBus, entering]
  · simp [Dev.reaches, isBus, pilot]
  · simp [Dev.reaches, isBus, leaving]

/-- In Off only the pins decide whether the bus is answered. -/
theorem Dev.busServed_iff_of_off (h : d.pwState = 0) : d.busServed = true ↔ d.power.input = true ∧ d.power.reset.high = false := by
  simp [Dev.busServed, h]

theorem Dev.reaches_bus_iff_of_off (h : d.pwState = 0) :
    d.reaches .bus a = true ↔ (d.power.input = true ∧ d.power.reset.high = false) ∧ 0x80000 ≤ a ∧ a < 0xB0000 := by
  rw [← Dev.busServed_iff_of_off h]
  simp [Dev.reaches, isBus, h, and_assoc]

/-! ### An access outside it -/

variable {who : Requester} (h : d.reaches who a = false)
include h

theorem Dev.regRead_of_unreached : d.regRead who a = (0, d) := by
  simp [Dev.regRead, h]

theorem Dev.regWrite_of_unreached {v : W32} : d.regWrite who a v = d := by
  simp [Dev.regWrite, h]

end

/-! ### The statement -/

/-- Settles O55: the part reached is read off the state of PW_STATE, and reads and writes test it before anything else. -/
theorem busReachesByState : Obligations.BusReachesByState := fun _ _ _ =>
  ⟨Dev.reaches_bus_of_all, Dev.reaches_bus_iff_of_hub, Dev.reaches_bus_iff_of_off,
    fun h => ⟨Dev.regRead_of_unreached h, Dev.regWrite_of_unreached h⟩⟩

end Sys2Proof.Machine
end

section
/-! PROOF. The shape of every command: an operation of a slot issues in that slot, and is refused when its encoding is not defined; any other command
is an event. The statements about every command, every bundle and every step follow from it. -/

namespace Sys2Proof.Machine

/-! ### The shape of every command -/

/-- What an event does to the device. -/
def effect (i : Instr) (d : Dev) : Dev :=
  match exec i { dev := d, base := none, pending := [] } with
  | .next t => t.dev
  | _ => d

theorem effect_eq {i : Instr} {f : Dev → Dev} (h : ∀ s, exec i s = event f s) : effect i = f := by
  funext d
  rw [effect, h]
  rfl

/-- A command is an operation of a slot, whose encoding may have to be defined, or an event. -/
inductive Shape (i : Instr) : Prop
  | op (n : Nat) (k : Ctx) (f : Dev → Dev → OpRes) (slot : slotOf i = some (n, k)) (lt : n < 4) (defined : i.wellFormed = true)
      (run : ∀ s, exec i s = issueOp n k f s)
  | guarded (n : Nat) (k : Ctx) (ok : Bool) (f : Dev → Dev → OpRes) (slot : slotOf i = some (n, k)) (lt : n < 4) (defined : i.wellFormed = ok)
      (run : ∀ s, exec i s = encoded ok (issueOp n k f s))
  | event (slot : slotOf i = none) (defined : i.wellFormed = true) (run : ∀ s, exec i s = Machine.event (effect i) s)

theorem shape_of_event {i : Instr} {f : Dev → Dev} (slot : slotOf i = none) (defined : i.wellFormed = true) (run : ∀ s, exec i s = event f s) :
    Shape i :=
  .event slot defined fun s => by rw [effect_eq run, run]

/-! ### The guards of the operations whose encoding may be undefined are those of `wellFormed` -/

theorem tyFloat_eq (ty : Fin 4) : decide (ty.val ≠ 0) = tyFloat ty := by revert ty; decide

theorem fin_ne_eq_bne {n : Nat} (x y : Fin n) : decide (x.val ≠ y.val) = (x != y) := by
  rw [bne, decide_not, ← Bool.beq_eq_decide_eq]
  by_cases h : x = y
  · simp [h]
  · simp [h, Fin.ext_iff.not.mp h]

theorem fin_eq_eq_beq {n : Nat} (x y : Fin n) : decide (x.val = y.val) = (x == y) := by
  by_cases h : x = y
  · simp [h]
  · simp [h, Fin.ext_iff.not.mp h]

theorem cvtOk_eq (src dst : Fin 8) (mode : Fin 4) :
    (decide (src ≠ dst) && decide (src.val ≠ 7) && decide (dst.val ≠ 7) && decide (mode.val ≠ 3)) = cvtOk src dst mode := by
  rw [cvtOk, ← fin_ne_eq_bne src 7, ← fin_ne_eq_bne dst 7, ← fin_ne_eq_bne mode 3, ← fin_ne_eq_bne src dst]
  simp [Fin.ext_iff]

theorem roundOk_eq (fo : Fin 8) (draw : Fin 16) : (decide (fo.val ≤ 6) && decide (draw.val = 0)) = (decide (fo.val ≤ 6) && draw == 0) := by
  rw [← fin_eq_eq_beq draw 0]
  rfl

theorem shape (i : Instr) : Shape i := by
  cases i
  case registrationDone => exact shape_of_event rfl rfl fun s => show _ = event Dev.regDone s from rfl
  case vfma => exact .guarded _ _ _ _ rfl (by decide) (tyFloat_eq _) fun _ => rfl
  case vdiv => exact .guarded _ _ _ _ rfl (by decide) (tyFloat_eq _) fun _ => rfl
  case vsqrt => exact .guarded _ _ _ _ rfl (by decide) (tyFloat_eq _) fun _ => rfl
  case vexp2 => exact .guarded _ _ _ _ rfl (by decide) (tyFloat_eq _) fun _ => rfl
  case vlog2 => exact .guarded _ _ _ _ rfl (by decide) (tyFloat_eq _) fun _ => rfl
  case vcvt => exact .guarded _ _ _ _ rfl (by decide) (cvtOk_eq _ _ _) fun _ => rfl
  case vmxq => exact .guarded _ _ _ _ rfl (by decide) (fin_ne_eq_bne _ 3) fun _ => rfl
  case troundNe => exact .guarded _ _ _ _ rfl (by decide) (roundOk_eq _ _) fun _ => rfl
  case troundRz => exact .guarded _ _ _ _ rfl (by decide) (roundOk_eq _ _) fun _ => rfl
  case stag => exact .guarded _ _ _ _ rfl (by decide) (fin_ne_eq_bne _ 14) fun _ => rfl
  case rowLd => exact .guarded _ _ _ _ rfl (by decide) (fin_ne_eq_bne _ 14) fun _ => rfl
  all_goals first
    | exact .event rfl rfl fun _ => rfl
    | exact .op _ _ _ rfl (by decide) rfl fun _ => rfl
    | exact .guarded _ _ _ _ rfl (by decide) rfl fun _ => rfl

/-! ### What each kind of command does -/

theorem exec_of_slot_none {i : Instr} (h : slotOf i = none) (s : State) : exec i s = event (effect i) s := by
  cases shape i with
  | op _ _ _ slot => rw [h] at slot; cases slot
  | guarded _ _ _ _ slot => rw [h] at slot; cases slot
  | event _ _ run => exact run s

theorem exec_of_slot_some {i : Instr} {n : Nat} {k : Ctx} (h : slotOf i = some (n, k)) (hw : i.wellFormed = true) :
    n < 4 ∧ ∃ f, ∀ s, exec i s = issueOp n k f s := by
  cases shape i with
  | op n' k' f slot lt _ run =>
    cases h.symm.trans slot
    exact ⟨lt, f, run⟩
  | guarded n' k' ok f slot lt defined run =>
    cases h.symm.trans slot
    exact ⟨lt, f, fun s => by rw [run, encoded_true (defined ▸ hw)]⟩
  | event slot => rw [h] at slot; cases slot

/-- An operation whose encoding is not defined is refused (R133). -/
theorem exec_of_not_wellFormed {i : Instr} (h : i.wellFormed = false) (s : State) : exec i s = .refused .undefinedEncoding := by
  cases shape i with
  | op _ _ _ _ _ defined => rw [h] at defined; cases defined
  | guarded _ _ _ _ _ _ defined run => rw [run, encoded_false (defined ▸ h)]
  | event _ defined => rw [h] at defined; cases defined

theorem wellFormed_of_next {i : Instr} {s t : State} (h : exec i s = .next t) : i.wellFormed = true := by
  by_contra hw
  rw [exec_of_not_wellFormed (by simpa using hw)] at h
  cases h

/-- A command that answers a next state is an event or issues an operation of its slot. -/
theorem exec_next_cases {i : Instr} {s t : State} (h : exec i s = .next t) :
    (slotOf i = none ∧ t = { s with dev := effect i s.dev, base := none }) ∨
    ∃ n k f, slotOf i = some (n, k) ∧ n < 4 ∧ issueOp n k f s = .next t := by
  cases hs : slotOf i with
  | none =>
    rw [exec_of_slot_none hs] at h
    cases h
    exact .inl ⟨rfl, rfl⟩
  | some p =>
    obtain ⟨lt, f, run⟩ := exec_of_slot_some hs (wellFormed_of_next h)
    exact .inr ⟨p.1, p.2, f, rfl, lt, run s ▸ h⟩

/-! ### Every command completes (R121, R133) -/

/-- Settles O49: an event answers a next state by definition and an operation by `issueOp_next`; only an undefined encoding is refused. -/
theorem everyCommandCompletes : Obligations.EveryCommandCompletes := by
  intro i s
  refine ⟨fun hw => ?_, fun hw => exec_of_not_wellFormed hw s⟩
  cases hs : slotOf i with
  | none => exact ⟨_, exec_of_slot_none hs s, rfl⟩
  | some p =>
    obtain ⟨-, f, run⟩ := exec_of_slot_some hs hw
    obtain ⟨t, ht⟩ := issueOp_next p.1 p.2 f s
    exact ⟨t, (run s).trans ht, issueOp_pending ht⟩

/-! ### Bundles (R73, R95, R106, R118) -/

theorem finish_cases (s : State) (n : Nat) (k : Ctx) (d0 : Dev) (r : OpRes) :
    (∃ e, s.finish n k d0 r = s.after n k d0 e) ∨ (∃ st post, s.finish n k d0 r = s.abortedBy k d0 st post) ∨
      ∃ h, s.finish n k d0 r = s.heldBy k d0 h := by
  cases r with
  | ok e => exact .inl ⟨e, rfl⟩
  | fault st post => exact .inr (.inl ⟨st, post, rfl⟩)
  | hold h => exact .inr (.inr ⟨h, rfl⟩)

section
variable {n : Nat} {k : Ctx} {f : Dev → Dev → OpRes} {s : State}

theorem issueOp_of_unarrived {p : Pend} {ps : List Pend} (hj : s.joins n k = none) (hm : s.dev.mayIssue k = true)
    (hp : (s.dev.ctx k).unarrived (s.dev.ctx k).cyc = p :: ps) : issueOp n k f s = .next { s with dev := s.dev.dueHold k p, base := none } := by
  simp [issueOp, hj, hm, hp]

theorem issueOp_of_sstPinned (hj : s.joins n k = none) (hm : s.dev.mayIssue k = true) (hp : (s.dev.ctx k).unarrived (s.dev.ctx k).cyc = [])
    (hq : s.dev.sstPinned k (s.dev.ctx k).cyc = true) :
    issueOp n k f s = .next { s with dev := s.dev.settleSst k (s.dev.ctx k).cyc, base := none } := by
  simp [issueOp, hj, hm, hp, hq]

theorem issueOp_of_not_mayIssue (hj : s.joins n k = none) (hm : s.dev.mayIssue k = false) : issueOp n k f s = .next { s with base := none } := by
  simp [issueOp, hj, hm]

end

/-- Settles O50: each outcome is one branch of `issueOp`. -/
theorem bundlesAreAtomic : Obligations.BundlesAreAtomic := by
  intro i s t h
  rcases exec_next_cases h with ⟨hs, rfl⟩ | ⟨n', k', f, hs, -, ht⟩
  · exact ⟨fun _ => rfl, fun n k h' => by rw [hs] at h'; cases h'⟩
  · refine ⟨fun h' => (by rw [hs] at h'; cases h'), fun n k h' => ?_⟩
    cases hs.symm.trans h'
    refine ⟨fun d0 d acts => ?_, fun p ps hj hm hp => ?_, fun hj hm hp hq => ?_, fun hj hm => ?_⟩
    · rw [issueOp_acts acts] at ht
      cases ht
      exact finish_cases s n' k' d0 _
    · rw [issueOp_of_unarrived hj hm hp] at ht
      cases ht
      rfl
    · rw [issueOp_of_sstPinned hj hm hp hq] at ht
      cases ht
      rfl
    · rw [issueOp_of_not_mayIssue hj hm] at ht
      cases ht
      rfl

/-! ### The invariant of bundles -/

/-- The device before a bundle, as `bundleInv` asks for it: its context may issue, and nothing of it is outstanding. -/
def opens (d : Dev) (k : Ctx) : Prop :=
  d.mayIssue k = true ∧ (d.ctx k).unarrived (d.ctx k).cyc = [] ∧ d.sstPinned k (d.ctx k).cyc = false

theorem bundleInv_of_base_none {s : State} (h : s.base = none) : bundleInv s := by
  intro b hb
  rw [h] at hb
  cases hb

/-- A joined operation inherits the device before its bundle, and any other opens its bundle on one that may issue. -/
theorem opens_of_acts {s : State} {n : Nat} {k : Ctx} {d0 d : Dev} (hi : bundleInv s) (h : s.Acts n k d0 d) : opens d0 k := by
  rcases h with joined | ⟨-, may, arrived, pinned, rfl, -⟩
  · unfold State.joins at joined
    split at joined
    · cases joined
    next b hb =>
      split at joined
      next hk =>
        cases joined
        obtain ⟨-, may, arrived, pinned⟩ := hi b hb
        obtain ⟨rfl, -⟩ : b.key = k ∧ _ := by simpa using hk
        exact ⟨may, arrived, pinned⟩
      next => cases joined
  · exact ⟨may, arrived, pinned⟩

theorem bundleInv_finish {n : Nat} {k : Ctx} {d0 : Dev} (hn : n < 4) (h0 : opens d0 k) (s : State) (r : OpRes) : bundleInv (s.finish n k d0 r) := by
  cases r with
  | ok e =>
    intro b hb
    cases hb
    exact ⟨hn, h0⟩
  | fault st post => exact bundleInv_of_base_none rfl
  | hold h => exact bundleInv_of_base_none rfl

theorem bundleInv_issueOp {n : Nat} {k : Ctx} {f : Dev → Dev → OpRes} {s t : State} (hn : n < 4) (hi : bundleInv s) (h : issueOp n k f s = .next t) :
    bundleInv t := by
  rcases issueOp_cases n k f s with ⟨d0, d, acts, e⟩ | ⟨p, e⟩ | e | e
  · cases h.symm.trans e
    exact bundleInv_finish hn (opens_of_acts hi acts) s _
  · cases h.symm.trans e
    exact bundleInv_of_base_none rfl
  · cases h.symm.trans e
    exact bundleInv_of_base_none rfl
  · cases h.symm.trans e
    exact bundleInv_of_base_none rfl

theorem bundleInv_exec {i : Instr} {s t : State} (hi : bundleInv s) (h : exec i s = .next t) : bundleInv t := by
  rcases exec_next_cases h with ⟨-, rfl⟩ | ⟨n, k, f, -, hn, ht⟩
  · exact bundleInv_of_base_none rfl
  · exact bundleInv_issueOp hn hi ht

theorem step_of_pending_nil {s : State} (h : s.pending = []) : step s = idle s := by simp [step, h]

/-- Settles O47: by the definition of a step. -/
theorem stepRunsTheFrontCommand : Obligations.StepRunsTheFrontCommand := fun c rest s h => by simp [step, h]

/-- Settles O52: only `issueOp` leaves a bundle in progress, and it opened on a device that may issue. -/
theorem stepsKeepTheBundleInvariant : Obligations.StepsKeepTheBundleInvariant := by
  intro s t hi h
  cases hp : s.pending with
  | nil =>
    rw [step_of_pending_nil hp] at h
    cases h
    exact bundleInv_of_base_none rfl
  | cons c rest =>
    rw [stepRunsTheFrontCommand c rest s hp] at h
    exact bundleInv_exec (s := { s with pending := rest }) hi h

/-- Settles O53: after reset no bundle is in progress. -/
theorem resetMeetsTheBundleInvariant : Obligations.ResetMeetsTheBundleInvariant := bundleInv_of_base_none rfl

end Sys2Proof.Machine
end

section
/-! PROOF. Little-endian fields of byte lists, and the bytes of messages (R405 to R407). -/

namespace Sys2Proof.Machine

/-! ### Little-endian fields -/

@[simp] theorem length_leBytes (v n : Nat) : (leBytes v n).length = n := by
  induction n generalizing v with
  | zero => rfl
  | succ n ih => simp [leBytes, ih]

theorem leNat_lt (rd : Nat → Byte) (a n : Nat) : leNat rd a n < 256 ^ n := by
  induction n generalizing a with
  | zero => simp [leNat]
  | succ n ih =>
    have := (rd a).isLt
    have := ih (a + 1)
    simp only [leNat, Nat.pow_succ]
    omega

theorem leNat_congr {rd rd' : Nat → Byte} {a b n : Nat} (h : ∀ i < n, rd (a + i) = rd' (b + i)) : leNat rd a n = leNat rd' b n := by
  induction n generalizing a b with
  | zero => rfl
  | succ n ih =>
    have first := h 0 (by omega)
    have rest : leNat rd (a + 1) n = leNat rd' (b + 1) n := ih fun i hi => by
      rw [Nat.add_assoc, Nat.add_assoc, Nat.add_comm 1]
      exact h (i + 1) (by omega)
    simp only [Nat.add_zero] at first
    simp only [leNat, first, rest]

/-- A field that lies in the first of two lists. -/
theorem leNat_append_left {xs ys : List Byte} {a n : Nat} (h : a + n ≤ xs.length) : leNat (bytesAt (xs ++ ys)) a n = leNat (bytesAt xs) a n :=
  leNat_congr fun i hi => by simp [bytesAt, List.getElem?_append_left (show a + i < xs.length by omega)]

/-- A field that lies in the second of two lists. -/
theorem leNat_append_right {xs ys : List Byte} {a n : Nat} (h : xs.length ≤ a) :
    leNat (bytesAt (xs ++ ys)) a n = leNat (bytesAt ys) (a - xs.length) n :=
  leNat_congr fun i hi => by
    simp [bytesAt, List.getElem?_append_right (show xs.length ≤ a + i by omega), show a + i - xs.length = a - xs.length + i by omega]

/-- The bytes of a number read back. -/
theorem leNat_leBytes (v n : Nat) : leNat (bytesAt (leBytes v n)) 0 n = v % 256 ^ n := by
  induction n generalizing v with
  | zero => simp [leNat, Nat.mod_one]
  | succ n ih =>
    have shift : leNat (bytesAt (leBytes v (n + 1))) 1 n = leNat (bytesAt (leBytes (v / 256) n)) 0 n :=
      leNat_congr fun i hi => by simp [bytesAt, leBytes, Nat.add_comm 1 i]
    have head : (bytesAt (leBytes v (n + 1)) 0).toNat = v % 256 := by simp [bytesAt, leBytes]
    rw [leNat, shift, ih, head, Nat.pow_succ, Nat.mul_comm (256 ^ n), Nat.mod_mul]

/-- A field read and written again is the run of bytes that it stood in. -/
theorem leBytes_leNat {bs : List Byte} {a n : Nat} (h : a + n ≤ bs.length) : leBytes (leNat (bytesAt bs) a n) n = (bs.drop a).take n := by
  induction n generalizing a with
  | zero => simp [leBytes]
  | succ n ih =>
    have lt : a < bs.length := by omega
    have byte := (bytesAt bs a).isLt
    have rest : ((bytesAt bs a).toNat + 256 * leNat (bytesAt bs) (a + 1) n) / 256 = leNat (bytesAt bs) (a + 1) n := by omega
    have first : BitVec.ofNat 8 ((bytesAt bs a).toNat + 256 * leNat (bytesAt bs) (a + 1) n) = bytesAt bs a := by
      apply BitVec.eq_of_toNat_eq
      simp only [BitVec.toNat_ofNat]
      omega
    rw [List.drop_eq_getElem_cons lt, List.take_succ_cons, leNat, leBytes, rest, ih (by omega), first]
    simp [bytesAt, lt]

/-- A run of bytes followed by the next one. -/
theorem take_append_leBytes {bs : List Byte} {a b n : Nat} (hb : a + n = b) (h : b ≤ bs.length) :
    bs.take a ++ leBytes (leNat (bytesAt bs) a n) n = bs.take b := by
  rw [leBytes_leNat (by omega), ← List.take_add, hb]

/-! ### The check field (R406) -/

theorem crcBit_lt {c : Nat} (h : c < 2 ^ 32) : crcBit 0x82F63B78 c < 2 ^ 32 := by
  unfold crcBit
  split
  · exact Nat.xor_lt_two_pow (by omega) (by omega)
  · omega

theorem crcByte_lt {c : Nat} (h : c < 2 ^ 32) (b : Byte) : crcByte 0x82F63B78 c b < 2 ^ 32 := by
  unfold crcByte
  have start : Nat.xor c b.toNat < 2 ^ 32 := Nat.xor_lt_two_pow h (by have := b.isLt; omega)
  generalize Nat.xor c b.toNat = x at start
  induction upto 8 generalizing x with
  | nil => exact start
  | cons _ l ih => exact ih _ (crcBit_lt start)

theorem crc32c_lt (bs : List Byte) : crc32c bs < 2 ^ 32 := by
  have folded (c : Nat) (h : c < 2 ^ 32) : bs.foldl (crcByte 0x82F63B78) c < 2 ^ 32 := by
    induction bs generalizing c with
    | nil => exact h
    | cons b bs ih => exact ih _ (crcByte_lt h b)
  exact Nat.xor_lt_two_pow (folded _ (by decide)) (by decide)

/-! ### Parsing and writing messages -/

@[simp] theorem Mbt.length_head (m : Mbt) : m.head.length = 28 := by simp [Mbt.head]
@[simp] theorem Mbt.length_bytes (m : Mbt) : m.bytes.length = 32 + m.body.length := by
  simp [Mbt.bytes, ← Nat.add_assoc]

theorem Mbt.leNat_bytes_head (m : Mbt) {a n : Nat} (h : a + n ≤ 28) : leNat (bytesAt m.bytes) a n = leNat (bytesAt m.head) a n := by
  rw [Mbt.bytes, leNat_append_left (by simp; omega), leNat_append_left (by simp; omega)]

/-- A field of the header reads as it was written. -/
theorem leNat_field {xs ys : List Byte} {v n a : Nat} (h : xs.length = a) (hv : v < 256 ^ n) : leNat (bytesAt (xs ++ leBytes v n ++ ys)) a n = v := by
  subst h
  rw [List.append_assoc, leNat_append_right (Nat.le_refl _), Nat.sub_self, leNat_append_left (by simp), leNat_leBytes, Nat.mod_eq_of_lt hv]

theorem Mbt.leNat_bytes_check (m : Mbt) : leNat (bytesAt m.bytes) 28 4 = m.check :=
  leNat_field (by simp) (crc32c_lt _)

theorem Mbt.take_bytes (m : Mbt) : m.bytes.take 28 = m.head := by simp [Mbt.bytes]
theorem Mbt.drop_bytes (m : Mbt) : m.bytes.drop 32 = m.body := by
  rw [Mbt.bytes, List.drop_append_of_le_length (by simp), List.drop_eq_nil_of_le (by simp), List.nil_append]

section
variable {m : Mbt}

theorem Mbt.leNat_version : leNat (bytesAt m.head) 0 1 = 1 := rfl

theorem Mbt.leNat_header (ht : m.type < 256) (hs : m.session < 65536) (hf : m.flags < 65536) (hb : m.body.length < 65536) :
    leNat (bytesAt m.head) 1 1 = m.type ∧ leNat (bytesAt m.head) 2 2 = m.session ∧ leNat (bytesAt m.head) 4 4 = m.seq.toNat ∧
    leNat (bytesAt m.head) 8 4 = m.ack.toNat ∧ leNat (bytesAt m.head) 12 4 = m.ref.toNat ∧ leNat (bytesAt m.head) 16 8 = m.deadline.toNat ∧
    leNat (bytesAt m.head) 24 2 = m.body.length ∧ leNat (bytesAt m.head) 26 2 = m.flags := by
  have seq := m.seq.isLt
  have ack := m.ack.isLt
  have ref := m.ref.isLt
  have deadline := m.deadline.isLt
  refine ⟨?_, ?_, ?_, ?_, ?_, ?_, ?_, ?_⟩ <;>
    simp [Mbt.head, leNat_append_left, leNat_append_right, leNat_leBytes, Nat.mod_eq_of_lt, *]

end

theorem mbtParse_bytes (m : Mbt) (ht : m.type < 2 ^ 8) (hs : m.session < 2 ^ 16) (hf : m.flags < 2 ^ 16) (hb : m.body.length < 2 ^ 16) :
    mbtParse m.bytes = some m := by
  obtain ⟨type, session, seq, ack, ref, deadline, length, flags⟩ := Mbt.leNat_header ht hs hf hb
  have checked : crc32c (m.head ++ (leBytes 0 4 ++ m.body)) = m.check := by rw [Mbt.check, List.append_assoc]
  simp [mbtParse, Mbt.leNat_version, Mbt.leNat_bytes_check, Mbt.take_bytes, Mbt.drop_bytes, Mbt.leNat_bytes_head, checked, type, session, seq, ack, ref,
    deadline, length, flags]

/-- What R407 asks of the bytes of a message, and the message that they hold. -/
theorem mbtParse_eq_some {bs : List Byte} {m : Mbt} (h : mbtParse bs = some m) :
    leNat (bytesAt bs) 0 1 = 1 ∧ bs.length = 32 + leNat (bytesAt bs) 24 2 ∧
    crc32c (bs.take 28 ++ leBytes 0 4 ++ bs.drop 32) = leNat (bytesAt bs) 28 4 ∧
    m = { type := leNat (bytesAt bs) 1 1, session := leNat (bytesAt bs) 2 2, seq := BitVec.ofNat 32 (leNat (bytesAt bs) 4 4)
          ack := BitVec.ofNat 32 (leNat (bytesAt bs) 8 4), ref := BitVec.ofNat 32 (leNat (bytesAt bs) 12 4)
          deadline := BitVec.ofNat 64 (leNat (bytesAt bs) 16 8), flags := leNat (bytesAt bs) 26 2, body := bs.drop 32 } := by
  unfold mbtParse at h
  dsimp only at h
  split at h
  · cases h
  next hc =>
    simp only [Bool.or_eq_true, decide_eq_true_eq, not_or, ne_eq, not_not] at hc
    obtain ⟨⟨⟨-, version⟩, length⟩, check⟩ := hc
    exact ⟨version, length, check, (Option.some.inj h).symm⟩

theorem toNat_ofNat_leNat {w n : Nat} (h : 256 ^ n = 2 ^ w) (rd : Nat → Byte) (a : Nat) : (BitVec.ofNat w (leNat rd a n)).toNat = leNat rd a n := by
  rw [BitVec.toNat_ofNat, Nat.mod_eq_of_lt (h ▸ leNat_lt rd a n)]

theorem head_of_mbtParse {bs : List Byte} {m : Mbt} (h : mbtParse bs = some m) : m.head = bs.take 28 := by
  obtain ⟨version, length, -, rfl⟩ := mbtParse_eq_some h
  have body : (bs.drop 32).length = leNat (bytesAt bs) 24 2 := by simp [length]
  have first : leBytes 1 1 = bs.take 1 := by
    have := take_append_leBytes (bs := bs) (a := 0) (b := 1) (n := 1) rfl (by omega)
    rwa [version] at this
  simp only [Mbt.head, body, first, toNat_ofNat_leNat (n := 4) (w := 32) (by decide), toNat_ofNat_leNat (n := 8) (w := 64) (by decide)]
  rw [take_append_leBytes (b := 2) rfl, take_append_leBytes (b := 4) rfl, take_append_leBytes (b := 8) rfl, take_append_leBytes (b := 12) rfl,
    take_append_leBytes (b := 16) rfl, take_append_leBytes (b := 24) rfl, take_append_leBytes (b := 26) rfl, take_append_leBytes (b := 28) rfl]
  all_goals omega

theorem bytes_of_mbtParse {bs : List Byte} {m : Mbt} (h : mbtParse bs = some m) : bs = m.bytes := by
  have head := head_of_mbtParse h
  obtain ⟨-, length, check, hm⟩ := mbtParse_eq_some h
  have body : m.body = bs.drop 32 := by rw [hm]
  rw [Mbt.bytes, Mbt.check, head, body, check, take_append_leBytes (b := 32) rfl (by omega), List.take_append_drop]

/-- Settles O56: the header's fields read back as written, and what is parsed is written again field by field. -/
theorem messagesDecodeToThemselves : Obligations.MessagesDecodeToThemselves :=
  ⟨mbtParse_bytes, fun _ => rfl, fun _ _ => bytes_of_mbtParse⟩

end Sys2Proof.Machine
end

section
/-! PROOF. The words of the slots (R93, R132 to R164). Each slot has an encoder, and every defined word spells a well-formed operation of its slot
that the encoder takes back to the word: so every defined word is spelled, and no bit of it is dropped. -/

namespace Sys2Proof.Machine

/-! ### The encoders -/

/-- The word of an opcode and of fields, each given with its lowest bit. -/
def slotWord (op : Nat) (fs : List (Nat × Nat)) : Nat := op * 2 ^ 24 + (fs.map fun p => p.1 * 2 ^ p.2).sum

/-- The word of an operation of slot C, without its switch-point bit. -/
def encC : Instr → Nat
  | .nop _ _ => slotWord 0x00 []
  | .add _ a b c => slotWord 0x01 [(a, 18), (b, 12), (c, 6)]
  | .sub _ a b c => slotWord 0x02 [(a, 18), (b, 12), (c, 6)]
  | .andOp _ a b c => slotWord 0x03 [(a, 18), (b, 12), (c, 6)]
  | .orOp _ a b c => slotWord 0x04 [(a, 18), (b, 12), (c, 6)]
  | .xorOp _ a b c => slotWord 0x05 [(a, 18), (b, 12), (c, 6)]
  | .shl _ a b c => slotWord 0x06 [(a, 18), (b, 12), (c, 6)]
  | .shr _ a b c => slotWord 0x07 [(a, 18), (b, 12), (c, 6)]
  | .sra _ a b c => slotWord 0x08 [(a, 18), (b, 12), (c, 6)]
  | .mul _ a b c => slotWord 0x09 [(a, 18), (b, 12), (c, 6)]
  | .mulhu _ a b c => slotWord 0x0A [(a, 18), (b, 12), (c, 6)]
  | .divu _ a b c => slotWord 0x0B [(a, 18), (b, 12), (c, 6)]
  | .remu _ a b c => slotWord 0x0C [(a, 18), (b, 12), (c, 6)]
  | .minOp _ a b c => slotWord 0x0D [(a, 18), (b, 12), (c, 6)]
  | .maxOp _ a b c => slotWord 0x0E [(a, 18), (b, 12), (c, 6)]
  | .cmpEq _ a b c => slotWord 0x0F [(a, 18), (b, 12), (c, 6)]
  | .cmpLt _ a b c => slotWord 0x10 [(a, 18), (b, 12), (c, 6)]
  | .cmpLtu _ a b c => slotWord 0x11 [(a, 18), (b, 12), (c, 6)]
  | .addi _ a b c => slotWord 0x20 [(a, 18), (b, 12), (c.toNat, 0)]
  | .andi _ a b c => slotWord 0x21 [(a, 18), (b, 12), (c.toNat, 0)]
  | .ori _ a b c => slotWord 0x22 [(a, 18), (b, 12), (c.toNat, 0)]
  | .xori _ a b c => slotWord 0x23 [(a, 18), (b, 12), (c.toNat, 0)]
  | .shli _ a b c => slotWord 0x24 [(a, 18), (b, 12), (c, 0)]
  | .shri _ a b c => slotWord 0x25 [(a, 18), (b, 12), (c, 0)]
  | .srai _ a b c => slotWord 0x26 [(a, 18), (b, 12), (c, 0)]
  | .movz _ a b c => slotWord 0x28 [(a, 18), (b, 16), (c.toNat, 0)]
  | .movk _ a b c => slotWord 0x29 [(a, 18), (b, 16), (c.toNat, 0)]
  | .b _ a => slotWord 0x30 [(a, 0)]
  | .beqz _ a b => slotWord 0x31 [(a, 18), (b, 0)]
  | .bnez _ a b => slotWord 0x32 [(a, 18), (b, 0)]
  | .bltz _ a b => slotWord 0x33 [(a, 18), (b, 0)]
  | .bgez _ a b => slotWord 0x34 [(a, 18), (b, 0)]
  | .call _ a => slotWord 0x35 [(a, 0)]
  | .ret _ => slotWord 0x36 []
  | .loop _ a b => slotWord 0x37 [(a, 18), (b, 0)]
  | .getc _ a b => slotWord 0x38 [(a, 18), (b, 0)]
  | .stepInc _ a => slotWord 0x39 [(a, 18)]
  | .stepRd _ a => slotWord 0x3A [(a, 18)]
  | .drain _ => slotWord 0x3C []
  | .endOp _ => slotWord 0x3D []
  | _ => 0

/-- The word of an operation of slot V. -/
def encV : Instr → Nat
  | .vnop _ => slotWord 0x00 []
  | .vadd _ a b c d e => slotWord 0x01 [(a, 18), (b, 12), (c, 6), (d, 2), (e, 0)]
  | .vsub _ a b c d e => slotWord 0x02 [(a, 18), (b, 12), (c, 6), (d, 2), (e, 0)]
  | .vmul _ a b c d e => slotWord 0x03 [(a, 18), (b, 12), (c, 6), (d, 2), (e, 0)]
  | .vfma _ a b c d e => slotWord 0x04 [(a, 18), (b, 12), (c, 6), (d, 2), (e, 0)]
  | .vmin _ a b c d e => slotWord 0x05 [(a, 18), (b, 12), (c, 6), (d, 2), (e, 0)]
  | .vmax _ a b c d e => slotWord 0x06 [(a, 18), (b, 12), (c, 6), (d, 2), (e, 0)]
  | .vabs _ a b c d => slotWord 0x07 [(a, 18), (b, 12), (c, 2), (d, 0)]
  | .vneg _ a b c d => slotWord 0x08 [(a, 18), (b, 12), (c, 2), (d, 0)]
  | .vand _ a b c d => slotWord 0x09 [(a, 18), (b, 12), (c, 6), (d, 2)]
  | .vor _ a b c d => slotWord 0x0A [(a, 18), (b, 12), (c, 6), (d, 2)]
  | .vxor _ a b c d => slotWord 0x0B [(a, 18), (b, 12), (c, 6), (d, 2)]
  | .vshl _ a b c d => slotWord 0x0C [(a, 18), (b, 12), (c, 6), (d, 2)]
  | .vshr _ a b c d => slotWord 0x0D [(a, 18), (b, 12), (c, 6), (d, 2)]
  | .vsra _ a b c d => slotWord 0x0E [(a, 18), (b, 12), (c, 6), (d, 2)]
  | .vdiv _ a b c d e => slotWord 0x10 [(a, 18), (b, 12), (c, 6), (d, 2), (e, 0)]
  | .vsqrt _ a b c d => slotWord 0x11 [(a, 18), (b, 12), (c, 2), (d, 0)]
  | .vexp2 _ a b c d => slotWord 0x12 [(a, 18), (b, 12), (c, 2), (d, 0)]
  | .vlog2 _ a b c d => slotWord 0x13 [(a, 18), (b, 12), (c, 2), (d, 0)]
  | .vmov _ a b c => slotWord 0x18 [(a, 18), (b, 12), (c, 2)]
  | .vperm _ a b c d => slotWord 0x19 [(a, 18), (b, 12), (c, 6), (d, 2)]
  | .vidx _ a b => slotWord 0x1A [(a, 18), (b, 2)]
  | .vcmpEq _ a b c d e => slotWord 0x20 [(a, 20), (b, 12), (c, 6), (d, 2), (e, 0)]
  | .vcmpLt _ a b c d e => slotWord 0x21 [(a, 20), (b, 12), (c, 6), (d, 2), (e, 0)]
  | .vcmpLe _ a b c d e => slotWord 0x22 [(a, 20), (b, 12), (c, 6), (d, 2), (e, 0)]
  | .vbcast _ a b c => slotWord 0x28 [(a, 18), (b, 6), (c, 2)]
  | .vext _ a b c => slotWord 0x29 [(a, 18), (b, 12), (c, 6)]
  | .vrsum _ a b c => slotWord 0x2A [(a, 18), (b, 12), (c, 2)]
  | .vrmax _ a b c d => slotWord 0x2B [(a, 18), (b, 12), (c, 2), (d, 0)]
  | .mand _ a b c d => slotWord 0x30 [(a, 20), (b, 16), (c, 12), (d, 8)]
  | .mor _ a b c d => slotWord 0x31 [(a, 20), (b, 16), (c, 12), (d, 8)]
  | .mxor _ a b c d => slotWord 0x32 [(a, 20), (b, 16), (c, 12), (d, 8)]
  | .mandn _ a b c d => slotWord 0x33 [(a, 20), (b, 16), (c, 12), (d, 8)]
  | .mset _ a b => slotWord 0x34 [(a, 20), (b, 6)]
  | .mget _ a b => slotWord 0x35 [(a, 18), (b, 12)]
  | .mpop _ a b => slotWord 0x36 [(a, 18), (b, 12)]
  | .vpack4 _ a b => slotWord 0x90 [(a, 18), (b, 12)]
  | .vpack6 _ a b => slotWord 0x91 [(a, 18), (b, 12)]
  | .vpack8 _ a b => slotWord 0x92 [(a, 18), (b, 12)]
  | .vunpk4 _ a b => slotWord 0x94 [(a, 18), (b, 12)]
  | .vunpk6 _ a b => slotWord 0x95 [(a, 18), (b, 12)]
  | .vunpk8 _ a b => slotWord 0x96 [(a, 18), (b, 12)]
  | .flkRaw _ a b c d => slotWord 0xA0 [(a, 18), (b, 12), (c, 6), (d, 2)]
  | .flkMask _ a b c d => slotWord 0xA1 [(a, 20), (b, 12), (c, 6), (d, 2)]
  | .flkTraw _ a b c d => slotWord 0xA2 [(a, 18), (b, 12), (c, 6), (d, 2)]
  | .flkTmask _ a b c d => slotWord 0xA3 [(a, 20), (b, 12), (c, 6), (d, 2)]
  | .vcvt _ src dst a b c d e => slotWord (0x40 + 8 * src + dst) [(a, 18), (b, 12), (c, 6), (d, 2), (e, 0)]
  | .vmxq _ fmt bf a b c d e => slotWord ((if bf then 0x88 else 0x80) + fmt) [(a, 18), (b, 12), (c, 6), (d, 2), (e, 0)]
  | _ => 0

/-- The word of an operation of slot T. -/
def encT : Instr → Nat
  | .tnop _ => slotWord 0x00 []
  | .topen _ a b c d e => slotWord 0x10 [(c, 21), (d, 16), (e, 10), (a, 6), (b, 2)]
  | .tdot _ a b c d e => slotWord 0x11 [(a, 21), (b, 15), (c, 9), (d, 5), (e, 1)]
  | .tdotSp _ a b c d => slotWord 0x12 [(a, 21), (b, 15), (c, 9), (d, 5)]
  | .tpre _ a b c => slotWord 0x13 [(a, 21), (b, 15), (c, 11)]
  | .tclose _ a => slotWord 0x14 [(a, 21)]
  | .troundNe _ a b c d e => slotWord 0x18 [(a, 18), (b, 13), (c, 10), (d, 4), (e, 0)]
  | .troundRz _ a b c d e => slotWord 0x19 [(a, 18), (b, 13), (c, 10), (d, 4), (e, 0)]
  | .troundSr _ a b c d e => slotWord 0x1A [(a, 18), (b, 13), (c, 10), (d, 4), (e, 0)]
  | .tadd _ a b => slotWord 0x1C [(a, 19), (b, 14)]
  | .tclr _ a => slotWord 0x1D [(a, 19)]
  | .plait _ a => slotWord 0x1E [(a, 19)]
  | .plaitAll _ a => slotWord 0x1F [(a, 19)]
  | .topk _ a b c d => slotWord 0x20 [(a, 18), (b, 12), (c, 6), (d, 2)]
  | .tepiAdd _ a b c d => slotWord 0x21 [(a, 18), (b, 12), (c, 2), (d, 0)]
  | .tepiMul _ a b c d => slotWord 0x22 [(a, 18), (b, 12), (c, 2), (d, 0)]
  | .tcow _ a b c d e => slotWord 0x23 [(a, 18), (b, 12), (c, 6), (d, 2), (e, 0)]
  | .tpruneI _ a b c d e => slotWord 0x24 [(a, 20), (b, 14), (c, 10), (d, 7), (e, 1)]
  | .tpruneF _ a b c d e => slotWord 0x25 [(a, 20), (b, 14), (c, 10), (d, 7), (e, 1)]
  | .tpruneBf _ a b c d e => slotWord 0x26 [(a, 20), (b, 14), (c, 10), (d, 7), (e, 1)]
  | .tpruneH _ a b c d e => slotWord 0x27 [(a, 20), (b, 14), (c, 10), (d, 7), (e, 1)]
  | .tcow4 _ a b c d => slotWord 0x28 [(a, 18), (b, 12), (c, 6), (d, 2)]
  | .tcow6 _ a b c d => slotWord 0x29 [(a, 18), (b, 12), (c, 6), (d, 2)]
  | .plyAnd _ a b c => slotWord 0x30 [(a, 18), (b, 12), (c, 6)]
  | .plyPop _ a b c => slotWord 0x31 [(a, 18), (b, 12), (c, 6)]
  | .plyCmp _ a b c => slotWord 0x32 [(a, 18), (b, 12), (c, 6)]
  | .tmode _ a b => slotWord 0x33 [(a, 18), (b, 12)]
  | .splxMerge _ a b => slotWord 0x38 [(a, 18), (b, 12)]
  | .splxIsect _ a b => slotWord 0x39 [(a, 18), (b, 12)]
  | .tally _ a b => slotWord 0x3A [(a, 18), (b, 12)]
  | _ => 0

/-- The word of an operation of slot M. -/
def encM : Instr → Nat
  | .mnop _ => slotWord 0x00 []
  | .ldW _ a b c _ => slotWord 0x01 [(a, 18), (b, 12), (c.toNat, 0)]
  | .ldD _ a b c _ => slotWord 0x02 [(a, 18), (b, 12), (c.toNat, 0)]
  | .stW _ a b c => slotWord 0x03 [(a, 18), (b, 12), (c.toNat, 0)]
  | .stD _ a b c => slotWord 0x04 [(a, 18), (b, 12), (c.toNat, 0)]
  | .vld _ a b c d _ => slotWord 0x08 [(a, 18), (b, 12), (c, 8), (d.toNat, 0)]
  | .vst _ a b c d => slotWord 0x09 [(a, 18), (b, 12), (c, 8), (d.toNat, 0)]
  | .gath _ a b c d => slotWord 0x0A [(a, 18), (b, 12), (c, 6), (d, 2)]
  | .scatAdd _ a b c d => slotWord 0x0B [(a, 18), (b, 12), (c, 6), (d, 2)]
  | .tldl _ a b c _ => slotWord 0x0C [(a, 19), (b, 12), (c.toNat, 0)]
  | .tstl _ a b c => slotWord 0x0D [(a, 19), (b, 12), (c.toNat, 0)]
  | .sld _ a b c d => slotWord 0x10 [(a, 18), (b, 12), (c, 8), (d.toNat, 0)]
  | .sst _ a b c d => slotWord 0x11 [(a, 18), (b, 12), (c, 8), (d.toNat, 0)]
  | .stag _ a b c => slotWord 0x12 [(a, 12), (b.toNat, 4), (c, 0)]
  | .rowLd _ a b c d => slotWord 0x18 [(a, 18), (b, 12), (c.toNat, 4), (d, 0)]
  | .rowSt _ a b c => slotWord 0x19 [(a, 18), (b, 12), (c.toNat, 4)]
  | .rowWait _ => slotWord 0x1A []
  | .fill _ a b c => slotWord 0x1B [(a, 18), (b, 12), (c.toNat, 4)]
  | .copy _ a b c => slotWord 0x1C [(a, 18), (b, 12), (c.toNat, 4)]
  | .coilTake _ a b => slotWord 0x20 [(a, 20), (b, 12)]
  | .coilDrop _ a => slotWord 0x21 [(a, 20)]
  | .coilWait _ a b => slotWord 0x22 [(a, 20), (b, 6)]
  | .coilPush _ a b => slotWord 0x23 [(a, 20), (b, 6)]
  | .coilPop _ a b => slotWord 0x24 [(a, 20), (b, 6)]
  | .coilPtr _ a b => slotWord 0x25 [(a, 20), (b, 12)]
  | .coilTptr _ a b => slotWord 0x26 [(a, 20), (b, 12)]
  | .hitchOpen _ a b => slotWord 0x28 [(a, 20), (b, 12)]
  | .hitchClose _ a => slotWord 0x29 [(a, 20)]
  | .hitchStat _ a b => slotWord 0x2A [(a, 20), (b, 12)]
  | .strTake _ a b => slotWord 0x30 [(a, 21), (b, 12)]
  | .strIssue _ a b => slotWord 0x31 [(a, 21), (b, 12)]
  | .strDrop _ a => slotWord 0x32 [(a, 21)]
  | .strShort _ a b => slotWord 0x33 [(a, 12), (b, 6)]
  | .knotRel _ a b => slotWord 0x34 [(a, 21), (b, 8)]
  | .knotWait _ a b => slotWord 0x35 [(a, 21), (b, 8)]
  | .blyArr _ a => slotWord 0x36 [(a, 0)]
  | .blyWait _ a b => slotWord 0x37 [(b, 6), (a, 0)]
  | .csave _ a => slotWord 0x3F [(a, 12)]
  | _ => 0

/-! ### Words and their fields -/

/-- The low `hi` bits of a word hold the fields of a list, highest first, and 0 elsewhere. -/
def Spelled (w : Nat) : Nat → List (Nat × Nat) → Prop
  | hi, [] => w % 2 ^ hi = 0
  | hi, (v, lo) :: fs => w % 2 ^ hi = v * 2 ^ lo + w % 2 ^ lo ∧ Spelled w lo fs

theorem sum_of_spelled {w hi : Nat} {fs : List (Nat × Nat)} (h : Spelled w hi fs) : (fs.map fun p => p.1 * 2 ^ p.2).sum = w % 2 ^ hi := by
  induction fs generalizing hi with
  | nil => exact h.symm
  | cons p fs ih =>
    obtain ⟨first, rest⟩ := h
    simp only [List.map_cons, List.sum_cons, ih rest, first]

/-- An opcode of `n` bits and the fields below it make the low `24 + n` bits of a word. -/
theorem slotWord_eq {w op n : Nat} {fs : List (Nat × Nat)} (hop : w / 2 ^ 24 % 2 ^ n = op) (h : Spelled w 24 fs) : slotWord op fs = w % 2 ^ (24 + n) := by
  rw [slotWord, sum_of_spelled h, ← hop, Nat.pow_add, Nat.mod_mul, Nat.mul_comm, Nat.add_comm]

@[simp] theorem f6_val (w lo : Nat) : (f6 w lo).val = w / 2 ^ lo % 64 := rfl
@[simp] theorem f5_val (w lo : Nat) : (f5 w lo).val = w / 2 ^ lo % 32 := rfl
@[simp] theorem f4_val (w lo : Nat) : (f4 w lo).val = w / 2 ^ lo % 16 := rfl
@[simp] theorem f3_val (w lo : Nat) : (f3 w lo).val = w / 2 ^ lo % 8 := rfl
@[simp] theorem f2_val (w lo : Nat) : (f2 w lo).val = w / 2 ^ lo % 4 := rfl
@[simp] theorem target14_val (w : Nat) : (target14 w).val = w % 16384 := rfl
@[simp] theorem imm12_toNat (w : Nat) : (imm12 w).toNat = w % 4096 := BitVec.toNat_ofNat _ _
@[simp] theorem rows8_toNat (w : Nat) : (rows8 w).toNat = w / 16 % 256 := BitVec.toNat_ofNat _ _

/-- The fields of formats VR and VS. -/
theorem spelled_VR (w : Nat) : Spelled w 24 [((f6 w 18).val, 18), ((f6 w 12).val, 12), ((f6 w 6).val, 6), ((f4 w 2).val, 2), ((f2 w 0).val, 0)] := by
  simp only [Spelled, f6_val, f4_val, f2_val]
  and_intros <;> omega

/-! ### Every defined word is spelled, and its encoder gives it back -/

section
variable {k : Ctx} {w : Nat} {i : Instr} (hd : definedC w = true)
include hd

theorem opC_isSome : (opC k w).isSome = true := by
  have lt : field w 30 24 < 128 := Nat.mod_lt _ (by decide)
  revert hd
  unfold definedC opC
  generalize field w 30 24 = op at lt ⊢
  interval_cases op
  all_goals intro hd
  all_goals first
    | rfl
    | cases hd

theorem wellFormed_of_opC (h : opC k w = some i) : i.wellFormed = true ∧ slotOf i = some (0, k) := by
  unfold opC at h
  split at h
  case h_41 => cases h
  all_goals
    rename_i hop
    cases h
    refine ⟨?_, rfl⟩
  all_goals first
    | rfl
    | dsimp only [definedC] at hd
      simp [hop] at hd
      simp only [Instr.wellFormed, opCR, opCI, opCS, opCK, opCB, Bool.and_eq_true, decide_eq_true_eq, ne_eq]
      simp [field, zeroIn] at hd ⊢
      omega

theorem encC_of_opC (h : opC k w = some i) : encC i = w % 2 ^ 31 := by
  unfold opC at h
  split at h
  case h_41 => cases h
  all_goals
    rename_i hop
    cases h
    simp only [definedC, hop] at hd
    refine slotWord_eq hop ?_
    clear hop
    simp [zeroIn, field] at hd
    simp only [Spelled, f6_val, f5_val, f4_val, f3_val, f2_val, target14_val, imm12_toNat, rows8_toNat, BitVec.toNat_ofNat, Fin.val_ofNat]
    and_intros
  all_goals omega

end

section
variable {k : Ctx} {w : Nat} {i : Instr} (hd : definedV w = true)
include hd

theorem vcvt_of_definedV (lo : 0x40 ≤ field w 31 24) (hi : field w 31 24 < 0x80) :
    field w 31 24 ≤ 0x76 ∧ (field w 31 24 - 0x40) / 8 ≠ field w 31 24 % 8 ∧ field w 31 24 % 8 ≠ 7 ∧ field w 1 0 ≠ 3 := by
  unfold definedV at hd
  generalize field w 31 24 = op at *
  by_cases h : op ≤ 0x76
  · simp (disch := omega) only [Bool.or_eq_true, Bool.and_eq_true, decide_eq_true_eq, bne_iff_ne, if_neg, if_pos] at hd
    omega
  · simp (disch := omega) only [Bool.or_eq_true, Bool.and_eq_true, decide_eq_true_eq, if_neg] at hd
    cases hd

theorem vmxq_of_definedV (lo : 0x80 ≤ field w 31 24) (hi : field w 31 24 < 0x90) : field w 31 24 % 8 < 6 ∧ field w 1 0 ≠ 3 := by
  unfold definedV at hd
  generalize field w 31 24 = op at *
  by_cases h : op % 8 < 6
  · simp (disch := omega) only [Bool.or_eq_true, Bool.and_eq_true, decide_eq_true_eq, bne_iff_ne, ne_eq, if_neg, if_pos] at hd
    exact ⟨h, hd⟩
  · simp (disch := omega) only [Bool.or_eq_true, Bool.and_eq_true, decide_eq_true_eq, if_neg] at hd
    cases hd

theorem opV_isSome : (opV k w).isSome = true := by
  have lt : field w 31 24 < 256 := Nat.mod_lt _ (by decide)
  revert hd
  unfold definedV opV opVFixed
  generalize field w 31 24 = op at lt ⊢
  interval_cases op
  all_goals intro hd
  all_goals first
    | rfl
    | cases hd

theorem wellFormed_of_opVFixed (h : opVFixed k w = some i) : i.wellFormed = true ∧ slotOf i = some (1, k) := by
  unfold opVFixed at h
  split at h
  case h_47 => cases h
  all_goals
    rename_i hop
    cases h
    refine ⟨?_, rfl⟩
  all_goals first
    | rfl
    | dsimp only [definedV] at hd
      simp [hop] at hd
      simp only [Instr.wellFormed, opVR, opVI, opVU, opVF, Bool.and_eq_true, decide_eq_true_eq, ne_eq]
      simp [field, zeroIn] at hd ⊢
      omega

theorem encV_of_opVFixed (h : opVFixed k w = some i) : encV i = w % 2 ^ 32 := by
  unfold opVFixed at h
  split at h
  case h_47 => cases h
  all_goals
    rename_i hop
    cases h
    simp only [definedV, hop] at hd
    refine slotWord_eq hop ?_
    clear hop
    simp [zeroIn, field] at hd
    simp only [Spelled, f6_val, f4_val, f2_val]
    and_intros
  all_goals omega

theorem wellFormed_of_opV (h : opV k w = some i) : i.wellFormed = true ∧ slotOf i = some (1, k) := by
  unfold opV at h
  dsimp only at h
  simp only [Bool.and_eq_true, decide_eq_true_eq] at h
  split_ifs at h with cvt mxq
  · cases h
    refine ⟨?_, rfl⟩
    obtain ⟨hi, apart, dst, mode⟩ := vcvt_of_definedV hd cvt.1 cvt.2
    have mode : (f2 w 0).val ≠ 3 := by simpa [field] using mode
    simp only [Instr.wellFormed, Bool.and_eq_true, decide_eq_true_eq, ne_eq, Fin.ext_iff, Fin.val_ofNat]
    omega
  · cases h
    refine ⟨?_, rfl⟩
    obtain ⟨-, mode⟩ := vmxq_of_definedV hd mxq.1 mxq.2
    simpa [Instr.wellFormed, field] using mode
  · exact wellFormed_of_opVFixed hd h

theorem encV_of_opV (h : opV k w = some i) : encV i = w % 2 ^ 32 := by
  unfold opV at h
  dsimp only at h
  simp only [Bool.and_eq_true, decide_eq_true_eq] at h
  split_ifs at h with cvt mxq
  · cases h
    refine slotWord_eq (n := 8) ?_ (spelled_VR w)
    change field w 31 24 = _
    simp only [Fin.val_ofNat]
    omega
  · cases h
    obtain ⟨fmt, -⟩ := vmxq_of_definedV hd mxq.1 mxq.2
    refine slotWord_eq (n := 8) ?_ (spelled_VR w)
    change field w 31 24 = _
    by_cases bf : 0x88 ≤ field w 31 24
    · simp only [bf, decide_true, if_true, Fin.val_ofNat]
      omega
    · simp only [bf, decide_false, Bool.false_eq_true, if_false, Fin.val_ofNat]
      omega
  · exact encV_of_opVFixed hd h

end

section
variable {k : Ctx} {w : Nat} {i : Instr} (hd : definedT w = true)
include hd

theorem opT_isSome : (opT k w).isSome = true := by
  have lt : field w 31 24 < 256 := Nat.mod_lt _ (by decide)
  revert hd
  unfold definedT opT
  generalize field w 31 24 = op at lt ⊢
  interval_cases op
  all_goals intro hd
  all_goals first
    | rfl
    | cases hd

theorem wellFormed_of_opT (h : opT k w = some i) : i.wellFormed = true ∧ slotOf i = some (2, k) := by
  unfold opT at h
  split at h
  case h_31 => cases h
  all_goals
    rename_i hop
    cases h
    refine ⟨?_, rfl⟩
  all_goals first
    | rfl
    | dsimp only [definedT] at hd
      simp [hop] at hd
      simp only [Instr.wellFormed, opTR, opTK, opTC, opTU, opTS, opTP, Bool.and_eq_true, decide_eq_true_eq, ne_eq]
      simp [field, zeroIn] at hd ⊢
      omega

theorem encT_of_opT (h : opT k w = some i) : encT i = w % 2 ^ 32 := by
  unfold opT at h
  split at h
  case h_31 => cases h
  all_goals
    rename_i hop
    cases h
    simp only [definedT, hop] at hd
    refine slotWord_eq hop ?_
    clear hop
    simp [zeroIn, field] at hd
    simp only [Spelled, f6_val, f5_val, f4_val, f3_val, f2_val, target14_val, imm12_toNat, rows8_toNat, BitVec.toNat_ofNat, Fin.val_ofNat]
    and_intros
  all_goals omega

end

section
variable {k : Ctx} {w : Nat} {late : Bool} {i : Instr} (hd : definedM w = true)
include hd

theorem opM_isSome : (opM k w late).isSome = true := by
  have lt : field w 31 24 < 256 := Nat.mod_lt _ (by decide)
  revert hd
  unfold definedM opM
  generalize field w 31 24 = op at lt ⊢
  interval_cases op
  all_goals intro hd
  all_goals first
    | rfl
    | cases hd

theorem wellFormed_of_opM (h : opM k w late = some i) : i.wellFormed = true ∧ slotOf i = some (3, k) := by
  unfold opM at h
  split at h
  case h_39 => cases h
  all_goals
    rename_i hop
    cases h
    refine ⟨?_, rfl⟩
  all_goals first
    | rfl
    | dsimp only [definedM] at hd
      simp [hop] at hd
      simp only [Instr.wellFormed, opMA, opMS, opMV, opMG, opMR, opMC, opMB, Bool.and_eq_true, decide_eq_true_eq, ne_eq]
      simp [field, zeroIn] at hd ⊢
      omega

theorem encM_of_opM (h : opM k w late = some i) : encM i = w % 2 ^ 32 := by
  unfold opM at h
  split at h
  case h_39 => cases h
  all_goals
    rename_i hop
    cases h
    simp only [definedM, hop] at hd
    refine slotWord_eq hop ?_
    clear hop
    simp [zeroIn, field] at hd
    simp only [Spelled, f6_val, f5_val, f4_val, f3_val, f2_val, target14_val, imm12_toNat, rows8_toNat, BitVec.toNat_ofNat, Fin.val_ofNat]
    and_intros
  all_goals omega

end

/-! ### The statements -/

theorem decodeC_eq_some {k : Ctx} {w : Nat} {i : Instr} : decodeC k w = some i ↔ definedC w = true ∧ opC k w = some i := by
  simp [decodeC]

theorem decodeV_eq_some {k : Ctx} {w : Nat} {i : Instr} : decodeV k w = some i ↔ definedV w = true ∧ opV k w = some i := by
  simp [decodeV]

theorem decodeT_eq_some {k : Ctx} {w : Nat} {i : Instr} : decodeT k w = some i ↔ definedT w = true ∧ opT k w = some i := by
  simp [decodeT]

theorem decodeM_eq_some {k : Ctx} {w : Nat} {late : Bool} {i : Instr} :
    decodeM k w late = some i ↔ definedM w = true ∧ opM k w late = some i := by
  simp [decodeM]

/-- A decoder that spells a well-formed operation of its slot for every defined word, and none for any other. -/
theorem spells_of {n : Nat} {k : Ctx} {defined : Nat → Bool} {dec op : Nat → Option Instr} (dec_eq : ∀ w i, dec w = some i ↔ defined w = true ∧ op w = some i)
    (some_of : ∀ w, defined w = true → (op w).isSome = true)
    (formed : ∀ w i, defined w = true → op w = some i → i.wellFormed = true ∧ slotOf i = some (n, k)) : Spells n k defined dec := by
  intro w
  refine ⟨fun hd => ?_, fun hd => ?_⟩
  · obtain ⟨i, hi⟩ := Option.isSome_iff_exists.mp (some_of _ hd)
    exact ⟨i, (dec_eq _ i).mpr ⟨hd, hi⟩, formed _ i hd hi⟩
  · rw [Option.eq_none_iff_forall_not_mem]
    intro i hi
    rw [((dec_eq _ i).mp hi).1] at hd
    cases hd

/-- The words of a bundle of 128 bits. -/
theorem word4_of (c v t m : BitVec 32) :
    Word4.of (c.toNat + v.toNat * 2 ^ 32 + t.toNat * 2 ^ 64 + m.toNat * 2 ^ 96) = { c := c.toNat, v := v.toNat, t := t.toNat, m := m.toNat } := by
  have := c.isLt
  have := v.isLt
  have := t.isLt
  have := m.isLt
  simp only [Word4.of, field, Word4.mk.injEq]
  and_intros <;> omega

theorem ops_eq_none {k : Ctx} {late : Bool} {b : Word4} (h : (definedC b.c && definedV b.v && definedT b.t && definedM b.m) = false) :
    b.ops k late = none := by
  unfold Word4.ops
  split
  next hc hv ht hm =>
    rw [(decodeC_eq_some.mp hc).1, (decodeV_eq_some.mp hv).1, (decodeT_eq_some.mp ht).1, (decodeM_eq_some.mp hm).1] at h
    cases h
  next => rfl

/-- Settles O58: an opcode whose word is defined is in its slot's table, and what the table gives for it is well formed. -/
theorem slotWordsSpellOperations : Obligations.SlotWordsSpellOperations := by
  intro k late
  refine ⟨spells_of (fun _ _ => decodeC_eq_some) (fun _ => opC_isSome) fun _ _ => wellFormed_of_opC,
    spells_of (fun _ _ => decodeV_eq_some) (fun _ => opV_isSome) fun _ _ => wellFormed_of_opV,
    spells_of (fun _ _ => decodeT_eq_some) (fun _ => opT_isSome) fun _ _ => wellFormed_of_opT,
    spells_of (fun _ _ => decodeM_eq_some) (fun _ => opM_isSome) fun _ _ => wellFormed_of_opM, fun c v t m => ?_⟩
  rw [word4_of]
  refine ⟨fun i j x y hc hv ht hm => by simp [Word4.ops, hc, hv, ht, hm], fun h => ops_eq_none ?_⟩
  simp only [Bool.and_eq_true, decide_eq_true_eq] at h
  simp [h.2]

/-- Two words of slot C that spell one operation agree below the switch-point bit. -/
theorem low_of_decodeC {k : Ctx} {w x : Nat} {i : Instr} (hw : decodeC k w = some i) (hx : decodeC k x = some i) : w % 2 ^ 31 = x % 2 ^ 31 := by
  rw [decodeC_eq_some] at hw hx
  rw [← encC_of_opC hw.1 hw.2, ← encC_of_opC hx.1 hx.2]

/-- The no-operation of slot C keeps the switch-point bit. -/
theorem bit_of_decodeC_nop {k : Ctx} {w : Nat} {sp : Bool} (h : decodeC k w = some (.nop k sp)) : bit w 31 = sp := by
  obtain ⟨-, h⟩ := decodeC_eq_some.mp h
  unfold opC at h
  split at h <;> cases h
  rfl

/-- A word of 32 bits is its low 31 bits and its bit 31. -/
theorem eq_of_low_of_bit {w x : BitVec 32} (low : w.toNat % 2 ^ 31 = x.toNat % 2 ^ 31) (top : bit w.toNat 31 = bit x.toNat 31) : w = x := by
  have := w.isLt
  have := x.isLt
  have div : w.toNat / 2 ^ 31 = x.toNat / 2 ^ 31 := by
    simp only [bit, Nat.testBit_eq_decide_div_mod_eq, decide_eq_decide] at top
    omega
  apply BitVec.eq_of_toNat_eq
  omega

theorem eq_of_toNat_mod {w x : BitVec 32} (h : w.toNat % 2 ^ 32 = x.toNat % 2 ^ 32) : w = x := by
  apply BitVec.eq_of_toNat_eq
  rwa [Nat.mod_eq_of_lt w.isLt, Nat.mod_eq_of_lt x.isLt] at h

/-- Settles O59: each encoder gives the word back, but for the switch-point bit. -/
theorem slotWordsDropNoBit : Obligations.SlotWordsDropNoBit := by
  intro k late w x i
  refine ⟨fun hw hx => ?_, fun hw hx => ?_, fun hw hx => ?_, fun hw hx => ?_⟩
  · have low := low_of_decodeC hw hx
    refine ⟨BitVec.eq_of_toNat_eq (by rw [BitVec.toNat_setWidth, BitVec.toNat_setWidth, low]), ?_⟩
    rintro ⟨sp, rfl⟩
    exact eq_of_low_of_bit low ((bit_of_decodeC_nop hw).trans (bit_of_decodeC_nop hx).symm)
  · rw [decodeV_eq_some] at hw hx
    exact eq_of_toNat_mod ((encV_of_opV hw.1 hw.2).symm.trans (encV_of_opV hx.1 hx.2))
  · rw [decodeT_eq_some] at hw hx
    exact eq_of_toNat_mod ((encT_of_opT hw.1 hw.2).symm.trans (encT_of_opT hx.1 hx.2))
  · rw [decodeM_eq_some] at hw hx
    exact eq_of_toNat_mod ((encM_of_opM hw.1 hw.2).symm.trans (encM_of_opM hx.1 hx.2))

end Sys2Proof.Machine
end

section
/-! PROOF. Operations of a slot: how the outcome of an operation gives a statement that it performs, aborts or holds; and the operations of slots C
and V. -/

namespace Sys2Proof.Machine

/-! ### From the outcome of an operation to the statement about it -/

theorem performs_of {i : Instr} {n : Nat} {k : Ctx} {f : Context → Context} (h : ∀ s, exec i s = issueOp n k (ctxOp k f) s) : Performs i n k f :=
  fun s _ _ ha => (h s).trans (issueOp_ctxOp ha f)

/-- An operation whose encoding is defined performs. -/
theorem performs_encoded {i : Instr} {n : Nat} {k : Ctx} {ok : Bool} {f : Context → Context} (defined : ok = true)
    (h : ∀ s, exec i s = encoded ok (issueOp n k (ctxOp k f) s)) : Performs i n k f :=
  performs_of fun s => (h s).trans (encoded_true defined _)

theorem performs_congr {i : Instr} {n : Nat} {k : Ctx} {f g : Context → Context} (same : ∀ c, g c = f c) (h : Performs i n k g) :
    Performs i n k f :=
  (funext same : g = f) ▸ h

theorem performsIf_of {i : Instr} {n : Nat} {k : Ctx} {c : Dev → Prop} {op : Dev → Dev → OpRes} {f : Dev → Dev → Dev}
    (h : ∀ s, exec i s = issueOp n k op s) (ho : ∀ d0 d, c d → op d0 d = .ok (f d0 d)) : PerformsIf i n k c f :=
  fun s d0 d ha hc => (h s).trans (issueOp_ok ha (ho d0 d hc))

theorem abortsIf_of {i : Instr} {n : Nat} {k : Ctx} {c : Dev → Prop} {op : Dev → Dev → OpRes} {st : Status}
    (h : ∀ s, exec i s = issueOp n k op s) (ho : ∀ d0 d, c d → op d0 d = .faulty st) : AbortsIf i n k c st :=
  fun s d0 d ha hc => (h s).trans (issueOp_fault ha (ho d0 d hc))

theorem holdsIf_of {i : Instr} {n : Nat} {k : Ctx} {c : Dev → Prop} {op : Dev → Dev → OpRes} {x : Hold}
    (h : ∀ s, exec i s = issueOp n k op s) (ho : ∀ d0 d, c d → op d0 d = .hold x) : HoldsIf i n k c x :=
  fun s d0 d ha hc => (h s).trans (issueOp_hold ha (ho d0 d hc))

/-- An encoding that R133 leaves undefined is refused in every state. -/
theorem refused_of {i : Instr} (h : i.wellFormed = false) (s : State) : exec i s = .refused .undefinedEncoding :=
  exec_of_not_wellFormed h s

/-! ### Slot C -/

theorem truth_eq {p : Prop} [Decidable p] {b : Bool} (h : b = true ↔ p) : truth b = if p then 1 else 0 := by
  unfold truth
  simp only [h]

/-- The shift count of an immediate shift is the immediate. -/
theorem toNat_shiftCount (sh : Fin 64) : (BitVec.ofNat 64 sh.val).toNat = sh.val := by
  rw [BitVec.toNat_ofNat]
  omega

theorem not_slt_zero_iff (x : W64) : (!x.slt 0) = true ↔ 0 ≤ x.toInt := by
  simp [BitVec.slt_eq_decide]

theorem slt_zero_iff (x : W64) : x.slt 0 = true ↔ x.toInt < 0 := by
  simp [BitVec.slt_eq_decide]

/-- A branch whose condition is `cond` is taken where `p` holds. -/
theorem performs_branchIf {i : Instr} {k : Ctx} {sa : Fin 64} {target : Fin 16384} {cond : W64 → Bool} {p : W64 → Prop} [DecidablePred p]
    (h : ∀ s, exec i s = branchIf k sa cond target s) (same : ∀ x, cond x = true ↔ p x) :
    Performs i 0 k fun c => if p (c.getS sa) then { c with redirect := some (2, target.val) } else c :=
  performs_congr (fun c => by simp only [same]; rfl) (performs_of h)

/-- A comparison gives 1 where `p` holds. -/
theorem performs_compare {i : Instr} {k : Ctx} {sd sa sb : Fin 64} {cmp : W64 → W64 → Bool} {p : W64 → W64 → Prop} [∀ x y, Decidable (p x y)]
    (h : ∀ s, exec i s = scalarRR k sd sa sb 4 (fun a b => truth (cmp a b)) s) (same : ∀ x y, cmp x y = true ↔ p x y) :
    Performs i 0 k fun c => c.later 0 4 (.s sd (if p (c.getS sa) (c.getS sb) then 1 else 0)) :=
  performs_congr (fun c => by dsimp only; rw [truth_eq (same _ _)]) (performs_of h)

/-- A shift by an immediate. -/
theorem performs_shiftImm {i : Instr} {k : Ctx} {sd sa sh : Fin 64} {f : W64 → Nat → W64}
    (h : ∀ s, exec i s = scalarRI k sd sa (BitVec.ofNat 64 sh.val) (fun a b => f a b.toNat) s) :
    Performs i 0 k fun c => c.later 0 4 (.s sd (f (c.getS sa) sh.val)) :=
  performs_congr (fun c => by dsimp only; rw [toNat_shiftCount]) (performs_of h)

/-- Settles O1: the branches on their conditions, and LOOP, which alone may reach the end of the code. -/
theorem branchOperations : Obligations.BranchOperations := by
  intro k sa target
  refine ⟨performs_of fun _ => rfl, ?beqz, ?bnez, ?bltz, ?bgez, performs_of fun _ => rfl, performs_of fun _ => rfl, ?loop⟩
  case beqz => exact performs_branchIf (cond := fun a => a == 0) (p := fun x => x = 0) (fun _ => rfl) fun x => by simp
  case bnez => exact performs_branchIf (cond := fun a => a != 0) (p := fun x => x ≠ 0) (fun _ => rfl) fun x => by simp
  case bltz => exact performs_branchIf (cond := fun a => a.slt 0) (p := fun x => x.toInt < 0) (fun _ => rfl) slt_zero_iff
  case bgez => exact performs_branchIf (cond := fun a => !a.slt 0) (p := fun x => 0 ≤ x.toInt) (fun _ => rfl) not_slt_zero_iff
  case loop => exact performsIf_of (fun _ => rfl) fun _ _ _ => rfl

/-- Settles O2. -/
theorem controlOperations : Obligations.ControlOperations := by
  intro k sp sd num
  refine ⟨performs_of fun _ => rfl, fun h => ?getc, fun h => refused_of ?undefined, performs_of fun _ => rfl, performs_of fun _ => rfl,
    performsIf_of (fun _ => rfl) fun _ _ _ => rfl, performsIf_of (fun _ => rfl) fun _ _ _ => rfl⟩
  case getc => exact performsIf_of (fun _ => encoded_true (decide_eq_true h) _) fun _ _ _ => rfl
  case undefined => exact decide_eq_false (by omega)

theorem scalarRegisterOperationsHold : ScalarRegisterOperationsHold := by
  intro k sd sa sb
  refine ⟨performs_of fun _ => rfl, performs_of fun _ => rfl, performs_of fun _ => rfl, performs_of fun _ => rfl, performs_of fun _ => rfl,
    performs_of fun _ => rfl, performs_of fun _ => rfl, performs_of fun _ => rfl, performs_of fun _ => rfl, performs_of fun _ => rfl,
    performs_of fun _ => rfl, performs_of fun _ => rfl, performs_of fun _ => rfl, performs_of fun _ => rfl, ?eq, ?lt, ?ltu⟩
  case eq => exact performs_compare (p := fun x y => x = y) (fun _ => rfl) fun x y => beq_iff_eq
  case lt => exact performs_compare (p := fun x y => x.toInt < y.toInt) (fun _ => rfl) fun x y => BitVec.slt_iff_toInt_lt
  case ltu => exact performs_compare (p := fun x y => x.toNat < y.toNat) (fun _ => rfl) fun x y => BitVec.ult_iff_lt

theorem scalarImmediateOperationsHold : ScalarImmediateOperationsHold := by
  intro k sd sa sh pos imm imm16
  refine ⟨performs_of fun _ => rfl, performs_of fun _ => rfl, performs_of fun _ => rfl, performs_of fun _ => rfl, ?shl, ?shr, ?sra,
    performs_of fun _ => rfl, performs_of fun _ => rfl⟩
  case shl => exact performs_shiftImm (f := fun a n => a <<< n) fun _ => rfl
  case shr => exact performs_shiftImm (f := fun a n => a >>> n) fun _ => rfl
  case sra => exact performs_shiftImm (f := BitVec.sshiftRight) fun _ => rfl

/-- Settles O4. -/
theorem scalarOperations : Obligations.ScalarOperations := ⟨scalarRegisterOperationsHold, scalarImmediateOperationsHold⟩

/-! ### Slot V -/

/-- Settles O3: every lane operation is `vecOp` of its function on lanes. -/
theorem vectorLaneOperations : Obligations.VectorLaneOperations := by
  intro k vd va vb sb mk ty
  refine ⟨?_, ?_, ?_, ?_, ?_, ?_, ?_, ?_, ?_, ?_, ?_, ?_, ?_, ?_, ?_, ?_, ?_, ?_⟩ <;> exact performs_of fun _ => rfl

theorem floatingOnlyOperationsHold : FloatingOnlyOperationsHold := by
  refine fun k vd va vb mk ty => ⟨fun h => ?defined, fun s => ?undefined⟩
  case defined =>
    have hty : tyFloat ty = true := bne_iff_ne.mpr h
    refine ⟨?_, ?_, ?_, ?_, ?_⟩ <;> exact performs_encoded hty fun _ => rfl
  case undefined => exact ⟨refused_of rfl s, refused_of rfl s, refused_of rfl s, refused_of rfl s, refused_of rfl s⟩

theorem maskAndReductionOperationsHold : MaskAndReductionOperationsHold := by
  intro k sd va vb sb md ma mb mk ty
  refine ⟨performs_of fun _ => rfl, performs_of fun _ => rfl, performs_of fun _ => rfl, performs_of fun _ => rfl, performs_of fun _ => rfl,
    fun h => performs_encoded (decide_eq_true h) fun _ => rfl, fun h => refused_of (decide_eq_false (by omega)), ?_⟩
  refine ⟨?_, ?_, ?_, ?_, ?_, ?_, ?_⟩ <;> exact performs_of fun _ => rfl

/-- Settles O6. -/
theorem floatingAndMaskOperations : Obligations.FloatingAndMaskOperations := ⟨floatingOnlyOperationsHold, maskAndReductionOperationsHold⟩

theorem cvtOk_iff (src dst : Fin 8) (mode : Fin 4) : cvtOk src dst mode = true ↔ src ≠ dst ∧ src ≠ 7 ∧ dst ≠ 7 ∧ mode ≠ 3 := by
  simp [cvtOk, and_assoc]

theorem conversionOperationsHold : ConversionOperationsHold := by
  intro k src dst fmt bf vd va vb mk mode
  refine ⟨fun h1 h2 h3 h4 => performs_encoded ((cvtOk_iff src dst mode).mpr ⟨h1, h2, h3, h4⟩) fun _ => rfl, fun h s => ?cvt,
    fun h => performs_encoded (bne_iff_ne.mpr h) fun _ => rfl, refused_of rfl, ?_⟩
  case cvt =>
    have undefined : cvtOk src dst mode = false := by
      rw [← Bool.not_eq_true, cvtOk_iff]
      tauto
    exact encoded_false undefined _
  refine ⟨?_, ?_, ?_, ?_, ?_, ?_⟩ <;> exact performs_of fun _ => rfl

theorem flickerOperationsHold : FlickerOperationsHold := by
  intro k vd va sb md mk
  refine ⟨fun h => ?even, fun h s => ?odd⟩
  case even =>
    have defined : (va.val % 2 == 0) = true := beq_iff_eq.mpr h
    refine ⟨?_, ?_, ?_, ?_⟩ <;> exact performsIf_of (fun _ => encoded_true defined _) fun _ _ _ => rfl
  case odd =>
    have undefined : (va.val % 2 == 0) = false := beq_eq_false_iff_ne.mpr (by omega)
    exact ⟨encoded_false undefined _, encoded_false undefined _, encoded_false undefined _, encoded_false undefined _⟩

/-- Settles O5. -/
theorem conversionAndFlickerOperations : Obligations.ConversionAndFlickerOperations := ⟨conversionOperationsHold, flickerOperationsHold⟩

end Sys2Proof.Machine
end

section
/-! PROOF. The operations of slot T: tensor operations on chunks, roundings, Plait operations, the output stage and the sparse operations. -/

namespace Sys2Proof.Machine

/-! ### Checks that pass, and holds that do not apply -/

theorem firstRefusal_cons_eq_none {r : Refuse} {l : List Refuse} (hr : r = none) (hl : firstRefusal l = none) : firstRefusal (r :: l) = none := by
  rw [hr, firstRefusal_none, hl]

theorem refuseIf_eq_none {b : Bool} {st : Status} (h : b = false) : refuseIf b st = none := by rw [h, refuseIf_false]

theorem guardOp_pass {r : Refuse} {f : OpRes} (h : r = none) : guardOp r f = f := by rw [h, guardOp_none]

theorem guardOp_refuse {r : Refuse} {f : OpRes} {st : Status} (h : r = some (st, noPost)) : guardOp r f = .faulty st := by rw [h]; rfl

/-- A bundle none of whose rows a ROW.LD has still to write is not held. -/
theorem stageHold_ready {slot : Nat} {c : Context} {rows : List Nat} {r : OpRes} (h : ∀ x ∈ rows, x ∉ c.rowsAwaited) :
    stageHold slot c rows r = r := by
  refine if_neg fun hany => ?_
  obtain ⟨x, hx, hc⟩ := List.any_eq_true.mp hany
  exact h x hx (List.contains_iff_mem.mp hc)

theorem stageHold_none_awaited {slot : Nat} {c : Context} {rows : List Nat} {r : OpRes} (h : c.rowsAwaited = []) : stageHold slot c rows r = r :=
  stageHold_ready fun x _ => by simp [h]

theorem arrayHold_free {d : Dev} {k : Ctx} {r : OpRes} (h : (d.core k.region k.core).replaying = none) : arrayHold d k r = r := by
  simp [arrayHold, h]

/-! ### Tensor operations -/

theorem tensorOp_no_chunk {d : Dev} {k : Ctx} {w : Fin 8} {op : Chunk → LogOp} {list : Option (Nat × Nat)} (h : (d.ctx k).chunk? w = none) :
    d.tensorOp k w op list = .faulty 0x3005 := by
  rw [Dev.tensorOp, h]

/-- A tensor dot of a pair of formats that no chunk may multiply, in a context that is not held. -/
theorem tensorOp_pair_refused {d : Dev} {k : Ctx} {w : Fin 8} {op : Chunk → LogOp} {list : Option (Nat × Nat)} {h : Chunk}
    (hc : (d.ctx k).chunk? w = some h) (dot : (op h).kind ≠ 2) (pair : pairAllowed h.fa h.fb = false)
    (free : (d.core k.region k.core).replaying = none) (rows : (d.ctx k).rowsAwaited = []) : d.tensorOp k w op list = .faulty 0x3001 := by
  rw [Dev.tensorOp, hc]
  simp [arrayHold_free free, stageHold_none_awaited rows, dot, pair]

/-- A tensor dot or preload that is not held and passes the checks of R92 runs its terms. -/
theorem tensorOp_runs {d : Dev} {k : Ctx} {w : Fin 8} {op : Chunk → LogOp} {list : Option (Nat × Nat)} {h : Chunk}
    (hc : (d.ctx k).chunk? w = some h) (ready : arrayReady d k ((op h).rows h list)) (pre : (op h).kind = 2 → h.pre.isSome = true)
    (pair : (op h).kind ≠ 2 → pairAllowed h.fa h.fb = true)
    (scale : (op h).kind ≠ 2 → (op h).scaleOver (d.core k.region k.core).stageByte h = false) (room : h.log.length < 4096) :
    d.tensorOp k w op list = .ok (((if (op h).kind = 1 then d
      else d.modCtx k fun c => c.hideWindows w (if (op h).kind = 2 then 4 else (op h).d + 6)).inc64 (aCo k.region k.core + rCoPfTarray)
        (op h).d).runLogged k w ((op h).rows h list) ((op h).groups h + 1) (op h)) := by
  obtain ⟨free, rows⟩ := ready
  rw [Dev.tensorOp, hc]
  dsimp only
  rw [arrayHold_free free, stageHold_ready rows]
  by_cases dot : (op h).kind = 2
  · have := pre dot
    rw [if_neg (by simpa [Option.isSome_iff_ne_none, dot] using this), if_neg (by simp [dot]), if_neg (by simp [dot]), if_neg (by omega)]
  · rw [if_neg (by simp [dot]), if_neg (by simp [pair dot]), if_neg (by simp [scale dot]), if_neg (by omega)]

theorem topen_ok {d : Dev} {k : Ctx} {fa fb : Nat} {w : Fin 8} {t : Fin 32} {x : Nat} {ra rb rp : List Nat}
    (hra : ra = spanRows (field x 8 0) (field x 17 9 + 1)) (hrb : rb = spanRows (field x 26 18) (field x 35 27 + 1))
    (hrp : rp = if bit x 54 then spanRows (field x 44 36) (field x 53 45 + 1) else [])
    (closed : (d.ctx k).chunk? w = none) (pre : bit x 54 = true → field x 57 55 ≠ 7) (rows : (d.ctx k).rowsAwaited = [])
    (ha : ∀ r ∈ ra, (d.core k.region k.core).tagBad (spanCode fa) r = false) (hb : ∀ r ∈ rb, (d.core k.region k.core).tagBad (spanCode fb) r = false)
    (hp : ∀ r ∈ rp, (d.core k.region k.core).tagBad (field x 57 55) r = false) :
    d.topen k fa fb w t x = .ok (d.modCtx k fun c =>
      (c.setW w (List.replicate 64 (Window.zero.opened t (anchorOf (d.core k.region k.core) fa fb ra rb rp)))).putChunk
        { w := w, fa := fa, fb := fb, pre := if bit x 54 then some (field x 57 55) else none, target := t,
          anchor := anchorOf (d.core k.region k.core) fa fb ra rb rp }) := by
  subst hra hrb hrp
  rw [Dev.topen]
  dsimp only
  rw [stageHold_none_awaited rows, closed, if_neg (by simp), if_neg]
  simp only [Bool.or_eq_true, Bool.and_eq_true, beq_iff_eq, List.any_eq_true, not_or, not_and, not_exists]
  exact ⟨⟨⟨pre, fun r hr => by simp [ha r hr]⟩, fun r hr => by simp [hb r hr]⟩, fun r hr => by simp [hp r hr]⟩

theorem topen_on_open {d : Dev} {k : Ctx} {fa fb : Nat} {w : Fin 8} {t : Fin 32} {x : Nat} (h : ((d.ctx k).chunk? w).isSome = true)
    (rows : (d.ctx k).rowsAwaited = []) : d.topen k fa fb w t x = .faulty 0x3005 := by
  rw [Dev.topen]
  dsimp only
  rw [stageHold_none_awaited rows, if_pos h]

theorem tclose_some {d : Dev} {k : Ctx} {w : Fin 8} {h : Chunk} (hc : (d.ctx k).chunk? w = some h) : d.tclose k w = .ok (d.closeChunk k h).1 := by
  rw [Dev.tclose, hc]

theorem tclose_none {d : Dev} {k : Ctx} {w : Fin 8} (hc : (d.ctx k).chunk? w = none) : d.tclose k w = .faulty 0x3005 := by
  rw [Dev.tclose, hc]

/-- The sparse tensor dot that TDOT.SP issues into a chunk. -/
def sparseDot (d : Dev) (k : Ctx) (sa sb : Fin 64) (mk : Fin 16) (h : Chunk) : LogOp :=
  let x := ((d.ctx k).getS sa).toNat
  let ps := (d.core k.region k.core).positions (stAddr64 x 36)
  let p := pairRate h.fa h.fb
  { kind := 1, elemA := stAddr64 x 0, scaleA := stAddr x 18, elemB := stAddr64 ((d.ctx k).getS sb).toNat 0,
    scaleB := stAddr ((d.ctx k).getS sb).toNat 18, pos := ps, mask := (d.ctx k).getM mk,
    d := max (ceilDiv ps.length (64 * p)) (ceilDiv (listSpan ps) (512 * p)) }

/-- TDOT.SP holds its context once its terms have run. -/
theorem tdotSp_eq {d : Dev} {r : OpRes} {k : Ctx} {w : Fin 8} {sa sb : Fin 64} {mk : Fin 16}
    (h : d.tensorOp k w (sparseDot d k sa sb mk) (some (stAddr64 ((d.ctx k).getS sa).toNat 36,
      4 + 2 * ((d.core k.region k.core).positions (stAddr64 ((d.ctx k).getS sa).toNat 36)).length)) = r) :
    d.tdotSp k w ((d.ctx k).getS sa).toNat ((d.ctx k).getS sb).toNat ((d.ctx k).getM mk) =
      r.bind fun d => .ok (d.addHold k { why := .metered, kind := 1, slot := 2 }) :=
  congrArg (fun r => r.bind fun d => .ok (d.addHold k { why := .metered, kind := 1, slot := 2 })) h

/-- The event `i` is `f` of the device. -/
theorem takes_of {i : Instr} {d e : Dev} (f : Dev → Dev) (run : ∀ s, exec i s = event f s) (h : f d = e) : Takes i d e := by
  intro base pending
  rw [run, event_eq, h]

theorem replayDone_free {d : Dev} {k : Ctx} {w n : Nat} (h : (d.ctx k).replays w = true)
    (held : ((d.replayEnds k w).ctx k).holds.filter (((d.replayEnds k w).ctx k).replayHold w) = []) : d.replayDone k w n = d.replayEnds k w := by
  rw [Dev.replayDone, if_pos h]
  dsimp only
  rw [held]
  rfl

theorem replayDone_held {d : Dev} {k : Ctx} {w n : Nat} (h : (d.ctx k).replays w = true)
    (held : ((d.replayEnds k w).ctx k).holds.filter (((d.replayEnds k w).ctx k).replayHold w) ≠ []) :
    d.replayDone k w n = (((d.replayEnds k w).modCtx k fun c => { c with holds := c.holds.filter fun h => !c.replayHold w h }).countHold k n) := by
  rw [Dev.replayDone, if_pos h]
  dsimp only
  rw [if_neg (by simpa [List.isEmpty_iff] using held)]

theorem tensorOperationsHold : TensorOperationsHold := by
  intro k fa fb w t sa sb mk n1 n
  refine ⟨performs_of fun _ => rfl, fun hfa hfb => ?topen, fun h op hop => ?tdot, fun h op hop => ?tdotSp, fun h op hop => ?tpre, fun h => ?tclose,
    fun d hr hh => takes_of (fun d => d.replayDone k w n) (fun _ => rfl) (replayDone_free hr hh), fun d hr hh => takes_of (fun d => d.replayDone k w n) (fun _ => rfl) (replayDone_held hr hh)⟩
  case topen =>
    refine performsIf_of (fun _ => encoded_true (by simp [hfa, hfb]) _) fun d0 d ⟨closed, pre, rows, ha, hb, hp⟩ => ?_
    exact topen_ok rfl rfl rfl closed pre rows ha hb hp
  case tdot =>
    subst hop
    refine performsIf_of (fun _ => rfl) fun d0 d ⟨hc, ready, pair, scale, room⟩ => ?_
    exact tensorOp_runs hc ready (fun h2 => absurd h2 (by simp)) (fun _ => pair) (fun _ => scale) room
  case tdotSp =>
    subst hop
    refine performsIf_of (fun _ => rfl) fun d0 d ⟨hc, ready, pair, scale, room⟩ => ?_
    exact tdotSp_eq (tensorOp_runs (op := sparseDot d k sa sb mk) hc ready (fun h2 => absurd h2 (by simp [sparseDot])) (fun _ => pair)
      (fun _ => scale) room)
  case tpre =>
    subst hop
    refine performsIf_of (fun _ => rfl) fun d0 d ⟨hc, ready, pre, room⟩ => ?_
    exact tensorOp_runs hc ready (fun _ => pre) (fun h2 => absurd rfl h2) (fun h2 => absurd rfl h2) room
  case tclose => exact performsIf_of (fun _ => rfl) fun d0 d hc => tclose_some hc

theorem tensorFaultsHold : TensorFaultsHold := by
  intro k fa fb w t sa sb mk n1
  refine ⟨abortsIf_of (fun _ => rfl) fun _ _ hc => tensorOp_no_chunk hc, abortsIf_of (fun _ => rfl) fun _ d hc => ?tdotSp,
    abortsIf_of (fun _ => rfl) fun _ _ hc => tensorOp_no_chunk hc, abortsIf_of (fun _ => rfl) fun _ _ hc => tclose_none hc,
    fun hfa hfb => abortsIf_of (fun _ => encoded_true (by simp [hfa, hfb]) _) fun _ _ ⟨hc, rows⟩ => topen_on_open hc rows,
    abortsIf_of (fun _ => rfl) fun _ _ ⟨h, hc, pair, free, rows⟩ => tensorOp_pair_refused hc (by simp) pair free rows⟩
  case tdotSp => exact tdotSp_eq (tensorOp_no_chunk (op := sparseDot d k sa sb mk) hc)

/-- Settles O11. -/
theorem tensorOperations : Obligations.TensorOperations := ⟨tensorOperationsHold, tensorFaultsHold⟩

/-! ### Roundings -/

/-- Settles O7. -/
theorem roundingOperations : Obligations.RoundingOperations := by
  intro k vd sk t td fo draw word res put
  refine ⟨fun h => ?defined, fun h s => ?drawn, fun h s => ?code, performs_of fun _ => rfl, performs_of fun _ => rfl⟩
  case defined =>
    have hcode : (decide (fo.val ≤ 6) && (0 : Fin 16) == 0) = true := by simp [h]
    exact ⟨performsIf_of (fun _ => encoded_true hcode _) fun _ _ _ => rfl, performsIf_of (fun _ => encoded_true hcode _) fun _ _ _ => rfl,
      performsIf_of (fun _ => encoded_true (decide_eq_true h) _) fun _ _ _ => rfl⟩
  case drawn =>
    have undefined : (decide (fo.val ≤ 6) && draw == 0) = false := by
      rcases h with h | h
      · simp [h]
      · simp [h]
    exact ⟨encoded_false undefined _, encoded_false undefined _⟩
  case code => exact encoded_false (decide_eq_false (by omega)) _

/-! ### The output stage -/

theorem storeOp_ok {slot : Nat} {k : Ctx} {bad : Refuse} {d : Dev} {cells : List (Nat × Byte)}
    (room : (d.core k.region k.core).storeQ.length < 16) (legal : bad = none) : storeOp slot k bad d cells = .ok (d.queueStore k cells) := by
  rw [storeOp, if_neg (by simpa [Core.queueFull] using room), guardOp_pass legal]

theorem storeOp_refused {slot : Nat} {k : Ctx} {bad : Refuse} {d : Dev} {cells : List (Nat × Byte)} {st : Status}
    (room : (d.core k.region k.core).storeQ.length < 16) (refused : bad = some (st, noPost)) : storeOp slot k bad d cells = .faulty st := by
  rw [storeOp, if_neg (by simpa [Core.queueFull] using room), guardOp_refuse refused]

theorem storeOp_full {slot : Nat} {k : Ctx} {bad : Refuse} {d : Dev} {cells : List (Nat × Byte)}
    (full : 16 ≤ (d.core k.region k.core).storeQ.length) : storeOp slot k bad d cells = .hold { why := .storeQueue, kind := 2, slot := slot } :=
  if_pos (by simpa [Core.queueFull] using full)

section
variable {d : Dev} {k : Ctx} {w : Nat} {sd va sa : Fin 64} {mk : Fin 16} {a : Nat} {seg : List Byte}
  (ha : a = ((d.ctx k).getS sa).toNat) (hseg : seg = cowSegment w ((d.ctx k).getM mk) ((d.ctx k).getV va))
include ha hseg

theorem tcow_ok (room : (d.core k.region k.core).storeQ.length < 16) (aligned : a % 8 = 0) (inside : inStore a = true)
    (one : inOneStore a seg.length = true) (port : (d.core k.region k.core).fixedPipe = true → regionOf a = k.region.val) :
    d.tcow k w sd va sa mk = .ok ((d.queueStore k (cellsAt a seg)).modCtx k fun c => c.later 2 4 (.s sd (BitVec.ofNat 64 seg.length))) := by
  subst ha hseg
  rw [Dev.tcow]
  rw [storeOp_ok room]
  · rfl
  · refine firstRefusal_cons_eq_none (refuseIf_eq_none ?_) (firstRefusal_cons_eq_none (refuseIf_eq_none ?_) rfl)
    · simp [aligned, inside, one]
    · simpa using port

omit hseg in
theorem tcow_misaligned (room : (d.core k.region k.core).storeQ.length < 16) (misaligned : a % 8 ≠ 0) :
    d.tcow k w sd va sa mk = .faulty 0x4008 := by
  subst ha
  rw [Dev.tcow]
  rw [storeOp_refused room (st := 0x4008)]
  · rfl
  · rw [bne_iff_ne.mpr misaligned]
    rfl

omit ha hseg in
theorem tcow_full (full : 16 ≤ (d.core k.region k.core).storeQ.length) :
    d.tcow k w sd va sa mk = .hold { why := .storeQueue, kind := 2, slot := 2 } := by
  rw [Dev.tcow, storeOp_full full]
  rfl

end

/-- An operation that queues a segment of elements of `w` bits completes, aborts or holds as TCOW does. -/
theorem tcow_holds {i : Instr} {k : Ctx} {sd va sa : Fin 64} {mk : Fin 16} {w : Nat}
    (run : ∀ s, exec i s = tensorSlot k (fun d => d.tcow k w sd va sa mk) s) :
    PerformsIf i 2 k
      (fun d =>
        let a := ((d.ctx k).getS sa).toNat
        (d.core k.region k.core).storeQ.length < 16 ∧ a % 8 = 0 ∧ inStore a = true ∧
        inOneStore a (cowSegment w ((d.ctx k).getM mk) ((d.ctx k).getV va)).length = true ∧
        ((d.core k.region k.core).fixedPipe = true → regionOf a = k.region.val))
      (fun _ d =>
        let seg := cowSegment w ((d.ctx k).getM mk) ((d.ctx k).getV va)
        (d.queueStore k (cellsAt ((d.ctx k).getS sa).toNat seg)).modCtx k fun c => c.later 2 4 (.s sd (BitVec.ofNat 64 seg.length))) ∧
    AbortsIf i 2 k (fun d => (d.core k.region k.core).storeQ.length < 16 ∧ ((d.ctx k).getS sa).toNat % 8 ≠ 0) 0x4008 ∧
    HoldsIf i 2 k (fun d => 16 ≤ (d.core k.region k.core).storeQ.length) { why := .storeQueue, kind := 2, slot := 2 } :=
  ⟨performsIf_of run fun _ _ ⟨room, aligned, inside, one, port⟩ => tcow_ok rfl rfl room aligned inside one port,
    abortsIf_of run fun _ _ ⟨room, misaligned⟩ => tcow_misaligned rfl room misaligned, holdsIf_of run fun _ _ full => tcow_full full⟩

/-- Settles O9. -/
theorem outputStageOperations : Obligations.OutputStageOperations := by
  intro k sd vd va sa sb kk md mk ty esz mc
  refine ⟨performs_of fun _ => rfl, performs_of fun _ => rfl, performs_of fun _ => rfl, fun i w h => ?tcow,
    fun h s => encoded_false (decide_eq_false (by omega)) _, fun h1 h2 h3 => ?tprune, fun h s => ?undefined⟩
  case tcow =>
    obtain ⟨rfl, hesz, rfl⟩ | ⟨rfl, rfl⟩ | ⟨rfl, rfl⟩ := h
    · exact tcow_holds fun _ => encoded_true (decide_eq_true hesz) _
    · exact tcow_holds fun _ => rfl
    · exact tcow_holds fun _ => rfl
  case tprune =>
    have defined : (decide (mc.val ≤ 4) && decide (1 ≤ kk.val) && decide (kk.val < 4 * 2 ^ mc.val)) = true := by simp [h1, h2, h3]
    exact ⟨performs_encoded defined fun _ => rfl, performs_encoded defined fun _ => rfl, performs_encoded defined fun _ => rfl,
      performs_encoded defined fun _ => rfl⟩
  case undefined =>
    have undefined : (decide (mc.val ≤ 4) && decide (1 ≤ kk.val) && decide (kk.val < 4 * 2 ^ mc.val)) = false := by
      simp only [Bool.and_eq_false_iff, decide_eq_false_iff_not]
      omega
    exact ⟨encoded_false undefined _, encoded_false undefined _, encoded_false undefined _, encoded_false undefined _⟩

/-! ### Plait operations -/

section
variable {d0 d : Dev} {k : Ctx} {all : Bool} {td : Fin 32}

theorem plait_ok (room : (d.ctx k).plaits.length < 8) : ∃ e, Dev.plait d0 d k all td = .ok e := by
  rw [Dev.plait]
  exact ⟨_, if_neg (by omega)⟩

theorem plait_hold {o : PlaitOp} (full : 8 ≤ (d.ctx k).plaits.length) (oldest : (d.ctx k).plaits.head? = some o) :
    Dev.plait d0 d k all td = .hold { why := .plaitRoom o.seq, kind := 3, slot := 2 } := by
  rw [Dev.plait]
  dsimp only
  rw [if_pos full, oldest]
  rfl

end

section
variable {d : Dev} {k : Ctx} {t : Task} {sender : Nat} {o : PlaitOp} {kind : Nat} {x : PlaitRec}
  (ht : d.task? (d.ctx k).task = some t) (hm : (d.ctx k).plaitMeets t sender = some (o, kind))
  (hx : (t.plaits.find? fun x => !x.received && x.sender == sender && x.dest == (d.ctx k).rank) = some x)
include ht hm hx

theorem plaitReceive_mismatch (h : x.seq ≠ o.seq ∨ x.kind ≠ kind) :
    d.plaitReceive k sender x.seq = (d.setBit (aCo k.region k.core + rCoPlSticky) 1).abortTask t.id 0x1012 (some (d.faultAt k)) := by
  simp only [Dev.plaitReceive, ht, hm, hx]
  rw [if_neg (by simp), if_pos (by simpa using h)]

theorem plaitReceive_step (hseq : x.seq = o.seq) (hkind : x.kind = kind) (h : x.step ≠ o.step) :
    d.plaitReceive k sender x.seq = (d.setBit (aCo k.region k.core + rCoPlSticky) 0).abortTask t.id 0x1011 (some (d.faultAt k)) := by
  simp only [Dev.plaitReceive, ht, hm, hx]
  rw [if_neg (by simp), if_neg (by simp [hseq, hkind]), if_pos h]

theorem plaitReceive_match (hseq : x.seq = o.seq) (hkind : x.kind = kind) (h : x.step = o.step) :
    d.plaitReceive k sender x.seq =
      (d.modTask t.id fun t => { t with plaits := t.plaits.map fun y => if y = x then { y with received := true } else y }).plaitSteps k
        t.plaits.length := by
  simp only [Dev.plaitReceive, ht, hm, hx]
  rw [if_neg (by simp), if_neg (by simp [hseq, hkind]), if_neg (by simp [h])]

end

@[simp] theorem PlaitRec.length_header (x : PlaitRec) : x.header.length = 16 := by simp [PlaitRec.header]

/-- The fields of a record stand in its header. -/
theorem PlaitRec.leNat_bytes (x : PlaitRec) (hseq : x.seq < 256 ^ 4) (hkind : x.kind < 256 ^ 1) (hsender : x.sender < 256 ^ 2) :
    leNat (bytesAt x.bytes) 0 8 = x.step.toNat ∧ leNat (bytesAt x.bytes) 8 4 = x.seq ∧ leNat (bytesAt x.bytes) 12 1 = x.kind ∧
      leNat (bytesAt x.bytes) 13 1 = 0 ∧ leNat (bytesAt x.bytes) 14 2 = x.sender := by
  have hstep : x.step.toNat < 256 ^ 8 := x.step.isLt
  have head {a n : Nat} (h : a + n ≤ 16) : leNat (bytesAt x.bytes) a n = leNat (bytesAt x.header) a n := leNat_append_left (by simpa using h)
  rw [head (by decide), head (by decide), head (by decide), head (by decide), head (by decide)]
  refine ⟨?step, ?seq, ?kind, ?reserved, ?sender⟩
  case step => simpa [PlaitRec.header] using leNat_field (xs := []) rfl hstep
  case seq => simpa [PlaitRec.header] using leNat_field (xs := leBytes x.step.toNat 8) (by simp) hseq
  case kind => simpa [PlaitRec.header] using leNat_field (xs := leBytes x.step.toNat 8 ++ leBytes x.seq 4) (by simp) hkind
  case reserved =>
    simpa [PlaitRec.header] using leNat_field (xs := leBytes x.step.toNat 8 ++ leBytes x.seq 4 ++ leBytes x.kind 1) (v := 0) (n := 1) (by simp) (by simp)
  case sender =>
    simpa [PlaitRec.header] using
      leNat_field (xs := leBytes x.step.toNat 8 ++ leBytes x.seq 4 ++ leBytes x.kind 1 ++ leBytes 0 1) (ys := []) (by simp) hsender

/-- Settles O8. -/
theorem plaitOperations : Obligations.PlaitOperations := by
  refine fun k td sender seq => ⟨fun all i hi => ?issue, fun d t o x kind ht hm hx hs => ?record⟩
  case issue =>
    have run (s : State) : exec i s = issueOp 2 k (fun d0 d => Dev.plait d0 d k all td) s := by
      subst hi
      cases all <;> rfl
    refine ⟨performsIf_of run fun d0 d room => ?_, fun o => holdsIf_of run fun d0 d ⟨full, oldest⟩ => plait_hold full oldest⟩
    exact if_neg (by omega)
  case record =>
    refine ⟨fun h1 h2 h3 => takes_of (fun d => d.plaitReceive k sender seq.toNat) (fun _ => rfl) ?_, fun h => takes_of (fun d => d.plaitReceive k sender seq.toNat) (fun _ => rfl) ?_, fun h1 h2 h3 => takes_of (fun d => d.plaitReceive k sender seq.toNat) (fun _ => rfl) ?_,
      fun h1 h2 h3 => ?_⟩
    · rw [← hs]; exact plaitReceive_match ht hm hx h1 h2 h3
    · rw [← hs]; exact plaitReceive_mismatch ht hm hx h
    · rw [← hs]; exact plaitReceive_step ht hm hx h1 h2 h3
    · obtain ⟨f1, f2, f3, f4, f5⟩ := x.leNat_bytes h1 h2 h3
      exact ⟨f1, f2, f3, f4, f5, by simp [PlaitRec.bytes]⟩

end Sys2Proof.Machine
end

section
/-! PROOF. The sparse operations of slot T. -/

namespace Sys2Proof.Machine

/-! ### Ply operations and TMODE -/

/-- The destination of a Ply operation keeps clear of a source, or is the source of an operation on two bitmaps. -/
theorem clash_eq_false {dst n a m : Nat} {two : Bool} (h : ringOverlap stageSize dst n a m = false ∨ (two = true ∧ a = dst)) :
    (ringOverlap stageSize dst n a m && !(two && a == dst)) = false := by
  rcases h with h | ⟨h, rfl⟩
  · simp [h]
  · simp [h]

theorem ply_length {d : Dev} {k : Ctx} {sd sa sb : Fin 64} {two : Bool} {lim : Nat} {f : (Nat → Byte) → Nat → Nat → Nat → PlyOut} {bits : Nat}
    (hbits : bits = field ((d.ctx k).getS sb).toNat 20 0) (h : bits % 64 ≠ 0 ∨ bits < 64 ∨ lim < bits) :
    d.ply k sd sa sb two lim f = .faulty 0x4007 := by
  subst hbits
  exact if_pos (by simpa [or_assoc] using h)

theorem ply_ok {d : Dev} {k : Ctx} {sd sa sb : Fin 64} {two : Bool} {lim : Nat} {f : (Nat → Byte) → Nat → Nat → Nat → PlyOut}
    {bits s1 s2 dst : Nat} {out : PlyOut} (hbits : bits = field ((d.ctx k).getS sb).toNat 20 0) (hs1 : s1 = stAddr64 ((d.ctx k).getS sa).toNat 0)
    (hs2 : s2 = stAddr ((d.ctx k).getS sa).toNat 18) (hdst : dst = stAddr64 ((d.ctx k).getS sa).toNat 36)
    (hout : out = f (d.core k.region k.core).stageByte s1 s2 bits) (units : bits % 64 = 0) (least : 64 ≤ bits) (most : bits ≤ lim)
    (rows1 : rowsReady d k (stageRows s1 (bits / 8))) (rows2 : two = true → rowsReady d k (stageRows s2 (bits / 8)))
    (apart1 : ringOverlap stageSize dst out.bytes.length s1 (bits / 8) = false ∨ (two = true ∧ s1 = dst))
    (apart2 : two = true → ringOverlap stageSize dst out.bytes.length s2 (bits / 8) = false ∨ (two = true ∧ s2 = dst))
    (unpinned : (d.core k.region k.core).anyPinned (stageRows dst out.bytes.length) = false) :
    d.ply k sd sa sb two lim f = .ok ((((d.modCore k.region k.core fun co => co.putStage dst out.bytes).modCtx k fun c =>
      c.later 2 1 (.s sd (BitVec.ofNat 64 out.sd))).inc64 (aCo k.region k.core + rCoSpPlyBits) bits).addHold k
        { why := .metered, kind := 1, slot := 2 }) := by
  subst hbits hs1 hs2 hdst hout
  have rows : ∀ x ∈ stageRows (stAddr64 ((d.ctx k).getS sa).toNat 0) (field ((d.ctx k).getS sb).toNat 20 0 / 8) ++
      (if two then stageRows (stAddr ((d.ctx k).getS sa).toNat 18) (field ((d.ctx k).getS sb).toNat 20 0 / 8) else []),
      x ∉ (d.ctx k).rowsAwaited := by
    intro x hx
    cases two with
    | false => exact rows1 x (by simpa using hx)
    | true =>
      rcases List.mem_append.mp hx with hx | hx
      · exact rows1 x hx
      · exact rows2 rfl x hx
  refine (if_neg (by simp; omega)).trans ((stageHold_ready rows).trans ((if_neg ?_).trans (if_neg (by simpa using unpinned))))
  dsimp only
  rw [clash_eq_false apart1]
  cases two with
  | false => simp
  | true => rw [clash_eq_false (apart2 rfl)]; simp

theorem tmode_ok {d : Dev} {k : Ctx} {sd sa : Fin 64} {a pop : Nat} (ha : a = stAddr ((d.ctx k).getS sa).toNat 0)
    (hpop : pop = leNat (d.core k.region k.core).stageByte a 2) (rows : rowsReady d k (stageRows a 16))
    (format : ((d.core k.region k.core).stageByte (a + 2)).toNat ≤ 12) (reserved : (d.core k.region k.core).stageByte (a + 3) = 0)
    (most : pop ≤ 4096) :
    d.tmode k sd sa = .ok (if pop < 2048
      then (d.inc64 (aCo k.region k.core + rCoSpTilesSparse) 1).modCtx k fun c => c.later 2 4 (.s sd 1)
      else (d.inc64 (aCo k.region k.core + rCoSpTilesDense) 1).modCtx k fun c => c.later 2 4 (.s sd 0)) := by
  subst ha hpop
  refine (stageHold_ready rows).trans ((if_neg ?_).trans ?_)
  · simp only [reserved, bne_self_eq_false, Bool.or_false, Bool.or_eq_true, decide_eq_true_eq]
    omega
  · by_cases h : leNat (d.core k.region k.core).stageByte (stAddr ((d.ctx k).getS sa).toNat 0) 2 < 2048
    · simp [h]
    · simp [h]

/-! ### Splice operations and TALLY -/

/-- A strict task whose run met no error is not refused for error `e`. -/
theorem not_strict {strict : Bool} {err e : Nat} (h : strict = true → err = 0) (he : e ≠ 0) : (strict && err == e) = false := by
  cases strict with
  | false => rfl
  | true => simp [h rfl, he.symm]

/-- A strict task none of whose entries was dropped is not refused. -/
theorem strict_count {strict : Bool} {m n : Nat} (h : strict = true → m = n) : (strict && m != n) = false := by
  cases strict with
  | false => rfl
  | true => simp [h rfl]

theorem firstRefusal_refuseIf {b : Bool} {st : Status} {l : List Refuse} (h : b = true) : firstRefusal (refuseIf b st :: l) = some (st, noPost) := by
  rw [h, refuseIf_true, firstRefusal_some]

section
variable {d : Dev} {k : Ctx} {isect : Bool} {sd sa : Fin 64} {a : Nat}

/-- A source that the Splice descriptor at `a` names at offset `o`, whose last-list flag is bit `l`. -/
def spliceSource (d : Dev) (k : Ctx) (a o l : Nat) : SpliceSrc :=
  { addr := leNat (d.loadByte k) (a + o) 8, count := leNat (d.loadByte k) (a + o + 8) 4, base := leNat (d.loadByte k) (a + o + 12) 4,
    isLast := bit (d.loadByte k (a + 60)).toNat l }

/-- A Splice operation whose descriptor and accesses pass writes what its run gives. -/
theorem splx_ok {r : SpliceRun} {out : Nat} {bs tail : List Byte} (ha : field ((d.ctx k).getS sa).toNat 47 0 = a)
    (hr : spliceLoop (d.loadByte k) isect (spliceSource d k a 0 1) (spliceSource d k a 16 2) (leNat (d.loadByte k) (a + 44) 4)
      (leNat (d.loadByte k) (a + 48) 4) (leNat (d.loadByte k) (a + 40) 4)
      ((spliceSource d k a 0 1).count + (spliceSource d k a 16 2).count + 2)
      { i := leNat (d.loadByte k) (a + 52) 4, j := leNat (d.loadByte k) (a + 56) 4 } = r)
    (hout : leNat (d.loadByte k) (a + 32) 8 = out) (hbs : spliceBytes (bit (d.loadByte k (a + 60)).toNat 0) r.out = bs)
    (htail : leBytes r.i 4 ++ leBytes r.j 4 ++ [d.loadByte k (a + 60), BitVec.ofNat 8 (r.complete.toNat + 2 * r.outFull.toNat)] = tail)
    (own : ownRange k 64 a 64 = true) (read : d.storeRead a 64 false = none) (ok : spliceOk k (d.loadByte k) a = true)
    (readA : d.storeRead (spliceSource d k a 0 1).addr (4 * (spliceSource d k a 0 1).count) false = none)
    (readB : d.storeRead (spliceSource d k a 16 2).addr (4 * (spliceSource d k a 16 2).count) false = none)
    (strict : d.strict (d.ctx k).task = true → r.err.first = 0) (write1 : d.storeWrite (d.asWriter k) out bs.length false = none)
    (write2 : d.storeWrite (d.asWriter k) (a + 52) 10 false = none) :
    d.splx k isect sd sa = .ok (((((d.windowWrite (d.asWriter k) out bs).windowWrite (d.asWriter k) (a + 52) tail).countDrops k r.err.range
      r.err.order).modCtx k fun c => c.later 2 1 (.s sd (BitVec.ofNat 64 r.n))).addHold k { why := .metered, kind := 1, slot := 2 }) := by
  subst ha hout hbs htail
  simp only [spliceSource] at hr readA readB
  rw [Dev.splx]
  dsimp only
  rw [hr, guardOp_pass, guardOp_pass]
  · rfl
  · exact firstRefusal_cons_eq_none readA (firstRefusal_cons_eq_none readB (firstRefusal_cons_eq_none
      (refuseIf_eq_none (not_strict strict Nat.one_ne_zero)) (firstRefusal_cons_eq_none (refuseIf_eq_none (not_strict strict (by simp)))
        (firstRefusal_cons_eq_none write1 (firstRefusal_cons_eq_none write2 rfl)))))
  · exact firstRefusal_cons_eq_none (refuseIf_eq_none (by simpa using own)) (firstRefusal_cons_eq_none read
      (firstRefusal_cons_eq_none (refuseIf_eq_none (by simpa using ok)) rfl))

end

/-- Settles O10. -/
theorem sparseOperations : Obligations.SparseOperations := by
  intro k sd sa sb
  refine ⟨fun i two lim f h => ?ply, ?tmode, fun i isect h => ?splx, ?tally⟩
  case ply =>
    intro bits src1 src2 dst out apart
    have run (s : State) : exec i s = tensorSlot k (fun d => d.ply k sd sa sb two lim f) s := by
      obtain ⟨rfl, rfl, rfl, rfl⟩ | ⟨rfl, rfl, rfl, rfl⟩ | ⟨rfl, rfl, rfl, rfl⟩ := h <;> rfl
    exact ⟨performsIf_of run fun _ d ⟨units, least, most, rows1, rows2, apart1, apart2, unpinned⟩ =>
        ply_ok rfl rfl rfl rfl rfl units least most rows1 rows2 apart1 apart2 unpinned,
      abortsIf_of run fun _ d h => ply_length rfl h⟩
  case tmode => exact performsIf_of (fun _ => rfl) fun _ d ⟨rows, format, reserved, most⟩ => tmode_ok rfl rfl rows format reserved most
  case splx =>
    intro at_ src run bytes out tail
    have hrun (s : State) : exec i s = tensorSlot k (fun d => d.splx k isect sd sa) s := by
      obtain ⟨rfl, rfl⟩ | ⟨rfl, rfl⟩ := h <;> rfl
    refine ⟨performsIf_of hrun fun _ d ⟨own, read, ok, readA, readB, strict, write1, write2⟩ => ?_, abortsIf_of hrun fun _ d own => ?_⟩
    · exact splx_ok (r := run d) rfl rfl rfl rfl rfl own read ok readA readB strict write1 write2
    · exact guardOp_refuse (firstRefusal_refuseIf (by simpa using own))
  case tally =>
    intro at_ rd n cs top
    refine ⟨performsIf_of (fun _ => rfl) fun _ d ⟨own, read, ok, readList, strict, write⟩ => ?_, abortsIf_of (fun _ => rfl) fun _ d own => ?_⟩
    · refine (guardOp_pass ?_).trans (guardOp_pass ?_)
      · exact firstRefusal_cons_eq_none (refuseIf_eq_none (by simpa using own)) (firstRefusal_cons_eq_none read
          (firstRefusal_cons_eq_none (refuseIf_eq_none (by simpa using ok)) rfl))
      · exact firstRefusal_cons_eq_none readList (firstRefusal_cons_eq_none (refuseIf_eq_none (strict_count strict))
          (firstRefusal_cons_eq_none write rfl))
    · exact guardOp_refuse (firstRefusal_refuseIf (by simpa using own))

end Sys2Proof.Machine
end

section
/-! PROOF. The operations of slot M on data space: loads and stores, the store queues, scattered additions, staging and row transfers. -/

namespace Sys2Proof.Machine

/-! ### Accesses that the statements let pass -/

theorem coreAddr_of_reaches {d : Dev} {k : Ctx} {a n al : Nat} (h : coreReaches d k a n al) : d.coreAddr k a n al = none := by
  obtain ⟨aligned, inside, one, port⟩ := h
  exact coreAddr_none aligned inside one port

theorem storeRead_of_readable {d : Dev} {a n : Nat} {narrow : Bool} (h : readable d a n narrow) : d.storeRead a n narrow = none := by
  obtain ⟨on, unfenced, unmarked⟩ := h
  exact storeRead_none on unfenced unmarked

/-- A run of bytes that replaces no uncorrectable word in part. -/
theorem runRefusal_none {d : Dev} {a n : Nat}
    (h : ∀ p ∈ d.marks, p.2 = 2 → 4 * p.1 < a + n → a < 4 * p.1 + 4 → a ≤ 4 * p.1 ∧ 4 * p.1 + 4 ≤ a + n) : d.runRefusal a n = none := by
  have none_in_part : (d.marks.filter fun p => p.2 == 2 && decide (a / 4 ≤ p.1) && decide (4 * p.1 < a + n) &&
      (decide (4 * p.1 < a) || decide (a + n < 4 * p.1 + 4))) = [] := by
    rw [List.filter_eq_nil_iff]
    intro p hp hbad
    simp only [Bool.and_eq_true, Bool.or_eq_true, decide_eq_true_eq, beq_iff_eq] at hbad
    obtain ⟨⟨⟨uncorrectable, first⟩, last⟩, inPart⟩ := hbad
    have := h p hp uncorrectable last (by omega)
    omega
  rw [Dev.runRefusal, none_in_part]

theorem storeWrite_of_writable {d : Dev} {w : Writer} {a n : Nat} {narrow : Bool} (h : writable d w a n narrow) :
    d.storeWrite w a n narrow = none := by
  obtain ⟨on, unfenced, admitted, whole⟩ := h
  exact storeWrite_none on unfenced admitted (runRefusal_none whole)

theorem loadCheck_none {d : Dev} {k : Ctx} {a n al : Nat} (reach : coreReaches d k a n al) (read : readable d a n true) :
    d.loadCheck k a n al = none :=
  firstRefusal_cons_eq_none (coreAddr_of_reaches reach) (firstRefusal_cons_eq_none (storeRead_of_readable read) rfl)

@[simp] theorem Context.address_one (c : Context) (sa : Fin 64) (imm : W64) : c.address sa imm 1 = (c.getS sa + imm).toNat := by
  rw [Context.address, show BitVec.ofNat 64 1 = 1#64 from rfl, BitVec.mul_one]

theorem mem_maskLanes {m : W64} {l : Nat} : l ∈ maskLanes m ↔ l < 64 ∧ m.getLsbD l = true := by
  simp [maskLanes, upto]

/-- The checks of the active lanes, which all pass. -/
theorem firstRefusal_lanes {m : W64} {f : Nat → Refuse} (h : ∀ l, l < 64 ∧ m.getLsbD l = true → f l = none) :
    firstRefusal ((maskLanes m).map f) = none :=
  firstRefusal_all_none _ fun r hr => by
    obtain ⟨l, hl, rfl⟩ := List.mem_map.mp hr
    exact h l (mem_maskLanes.mp hl)

/-! ### Loads -/

theorem load_ok {d : Dev} {k : Ctx} {bad : Refuse} {a extra : Nat} {late : Bool} {x : Dest} (h : bad = none) :
    d.load k bad a extra late x = .ok (d.modCtx k fun c => c.later 3 (loadLat k.region a + extra) x (if late then 2 else 0)) :=
  guardOp_pass h

theorem loadScalar_ok {d : Dev} {k : Ctx} {n a : Nat} {sd sa : Fin 64} {imm : BitVec 12} {late : Bool}
    (ha : ((d.ctx k).getS sa + imm.signExtend 64).toNat = a) (reach : coreReaches d k a n n) (read : readable d a n true) :
    d.loadScalar k n sd sa imm late =
      .ok (d.modCtx k fun c => c.later 3 (loadLat k.region a) (.s sd (BitVec.ofNat 64 (leNat (d.loadByte k) a n))) (if late then 2 else 0)) := by
  subst ha
  rw [Dev.loadScalar, Context.address_one]
  exact load_ok (loadCheck_none reach read)

theorem loadVector_ok {d : Dev} {k : Ctx} {a : Nat} {vd sa : Fin 64} {mk : Fin 16} {imm : BitVec 8} {late : Bool}
    (ha : ((d.ctx k).getS sa + imm.signExtend 64 * 256).toNat = a) (aligned : a % 64 = 0)
    (lanes : ∀ l, l < 64 ∧ ((d.ctx k).getM mk).getLsbD l = true → coreReaches d k (a + 4 * l) 4 4 ∧ readable d (a + 4 * l) 4 true) :
    d.loadVector k vd sa mk imm late = .ok (d.modCtx k fun c => c.later 3 (loadLat k.region a)
      (.v vd ((d.ctx k).getM mk) ((upto 64).map fun l => BitVec.ofNat 32 (leNat (d.loadByte k) (a + 4 * l) 4))) (if late then 2 else 0)) := by
  subst ha
  exact load_ok (firstRefusal_cons_eq_none (refuseIf_eq_none (bne_eq_false_iff_eq.mpr aligned))
    (firstRefusal_lanes fun l hl => loadCheck_none (lanes l hl).1 (lanes l hl).2))

theorem gather_ok {d : Dev} {k : Ctx} {vd va sb : Fin 64} {mk : Fin 16} {g : Nat → Nat}
    (hg : (fun l => ((d.ctx k).getS sb + ((d.ctx k).lane va l).setWidth 64 * 4).toNat) = g)
    (lanes : ∀ l, l < 64 ∧ ((d.ctx k).getM mk).getLsbD l = true → coreReaches d k (g l) 4 4 ∧ readable d (g l) 4 true) :
    d.gather k vd va sb mk = .ok ((d.modCtx k fun c => c.later 3 1
      (.v vd (c.getM mk) ((upto 64).map fun l => BitVec.ofNat 32 (leNat (d.loadByte k) (g l) 4)))).addHold k
        { why := .metered, kind := 1, slot := 3 }) := by
  subst hg
  exact guardOp_pass (firstRefusal_lanes fun l hl => loadCheck_none (lanes l hl).1 (lanes l hl).2)

theorem loadTotal_ok {d : Dev} {k : Ctx} {a : Nat} {t : Fin 32} {sa : Fin 64} {imm : BitVec 12} {late : Bool}
    (ha : ((d.ctx k).getS sa + imm.signExtend 64 * 128).toNat = a) (reach : coreReaches d k a 128 128) (read : readable d a 128 true) :
    d.loadTotal k t sa imm late =
      .ok (d.modCtx k fun c => c.later 3 (loadLat k.region a + 1) (.t t (LongTotal.ofRecord (d.loadByte k) a)) (if late then 2 else 0)) := by
  subst ha
  exact load_ok (loadCheck_none reach read)

theorem loadOperationsHold : LoadOperationsHold := by
  intro k sd vd va sa sb t mk imm imm8 late wait A V T G active
  refine ⟨performs_of fun _ => rfl, ?_, ?_, ?_, ?_, ?_⟩
  · exact performsIf_of (fun _ => rfl) fun _ _ ⟨reach, read⟩ => loadScalar_ok rfl reach read
  · exact performsIf_of (fun _ => rfl) fun _ _ ⟨reach, read⟩ => loadScalar_ok rfl reach read
  · exact performsIf_of (fun _ => rfl) fun _ _ ⟨aligned, lanes⟩ => loadVector_ok rfl aligned lanes
  · exact performsIf_of (fun _ => rfl) fun _ _ lanes => gather_ok rfl lanes
  · exact performsIf_of (fun _ => rfl) fun _ _ ⟨reach, read⟩ => loadTotal_ok rfl reach read

theorem load_refused {d : Dev} {k : Ctx} {a n al extra : Nat} {late : Bool} {x : Dest} {st : Status}
    (h : d.loadCheck k a n al = some (st, noPost)) : d.load k (d.loadCheck k a n al) a extra late x = .faulty st :=
  guardOp_refuse h

theorem loadCheck_misaligned {d : Dev} {k : Ctx} {a n al : Nat} (h : a % al ≠ 0) : d.loadCheck k a n al = some (0x5001, noPost) := by
  rw [Dev.loadCheck, coreAddr_misaligned h, firstRefusal_some]

theorem loadCheck_outside {d : Dev} {k : Ctx} {a n al : Nat} (h : a % al = 0) (h' : inStore a = false) :
    d.loadCheck k a n al = some (0x5002, noPost) := by
  rw [Dev.loadCheck, coreAddr_outside h h', firstRefusal_some]

theorem loadCheck_off {d : Dev} {k : Ctx} {a n al : Nat} (reach : coreReaches d k a n al) (off : d.anyOff a n = true) :
    d.loadCheck k a n al = some (0x5003, noPost) := by
  rw [Dev.loadCheck, coreAddr_of_reaches reach, firstRefusal_none, storeRead_off off, firstRefusal_some]

/-- A load by its contract address aborts by the check that fails. -/
theorem load_aborts {i : Instr} {k : Ctx} {n u extra : Nat} {sa : Fin 64} {imm : BitVec 12} {late : Bool} {x : Dev → Nat → Dest}
    (run : ∀ s, exec i s = memorySlot k (fun d =>
      let a := (d.ctx k).address sa (imm.signExtend 64) u
      d.load k (d.loadCheck k a n n) a extra late (x d a)) s) :
    let A (d : Dev) : Nat := ((d.ctx k).getS sa + imm.signExtend 64 * BitVec.ofNat 64 u).toNat
    AbortsIf i 3 k (fun d => A d % n ≠ 0) 0x5001 ∧
    AbortsIf i 3 k (fun d => A d % n = 0 ∧ inStore (A d) = false) 0x5002 ∧
    AbortsIf i 3 k (fun d => coreReaches d k (A d) n n ∧ d.anyOff (A d) n = true) 0x5003 :=
  ⟨abortsIf_of run fun _ _ h => load_refused (loadCheck_misaligned h), abortsIf_of run fun _ _ ⟨h, h'⟩ => load_refused (loadCheck_outside h h'),
    abortsIf_of run fun _ _ ⟨reach, off⟩ => load_refused (loadCheck_off reach off)⟩

theorem loadFaultsHold : LoadFaultsHold := by
  intro k sd sa t imm late i n u h
  obtain ⟨rfl, rfl, rfl⟩ | ⟨rfl, rfl, rfl⟩ | ⟨rfl, rfl, rfl⟩ := h
  · exact load_aborts (x := fun d a => .s sd (BitVec.ofNat 64 (leNat (d.loadByte k) a 4))) fun _ => rfl
  · exact load_aborts (x := fun d a => .s sd (BitVec.ofNat 64 (leNat (d.loadByte k) a 8))) fun _ => rfl
  · exact load_aborts (x := fun d a => .t t (LongTotal.ofRecord (d.loadByte k) a)) fun _ => rfl

/-- Settles O20. -/
theorem loadOperations : Obligations.LoadOperations := ⟨loadOperationsHold, loadFaultsHold⟩

/-! ### Stores -/

/-- Settles O12: every store is `storeOp` of its cells, behind the checks of its address. -/
theorem storeOperations : Obligations.StoreOperations := by
  intro k ss vs sa t mk imm imm8 room A V T
  have stScalar {n : Nat} {d : Dev} : d.storeScalar k n ss sa imm = storeOp 3 k (d.coreAddr k (A d) n n) d
      (cellsAt (A d) (leBytes ((d.ctx k).getS ss).toNat n)) := by
    rw [Dev.storeScalar, Context.address_one]
  refine ⟨performsIf_of (fun _ => rfl) fun _ d ⟨hroom, reach⟩ => ?_, performsIf_of (fun _ => rfl) fun _ d ⟨hroom, reach⟩ => ?_,
    performsIf_of (fun _ => rfl) fun _ d ⟨hroom, aligned, lanes⟩ => ?_, performsIf_of (fun _ => rfl) fun _ d ⟨hroom, reach⟩ => ?_, ?full,
    abortsIf_of (fun _ => rfl) fun _ d ⟨hroom, bad⟩ => ?_, abortsIf_of (fun _ => rfl) fun _ d ⟨hroom, bad⟩ => ?_,
    abortsIf_of (fun _ => rfl) fun _ d ⟨hroom, bad⟩ => ?_, abortsIf_of (fun _ => rfl) fun _ d ⟨hroom, bad⟩ => ?_⟩
  · exact stScalar.trans (storeOp_ok hroom (coreAddr_of_reaches reach))
  · exact stScalar.trans (storeOp_ok hroom (coreAddr_of_reaches reach))
  · exact storeOp_ok hroom (firstRefusal_cons_eq_none (refuseIf_eq_none (bne_eq_false_iff_eq.mpr aligned))
      (firstRefusal_lanes fun l hl => coreAddr_of_reaches (lanes l hl.1 hl.2)))
  · exact storeOp_ok hroom (coreAddr_of_reaches reach)
  case full =>
    rintro i (rfl | rfl | rfl | rfl) <;> exact holdsIf_of (fun _ => rfl) fun _ _ full => storeOp_full full
  · exact stScalar.trans (storeOp_refused hroom (coreAddr_misaligned bad))
  · exact stScalar.trans (storeOp_refused hroom (coreAddr_misaligned bad))
  · exact storeOp_refused hroom (firstRefusal_refuseIf (bne_iff_ne.mpr bad))
  · exact storeOp_refused hroom (coreAddr_misaligned bad)

end Sys2Proof.Machine
end

section
/-! PROOF. Slot M, continued: stores that reach memory, scattered additions, staging and row transfers. -/

namespace Sys2Proof.Machine

/-! ### What writes of bytes and the counts of windows leave unchanged -/

@[simp] theorem Dev.writeCells_cores (d : Dev) (cells : List (Nat × Byte)) : (d.writeCells cells).cores = d.cores := by
  unfold Dev.writeCells
  dsimp only
  split <;> rfl

@[simp] theorem Dev.countWindow_cores (d : Dev) (r : Nat) (w : Option Nat) (n : Nat) : (d.countWindow r w n).cores = d.cores := by
  cases w <;> rfl
@[simp] theorem Dev.countWindow_mem (d : Dev) (r : Nat) (w : Option Nat) (n : Nat) : (d.countWindow r w n).mem = d.mem := by
  cases w <;> rfl
@[simp] theorem Dev.countCells_cores (d : Dev) (w : Option (Nat × Nat)) (n : Nat) : (d.countCells w n).cores = d.cores := by
  cases w <;> simp [Dev.countCells]
@[simp] theorem Dev.countCells_mem (d : Dev) (w : Option (Nat × Nat)) (n : Nat) : (d.countCells w n).mem = d.mem := by
  cases w <;> simp [Dev.countCells]

theorem Dev.core_congr {d e : Dev} (h : e.cores = d.cores) (n k : Nat) : e.core n k = d.core n k := by rw [Dev.core, h, ← Dev.core]
theorem Dev.ctx_congr {d e : Dev} {k : Ctx} (h : (e.core k.region k.core).slots = (d.core k.region k.core).slots) : e.ctx k = d.ctx k := by
  rw [Dev.ctx, Dev.ctx?, h]
  rfl
theorem Dev.byte_congr {d e : Dev} (h : e.mem = d.mem) (a : Nat) : e.byte a = d.byte a := by rw [Dev.byte, h, ← Dev.byte]

/-! ### Stores that reach memory -/

theorem partRefusal_none {d : Dev} {cells : List (Nat × Byte)}
    (h : ∀ p ∈ d.marks, p.2 = 2 → inStore (4 * p.1) = true → (∃ c ∈ cells, c.1 / 4 = p.1) → ∀ i < 4, ∃ c ∈ cells, c.1 = 4 * p.1 + i) :
    d.partRefusal cells = none := by
  have none_in_part : (d.marks.filter fun p => p.2 == 2 && inStore (4 * p.1) && (cells.any fun c => c.1 / 4 == p.1) &&
      !((upto 4).all fun i => cells.any fun c => c.1 == 4 * p.1 + i)) = [] := by
    rw [List.filter_eq_nil_iff]
    intro p hp hbad
    simp only [Bool.and_eq_true, beq_iff_eq, List.any_eq_true, Bool.not_eq_true', List.all_eq_false] at hbad
    obtain ⟨⟨⟨uncorrectable, inside⟩, meets⟩, i, hi, hno⟩ := hbad
    exact hno (h p hp uncorrectable inside meets i (by simpa [upto] using hi))
  rw [Dev.partRefusal, Dev.partWords, none_in_part]
  rfl

theorem cellsCheck_none {d : Dev} {w : Writer} {cells : List (Nat × Byte)} {narrow : Bool}
    (on : ∀ p ∈ cells, d.groupOff p.1 = false ∧ d.sliceFenced p.1 = false) (admitted : (d.hitchCells w cells).1 = true)
    (whole : ∀ p ∈ d.marks, p.2 = 2 → inStore (4 * p.1) = true → (∃ c ∈ cells, c.1 / 4 = p.1) → ∀ i < 4, ∃ c ∈ cells, c.1 = 4 * p.1 + i) :
    d.cellsCheck w cells narrow = none := by
  refine firstRefusal_cons_eq_none (refuseIf_eq_none ?_) (firstRefusal_cons_eq_none (refuseIf_eq_none ?_)
    (firstRefusal_cons_eq_none (if_pos admitted) (firstRefusal_cons_eq_none (partRefusal_none whole) rfl)))
  · simp only [List.any_eq_false]
    exact fun p hp => by simp [(on p hp).1]
  · simp only [Bool.and_eq_false_iff, List.any_eq_false]
    exact .inr fun p hp => by simp [(on p hp).2]

/-- A context without waiting coil operations has none to settle. -/
theorem settleCoils_none {d : Dev} {k : Ctx} (h : (d.ctx k).coilOps = []) : d.settleCoils k = d := by
  rw [Dev.settleCoils, h]
  rfl

/-- Settles O13. -/
theorem storesReachMemory : Obligations.StoresReachMemory := by
  intro region core e q s k hq hcoil on admitted whole
  let d := s.dev.modCore region core fun co => { co with storeQ := co.storeQ.tail }
  let x := (d.writeCells e.cells).countCells (d.hitchCells (.core k e.task) e.cells).2 e.cells.length
  have hcores : x.cores = d.cores := by simp [x]
  have hcore : x.core region core = { s.dev.core region core with storeQ := (s.dev.core region core).storeQ.tail } := by
    rw [Dev.core_congr hcores, Dev.core_modCore_self]
  have hctx : x.ctx k = s.dev.ctx k := Dev.ctx_congr (by rw [show x.core k.region k.core = _ from hcore])
  have performed : s.dev.performStore region core k e = x := by
    rw [Dev.performStore, cellsCheck_none (d := d) on admitted whole]
    exact settleCoils_none (hctx ▸ hcoil)
  have takes : Takes (.storeQueueWrite region core) s.dev x := by
    refine takes_of _ (fun s => (rfl : exec _ s = execStoreQueueWrite _ _ _)) ?_
    rw [hq]
    exact performed
  refine ⟨{ s with dev := x, base := none }, takes s.base s.pending, rfl, ?_, fun a => ?_⟩
  · rw [hcore, hq]
    rfl
  · rw [Dev.byte_congr (d := d.writeCells e.cells) (by simp [x]), Dev.byte_writeCells]
    rfl

/-! ### Scattered additions -/

theorem scatAdd_ok {d : Dev} {k : Ctx} {vs va sb : Fin 64} {mk : Fin 16} {a drops : Nat} {inside : List Nat}
    (ha : ((d.ctx k).getS sb).toNat = a)
    (hinside : ((maskLanes ((d.ctx k).getM mk)).filter fun l => decide (((d.ctx k).lane va l).toNat < leNat (d.loadByte k) (a + 8) 4)) = inside)
    (hdrops : ((maskLanes ((d.ctx k).getM mk)).filter fun l => !decide (((d.ctx k).lane va l).toNat < leNat (d.loadByte k) (a + 8) 4)).length = drops)
    (reach : coreReaches d k a 64 64) (read : readable d a 64 false) (ok : accOk (d.loadByte k) a = true)
    (port : (d.core k.region k.core).fixedPipe = true → regionOf (leNat (d.loadByte k) a 8) = k.region.val)
    (strict : d.strict (d.ctx k).task = true → drops = 0) (write : drops ≠ 0 → writable d (d.asWriter k) (a + 24) 8 false) :
    d.scatAdd k vs va sb mk = .ok ((inside.foldl (fun e l => e.queueAddition
      { owner := some k, task := (d.ctx k).task,
        entry := leNat (d.loadByte k) a 8 + ((d.ctx k).lane va l).toNat * accBytes (d.loadByte k (a + 12)).toNat,
        type := (d.loadByte k (a + 12)).toNat, addend := (d.ctx k).lane vs l, desc := a })
      (if drops = 0 then d.bumpField (a + 24) drops
       else ((d.bumpField (a + 24) drops).inc64 (aCo k.region k.core + rCoSpScatDrops) drops).setBit
         (aCo k.region k.core + rCoSpSticky) 2)).addHold k { why := .scatter, kind := 1, slot := 3 }) := by
  subst ha
  rw [Dev.scatAdd]
  dsimp only
  rw [hinside, hdrops, guardOp_pass, guardOp_pass]
  · refine firstRefusal_cons_eq_none (refuseIf_eq_none (strict_count strict)) (firstRefusal_cons_eq_none ?_ rfl)
    by_cases h : drops = 0
    · rw [if_pos h]
    · rw [if_neg h, storeWrite_of_writable (write h)]
  · exact firstRefusal_cons_eq_none (refuseIf_eq_none (bne_eq_false_iff_eq.mpr reach.1)) (firstRefusal_cons_eq_none (coreAddr_of_reaches reach)
      (firstRefusal_cons_eq_none (storeRead_of_readable read) (firstRefusal_cons_eq_none (refuseIf_eq_none (by simpa using ok))
        (firstRefusal_cons_eq_none (refuseIf_eq_none (by simpa using port)) rfl))))

theorem additionWaits_iff (d : Dev) (x : Addition) : d.additionWaits x = true ↔
    ∃ k, x.owner = some k ∧ ∃ e ∈ (d.core k.region k.core).storeQ, e.slot = k.slot.val ∧
      ∃ c ∈ e.cells, overlap c.1 1 x.entry (accBytes x.type) = true := by
  rw [Dev.additionWaits]
  cases x.owner with
  | none => simp
  | some k => simp

theorem addition_ok {d : Dev} {x : Addition} (read : readable d x.entry (accBytes x.type) true)
    (write : writable d x.writer x.entry (accBytes x.type) true) (count : writable d x.writer (x.desc + 16) 8 false) :
    d.addition x = (d.windowWrite x.writer x.entry (x.result d.byte)).bumpField (x.desc + 16) 1 := by
  rw [Dev.addition, firstRefusal_cons_eq_none (storeRead_of_readable read) (firstRefusal_cons_eq_none (storeWrite_of_writable write)
    (firstRefusal_cons_eq_none (storeWrite_of_writable count) rfl))]

/-- Settles O14. -/
theorem scatteredAdditions : Obligations.ScatteredAdditions := by
  refine fun k vs va sb mk region bank => ⟨?issue, fun d x => rfl, fun d x l hq => ?bank⟩
  case issue =>
    intro A type base n lanes inside drops
    exact performsIf_of (fun _ => rfl) fun _ d ⟨reach, read, ok, port, strict, write⟩ => scatAdd_ok rfl rfl rfl reach read ok port strict write
  case bank =>
    intro waits e
    refine ⟨fun hw => ?_, fun hw read write count => ?_⟩
    · refine takes_of _ (fun s => (rfl : exec _ s = execScatAddition _ _ _)) ?_
      rw [hq]
      exact if_pos ((additionWaits_iff d x).mpr hw)
    · refine takes_of _ (fun s => (rfl : exec _ s = execScatAddition _ _ _)) ?_
      rw [hq]
      exact (if_neg (mt (additionWaits_iff d x).mp hw)).trans (addition_ok (d := e) read write count)

/-! ### Staging and row transfers -/

theorem encoded_fmt {fmt : Fin 16} (h : fmt.val ≠ 14) : (fmt != 14) = true :=
  bne_iff_ne.mpr fun e => h (congrArg Fin.val e)

/-- What a row transfer reads and writes passes its checks. -/
theorem xferChecks_none {d : Dev} {k : Ctx} {x : Xfer}
    (load : x.kind = 0 → readable d x.addr (512 * x.n) false ∧ rowsFree d k (spanRows x.row x.n))
    (copy : x.kind = 3 → readable d x.src (512 * x.n) false ∧ ((d.region (regionOf x.addr)).fixedPipe = true → regionOf x.src = regionOf x.addr))
    (write : x.kind ≠ 0 → writable d (d.asWriter k) x.addr (512 * x.n) false) : x.checks d k = none := by
  rw [Xfer.checks]
  split
  next h0 =>
    obtain ⟨read, free⟩ := load h0
    exact firstRefusal_cons_eq_none (storeRead_of_readable read) (firstRefusal_cons_eq_none (refuseIf_eq_none free) rfl)
  next h3 =>
    obtain ⟨read, port⟩ := copy h3
    exact firstRefusal_cons_eq_none (refuseIf_eq_none (by simpa using port)) (firstRefusal_cons_eq_none (storeRead_of_readable read)
      (firstRefusal_cons_eq_none (storeWrite_of_writable (write (by omega))) rfl))
  next h0 _ => exact storeWrite_of_writable (write h0)

/-- Settles O15. -/
theorem stagingAndRows : Obligations.StagingAndRows := by
  intro k vd vs sa sb mk fmt imm8 n1 ix V A B n rows start
  refine ⟨?sld, ?sst, ?pinned, fun hf => ⟨?stag, ?rowLd⟩, fun s => ⟨refused_of rfl s, refused_of rfl s⟩, ?rowSt, ?fill, ?copy,
    performsIf_of (fun _ => rfl) fun _ _ _ => rfl, fun d x hx load copy write => ?done⟩
  case sld => exact performsIf_of (fun _ => rfl) fun _ d ready => stageHold_ready ready
  case sst => exact performsIf_of (fun _ => rfl) fun _ d free => if_neg (ne_true_of_eq_false free)
  case pinned => exact abortsIf_of (fun _ => rfl) fun _ d pinned => if_pos (eq_true_of_ne_false pinned)
  case stag =>
    exact performsIf_of (fun _ => encoded_true (encoded_fmt hf) _) fun _ d ⟨ready, free⟩ =>
      (stageHold_ready ready).trans (if_neg (ne_true_of_eq_false free))
  case rowLd =>
    exact performsIf_of (fun _ => encoded_true (encoded_fmt hf) _) fun _ d ⟨reach, free⟩ =>
      guardOp_pass (firstRefusal_cons_eq_none (coreAddr_of_reaches reach) (firstRefusal_cons_eq_none (refuseIf_eq_none free) rfl))
  case rowSt =>
    exact performsIf_of (fun _ => rfl) fun _ d ⟨ready, reach⟩ => (stageHold_ready ready).trans (guardOp_pass (coreAddr_of_reaches reach))
  case fill => exact performsIf_of (fun _ => rfl) fun _ d reach => guardOp_pass (coreAddr_of_reaches reach)
  case copy =>
    exact performsIf_of (fun _ => rfl) fun _ d ⟨reach, reach'⟩ =>
      guardOp_pass (firstRefusal_cons_eq_none (coreAddr_of_reaches reach) (firstRefusal_cons_eq_none (coreAddr_of_reaches reach') rfl))
  case done =>
    refine takes_of _ (fun s => (rfl : exec _ s = execRowTransferDone _ _ _)) ?_
    rw [hx]
    dsimp only
    rw [xferChecks_none load copy write]

end Sys2Proof.Machine
end

section
/-! PROOF. Slot M, continued: coils, hitch windows, channels, knots and belays, the short path, and CSAVE. -/

namespace Sys2Proof.Machine

/-! ### Coils -/

theorem coilHandleOk_iff (d : Dev) (h : W32) : d.coilHandleOk h = true ↔ hKind h = 1 ∧ hGen h = d.coilGen (hRegion h) (hIndex h) := by
  simp [Dev.coilHandleOk]

theorem withCoil_valid {d : Dev} {k : Ctx} {c : Fin 16} {f : Nat → Nat → OpRes} {h : W32} (hh : (d.ctx k).getC c = h)
    (valid : hKind h = 1 ∧ hGen h = d.coilGen (hRegion h) (hIndex h)) : d.withCoil k c f = f (hRegion h) (hIndex h) := by
  subst hh
  exact if_pos ((coilHandleOk_iff d _).mpr valid)

theorem withCoil_stale {d : Dev} {k : Ctx} {c : Fin 16} {f : Nat → Nat → OpRes} {h : W32} (hh : (d.ctx k).getC c = h)
    (stale : ¬ (hKind h = 1 ∧ hGen h = d.coilGen (hRegion h) (hIndex h))) : d.withCoil k c f = .faulty 0x5006 := by
  subst hh
  exact if_neg (mt (coilHandleOk_iff d _).mp stale)

theorem rankOk_iff (c : Context) (rank : Nat) : c.rankOk rank = true ↔ ∀ x ∈ c.coils ++ c.wins, x.2.2 < rank := by
  simp only [Context.rankOk, List.all_eq_true, decide_eq_true_eq]

/-- The range check of a push or pop. -/
theorem coilFits_iff (d : Dev) (push : Bool) (r i n iat : Nat) :
    d.coilFits { push := push, region := r, coil := i, bytes := n, iat := iat } = true ↔
      if push then d.coilReadable r i + n ≤ d.coilSize r i else n ≤ d.coilReadable r i := by
  cases push <;> simp [Dev.coilFits]

section
variable {d : Dev} {k : Ctx} {c : Fin 16} {sb : Fin 64} {push : Bool} {h : W32} {n r i : Nat} {o : CoilOp}
  (hh : (d.ctx k).getC c = h) (hn : ((d.ctx k).getS sb).toNat = n) (hr : hRegion h = r) (hi : hIndex h = i)
  (ho : ({ push := push, region := r, coil := i, bytes := n, iat := (d.ctx k).cyc - 1 } : CoilOp) = o)
  (valid : hKind h = 1 ∧ hGen h = d.coilGen r i) (words : n % 4 = 0)
include hh hn hr hi ho valid words

/-- A push or pop of a valid handle takes effect at once, or waits for earlier work. -/
theorem coilMove_valid : d.coilMove k push c sb =
    if (d.ctx k).coilOps.isEmpty && d.coilReady k o then if d.coilFits o then .ok (d.coilAdvance push r i n) else .faulty 0x5008
    else .ok (d.modCtx k fun x => { x with coilOps := x.coilOps ++ [o] }) := by
  subst hr hi hn ho
  exact (withCoil_valid hh valid).trans (if_neg (by simp [words]))

theorem coilMove_fits (first : (d.ctx k).coilOps = []) (ready : d.coilReady k o = true) (fits : d.coilFits o = true) :
    d.coilMove k push c sb = .ok (d.coilAdvance push r i n) := by
  rw [coilMove_valid hh hn hr hi ho valid words, if_pos (by simp [first, ready]), if_pos fits]

theorem coilMove_beyond (first : (d.ctx k).coilOps = []) (ready : d.coilReady k o = true) (beyond : ¬ d.coilFits o = true) :
    d.coilMove k push c sb = .faulty 0x5008 := by
  rw [coilMove_valid hh hn hr hi ho valid words, if_pos (by simp [first, ready]), if_neg beyond]

theorem coilMove_waits (waits : (d.ctx k).coilOps ≠ [] ∨ d.coilReady k o = false) :
    d.coilMove k push c sb = .ok (d.modCtx k fun x => { x with coilOps := x.coilOps ++ [o] }) := by
  rw [coilMove_valid hh hn hr hi ho valid words, if_neg]
  rcases waits with h | h
  · simp [h]
  · simp [h]

end

/-- Settles O16. -/
theorem coilOperations : Obligations.CoilOperations := by
  intro k c sa sb sd h r i valid N tr ti
  refine ⟨?take, performsIf_of (fun _ => rfl) fun _ d hv => withCoil_valid rfl hv, ?wait, fun push op hop => ?move,
    performsIf_of (fun _ => rfl) fun _ d hv => withCoil_valid rfl hv, performsIf_of (fun _ => rfl) fun _ d hv => withCoil_valid rfl hv, ?stale⟩
  case take =>
    refine performsIf_of (fun _ => rfl) fun _ d ⟨enabled, rank⟩ => (if_neg ?_).trans (if_neg ?_)
    · rw [show d.coilEnabled (field ((d.ctx k).getS sa).toNat 11 9) (field ((d.ctx k).getS sa).toNat 8 0) = true from enabled]
      decide
    · rw [(rankOk_iff _ _).mpr rank]
      decide
  case wait =>
    refine performsIf_of (fun _ => rfl) fun _ d ⟨hv, words, fits⟩ => (withCoil_valid rfl hv).trans (if_neg ?_)
    rw [Bool.or_eq_true, decide_eq_true_eq, decide_eq_true_eq, not_or]
    exact ⟨not_not.mpr words, Nat.not_lt.mpr fits⟩
  case move =>
    intro o
    have run (s : State) : exec op s = memorySlot k (fun d => d.coilMove k push c sb) s := by
      subst hop
      cases push <;> rfl
    refine ⟨performsIf_of run fun _ d ⟨hv, words, first, ready, fits⟩ => ?_, performsIf_of run fun _ d ⟨hv, words, waits⟩ => ?_,
      abortsIf_of run fun _ d ⟨hv, words, first, ready, beyond⟩ => ?_⟩
    · exact coilMove_fits (o := o d) rfl rfl rfl rfl rfl hv words first ready ((coilFits_iff ..).mpr fits)
    · exact coilMove_waits (o := o d) rfl rfl rfl rfl rfl hv words waits
    · refine coilMove_beyond (o := o d) rfl rfl rfl rfl rfl hv words first ready (mt (coilFits_iff ..).mp ?_)
      cases push with
      | false => exact Nat.not_le.mpr beyond
      | true => exact Nat.not_le.mpr beyond
  case stale =>
    rintro op (rfl | rfl | rfl | rfl | rfl | rfl) <;> exact abortsIf_of (fun _ => rfl) fun _ d hs => withCoil_stale rfl hs

/-! ### Hitch windows -/

theorem withWindow_valid {d : Dev} {k : Ctx} {h : Fin 16} {f : Nat → Nat → OpRes} {x : W32} (hx : (d.ctx k).getH h = x)
    (valid : hKind x = 2 ∧ hGen x = d.winGen (hRegion x) (hIndex x)) : d.withWindow k h f = f (hRegion x) (hIndex x) := by
  subst hx
  exact if_pos (by simpa using valid)

theorem withWindow_stale {d : Dev} {k : Ctx} {h : Fin 16} {f : Nat → Nat → OpRes} {x : W32} (hx : (d.ctx k).getH h = x)
    (stale : ¬ (hKind x = 2 ∧ hGen x = d.winGen (hRegion x) (hIndex x))) : d.withWindow k h f = .faulty 0x5006 := by
  subst hx
  exact if_neg (by simpa using stale)

/-- HITCH.OPEN of a legal descriptor at `a` takes window `i`, the lowest one closed. -/
theorem hitchOpen_ok {d e : Dev} {k : Ctx} {h : Fin 16} {sa : Fin 64} {a r i rank : Nat} (ha : ((d.ctx k).getS sa).toNat = a)
    (hr : regionOf (leNat (d.loadByte k) a 8) = r) (hrank : leNat (d.loadByte k) (a + 12) 2 = rank)
    (he : ((upto 8).foldl (fun e w => e.wr (winBase r i + 4 * w) (BitVec.ofNat 32 (leNat (d.loadByte k) (a + 4 * w) 4))) d).openWindow r i
      (d.ctx k).task false (some k) = e)
    (reach : coreReaches d k a 32 32) (read : readable d a 32 false)
    (legal : d.winMayOpen (leNat (d.loadByte k) a 8) (leNat (d.loadByte k) (a + 8) 4) (d.loadByte k (a + 14)).toNat (d.loadByte k (a + 15)).toNat
      (leNat (d.loadByte k) (a + 18) 2) (leNat (d.loadByte k) (a + 24) 8) = true)
    (lowest : ((upto 256).find? fun i => !d.winOpen r i) = some i) (above : ∀ x ∈ (d.ctx k).coils ++ (d.ctx k).wins, x.2.2 < rank) :
    d.hitchOpen k h sa = .ok (e.modCtx k fun c =>
      { c with wins := c.wins ++ [(r, i, rank)] }.later 3 4 (.h h (handleOf i r 2 (e.winGen r i)))) := by
  subst ha he
  rw [Dev.hitchOpen]
  dsimp only
  rw [guardOp_pass (firstRefusal_cons_eq_none (coreAddr_of_reaches reach) (firstRefusal_cons_eq_none (storeRead_of_readable read) rfl)),
    if_neg (by simp [legal]), hr, lowest, hrank]
  dsimp only
  rw [if_neg (by simp [(rankOk_iff _ _).mpr above])]

/-- Settles O17. -/
theorem hitchOperations : Obligations.HitchOperations := by
  intro k h sa sd region window
  refine ⟨?opening, ?handles, fun d hopen => ⟨fun nonzero reached => ?expired, fun hw => ?waits⟩⟩
  case opening =>
    intro A rd base rank i
    exact performsIf_of (fun _ => rfl) fun _ d ⟨reach, read, legal, lowest, above⟩ => hitchOpen_ok rfl rfl rfl rfl reach read legal lowest above
  case handles =>
    intro x valid
    exact ⟨performsIf_of (fun _ => rfl) fun _ d hv => withWindow_valid rfl hv, performsIf_of (fun _ => rfl) fun _ d hv => withWindow_valid rfl hv,
      abortsIf_of (fun _ => rfl) fun _ d hs => withWindow_stale rfl hs, abortsIf_of (fun _ => rfl) fun _ d hs => withWindow_stale rfl hs⟩
  case expired =>
    refine takes_of _ (fun s => (rfl : exec _ s = execHitchExpiry _ _ _)) (if_pos ?_)
    simp [hopen, nonzero, reached]
  case waits =>
    refine takes_of _ (fun s => (rfl : exec _ s = execHitchExpiry _ _ _)) (if_neg ?_)
    simp only [Bool.and_eq_true, bne_iff_ne, decide_eq_true_eq]
    omega

/-! ### Channels, knots and belays -/

theorem withChan_valid {d : Dev} {k : Ctx} {q : Fin 8} {f : Nat → OpRes} {h : W32} {i : Nat} (hh : (d.ctx k).getQ q = h)
    (hi : hRegion h * 8 + hIndex h = i) (valid : hKind h = 3 ∧ hGen h = (d.chan i).generation.toNat) : d.withChan k q f = f i := by
  subst hh hi
  exact if_pos (by simpa using valid)

theorem withChan_stale {d : Dev} {k : Ctx} {q : Fin 8} {f : Nat → OpRes} {h : W32} {i : Nat} (hh : (d.ctx k).getQ q = h)
    (hi : hRegion h * 8 + hIndex h = i) (stale : ¬ (hKind h = 3 ∧ hGen h = (d.chan i).generation.toNat)) : d.withChan k q f = .faulty 0x2006 := by
  subst hh hi
  exact if_neg (by simpa using stale)

/-- A channel that a task may take: its own, or one that nothing holds or waits in, and that the task declared. -/
theorem takeable {d : Dev} {k : Ctx} {i : Nat} {ch : Channel}
    (mine : ch.task = (d.ctx k).task ∨ (ch.holders = [] ∧ ch.queue = []))
    (declared : ∃ t, d.task? (d.ctx k).task = some t ∧ t.channels.contains i = true) :
    ((ch.task != (d.ctx k).task && (!ch.holders.isEmpty || !ch.queue.isEmpty)) ||
      !(d.task? (d.ctx k).task).any fun t => t.channels.contains i) = false := by
  obtain ⟨t, ht, hc⟩ := declared
  rw [ht, Option.any_some, hc]
  rcases mine with h | ⟨h1, h2⟩
  · simp [h]
  · simp [h1, h2]

section
variable {d : Dev} {k : Ctx} {q : Fin 8} {sa : Fin 64} {h : W32} {i a : Nat} (hh : (d.ctx k).getQ q = h) (hi : hRegion h * 8 + hIndex h = i)
  (ha : ((d.ctx k).getS sa).toNat = a) (valid : hKind h = 3 ∧ hGen h = (d.chan i).generation.toNat)
include hh hi valid

theorem strIssue_full (full : 64 ≤ (d.chan i).queue.length) : d.strIssue k q sa = .hold { why := .chanQueue i, kind := 3, slot := 3 } :=
  (withChan_valid hh hi valid).trans (if_pos full)

variable (room : (d.chan i).queue.length < 64) (aligned : a % 64 = 0) (inside : inStoreOf (i / 8) a 64 = true) (read : readable d a 64 false)
include ha room aligned inside read

theorem strIssue_arms (idle : (d.rawAt a).ctl 0 = false)
    (arm : d.armCheck i a ((d.task? (d.ctx k).task).getD { id := (d.ctx k).task }) (d.rawAt a) = none)
    (write : writable d (.chan (d.ctx k).task) (a + 2) 1 false) (count : writable d (.chan (d.ctx k).task) (a + 58) 2 false) :
    d.strIssue k q sa = .ok (
      let e := d.writeCells ((a + 2, d.byte (a + 2) ||| 1) :: cellsAt (a + 58) (leBytes ((d.rawAt a).u 58 2 + 1) 2))
      let e := if (d.rawAt a).ctl 1 then e.setReached i (d.rawAt a).knot false else e
      e.modChan i fun c => { c with queue := c.queue ++ [{ addr := a, raw := e.rawAt a, task := (d.ctx k).task, owner := k }] }) := by
  subst ha
  refine (withChan_valid hh hi valid).trans ((if_neg (by omega)).trans ((guardOp_pass ?_).trans ((if_neg (ne_true_of_eq_false idle)).trans
    (guardOp_pass ?_))))
  · exact firstRefusal_cons_eq_none (refuseIf_eq_none (by simp [aligned, inside])) (firstRefusal_cons_eq_none (storeRead_of_readable read) rfl)
  · exact firstRefusal_cons_eq_none arm (firstRefusal_cons_eq_none (storeWrite_of_writable write)
      (firstRefusal_cons_eq_none (storeWrite_of_writable count) rfl))

theorem strIssue_rearms (armed : (d.rawAt a).ctl 0 = true) (count : writable d (.chan (d.ctx k).task) (a + 58) 2 false) :
    d.strIssue k q sa = .ok (((d.writeCells (cellsAt (a + 58) (leBytes ((d.rawAt a).u 58 2 + 1) 2))).inc64
      (aSt (i / 8) (i % 8) + rStRearms) 1).setBit (aSt (i / 8) (i % 8) + rStSticky) 0) := by
  subst ha
  refine (withChan_valid hh hi valid).trans ((if_neg (by omega)).trans ((guardOp_pass ?_).trans ((if_pos armed).trans (guardOp_pass ?_))))
  · exact firstRefusal_cons_eq_none (refuseIf_eq_none (by simp [aligned, inside])) (firstRefusal_cons_eq_none (storeRead_of_readable read) rfl)
  · exact storeWrite_of_writable count

end

/-- Settles O18. -/
theorem channelOperations : Obligations.ChannelOperations := by
  intro k q sa sb knot b region x i valid A n ch
  refine ⟨?take, ?foreign, ?arms, ?rearms, fun j => holdsIf_of (fun _ => rfl) fun _ d ⟨hv, hij, full⟩ => ?full,
    performsIf_of (fun _ => rfl) fun _ d hv => withChan_valid rfl rfl hv, performsIf_of (fun _ => rfl) fun _ d hv => withChan_valid rfl rfl hv,
    performsIf_of (fun _ => rfl) fun _ d hv => withChan_valid rfl rfl hv, ?stale, performsIf_of (fun _ => rfl) fun _ _ _ => rfl,
    performsIf_of (fun _ => rfl) fun _ _ _ => rfl⟩
  case take =>
    refine performsIf_of (fun _ => rfl) fun _ d ⟨own, mine, declared⟩ => (if_neg (not_not.mpr own)).trans (if_neg ?_)
    rw [takeable mine declared]
    decide
  case foreign => exact abortsIf_of (fun _ => rfl) fun _ d other => if_pos other
  case arms =>
    exact performsIf_of (fun _ => rfl) fun _ d ⟨hv, room, aligned, inside, read, idle, arm, write, count⟩ =>
      strIssue_arms rfl rfl rfl hv room aligned inside read idle arm write count
  case rearms =>
    exact performsIf_of (fun _ => rfl) fun _ d ⟨hv, room, aligned, inside, read, armed, count⟩ =>
      strIssue_rearms rfl rfl rfl hv room aligned inside read armed count
  case full =>
    subst hij
    exact strIssue_full rfl rfl hv full
  case stale =>
    rintro op (rfl | rfl | rfl | rfl) <;> exact abortsIf_of (fun _ => rfl) fun _ d hs => withChan_stale rfl rfl hs

/-! ### The short path -/

theorem crossesRow_eq_false {a n : Nat} : crossesRow a n = false ↔ a / 512 = (a + n - 1) / 512 := by simp [crossesRow]

/-- The transfers that R281 does not allow. -/
theorem not_legal_iff {src dst n : Nat} :
    (src % 4 ≠ 0 || dst % 4 ≠ 0 || n % 4 ≠ 0 || crossesRow src n || crossesRow dst n) = true ↔
      ¬ (src % 4 = 0 ∧ dst % 4 = 0 ∧ n % 4 = 0 ∧ src / 512 = (src + n - 1) / 512 ∧ dst / 512 = (dst + n - 1) / 512) := by
  simp only [← crossesRow_eq_false, Bool.or_eq_true, decide_eq_true_eq, not_and_or, Bool.not_eq_false, or_assoc]

/-- Settles O19. -/
theorem shortPath : Obligations.ShortPath := by
  refine fun k sa sb region => ⟨?issue, fun d x l hq => ?transfer⟩
  case issue =>
    intro src dst n legal
    refine ⟨performsIf_of (fun _ => rfl) fun _ d ⟨room, hl, hs, hd⟩ => ?_, abortsIf_of (fun _ => rfl) fun _ d ⟨room, hl⟩ => ?_,
      abortsIf_of (fun _ => rfl) fun _ d ⟨room, hl, hout⟩ => ?_, holdsIf_of (fun _ => rfl) fun _ d full => if_pos full⟩
    · refine (if_neg (by omega)).trans ((if_neg (mt not_legal_iff.mp (not_not.mpr hl))).trans (if_neg ?_))
      rw [show inStore ((d.ctx k).getS sa).toNat = true from hs, show inStore (field ((d.ctx k).getS sb).toNat 47 0) = true from hd]
      decide
    · exact (if_neg (by omega)).trans (if_pos (not_legal_iff.mpr hl))
    · refine (if_neg (by omega)).trans ((if_neg (mt not_legal_iff.mp (not_not.mpr hl))).trans (if_pos ?_))
      rw [Bool.or_eq_true, Bool.not_eq_true', Bool.not_eq_true']
      exact hout
  case transfer =>
    intro e read write
    refine takes_of _ (fun s => (rfl : exec _ s = execShortTransfer _ _)) ?_
    rw [hq]
    show e.shortMove x = _
    rw [Dev.shortMove, firstRefusal_cons_eq_none (storeRead_of_readable read) (firstRefusal_cons_eq_none (storeWrite_of_writable write) rfl)]

/-! ### CSAVE -/

theorem task?_id {d : Dev} {id : W32} {t : Task} (h : d.task? id = some t) : t.id = id := by
  simpa using List.find?_some h

/-- A task that has been changed under its number is found as changed. -/
theorem task?_modTask_self {d : Dev} {id : W32} {t : Task} {f : Task → Task} (h : d.task? id = some t) (hf : ∀ t, (f t).id = t.id) :
    (d.modTask id f).task? id = some (f t) := by
  have same : ((fun x : Task => x.id == id) ∘ fun x => if x.id = id then f x else x) = fun x => x.id == id := by
    funext x
    by_cases hx : x.id = id
    · simp [hx, hf]
    · simp [hx]
  rw [Dev.task?, Dev.modTask, List.find?_map, same, show d.tasks.find? _ = some t from h, Option.map_some, if_pos (task?_id h)]

@[simp] theorem task?_addHold (d : Dev) (k : Ctx) (h : Hold) (id : W32) : (d.addHold k h).task? id = d.task? id := by
  rw [Dev.task?, Dev.addHold, Dev.modCtx_tasks, ← Dev.task?]

section
variable {d : Dev} {k : Ctx} {sa : Fin 64} {t : Task} {a : Nat} {note : Task → Task} {noted : Dev}
  (ht : d.task? (d.ctx k).task = some t) (ha : ((d.ctx k).getS sa).toNat = a)
include ht

theorem csave_open_chunk (opened : (d.ctx k).chunks ≠ []) : d.csave k sa = .faulty 0x3005 := by
  rw [Dev.csave]
  dsimp only
  rw [ht]
  exact if_pos (by simpa using opened)

variable (hnote : (fun t : Task =>
      { t with csaves := if t.csaves.contains (d.ctx k).rank then t.csaves else (d.ctx k).rank :: t.csaves
               csaveAddr := if (d.ctx k).rank = 0 then a else t.csaveAddr
               savedAt := if (d.ctx k).rank = 0 then d.dt else t.savedAt }) = note)
  (hnoted : (d.modTask t.id note).addHold k { why := .csave, kind := 3, slot := 3 } = noted) (closed : (d.ctx k).chunks = [])
  (legal : (d.ctx k).rank = 0 → a % 64 = 0 ∧ runMapped ((a : Int), imageLength t.cores.length) = true)
include ha hnote hnoted closed legal

/-- A legal CSAVE is noted, and the one that completes the ranks writes the image. -/
theorem csave_legal : d.csave k sa = if (note t).csaves.length = t.cores.length then noted.csaveWrite k (note t) else .ok noted := by
  have found : noted.task? t.id = some (note t) := by
    rw [← hnoted, task?_addHold]
    exact task?_modTask_self (task?_id ht ▸ ht) fun _ => hnote ▸ rfl
  subst ha hnote hnoted
  rw [Dev.csave]
  dsimp only
  rw [ht]
  dsimp only
  rw [found, closed, if_neg (by simp), if_neg, if_neg]
  · simp only [Bool.and_eq_true, decide_eq_true_eq, Bool.not_eq_true']
    exact fun ⟨h, hm⟩ => by simp [(legal h).2] at hm
  · simp only [Bool.and_eq_true, decide_eq_true_eq, bne_iff_ne]
    exact fun ⟨h, hm⟩ => hm (legal h).1

end

theorem contextSaveHold : ContextSaveHold := by
  intro k sa t A note noted legal
  refine ⟨performsIf_of (fun _ => rfl) fun _ d ⟨⟨ht, closed, mapped⟩, others⟩ => ?_,
    performsIf_of (fun _ => rfl) fun _ d ⟨⟨ht, closed, mapped⟩, all, write⟩ => ?_,
    abortsIf_of (fun _ => rfl) fun _ d ⟨ht, opened⟩ => csave_open_chunk ht opened⟩
  · exact (csave_legal ht rfl rfl rfl closed mapped).trans (if_neg others)
  · exact (csave_legal ht rfl rfl rfl closed mapped).trans ((if_pos all).trans (guardOp_pass write))

end Sys2Proof.Machine
end

section
/-! PROOF. The life of a context: its events, its task's binding, and the image that CSAVE writes. -/

namespace Sys2Proof.Machine

/-! ### Events of a context -/

theorem holdEnd_of_holds {d : Dev} {k : Ctx} {i n : Nat} {h : Hold} (hh : (d.ctx k).holds[i]? = some h) :
    d.holdEnd k i n = if d.holdDone k h then ((d.holdEffect k h).countHeld k h n).modCtx k fun c => { c with holds := c.holds.eraseIdx i }
      else d := by
  rw [Dev.holdEnd, hh]

section
variable {d : Dev} {r : Fin 8} {k : Fin 40} {n i : Nat} (idle : (d.core r k).switching = none) (next : d.nextSlot (d.core r k) = some i)
include idle next

theorem contextSwitch_from_idle (none_running : (d.core r k).running = none) :
    d.contextSwitch r k n = ((d.inc64 (aCo r k + rCoPfIdle) n).modCore r k fun co => { co with switching := some i }).inc64 (aCo r k + rCoSwitches) 1 := by
  rw [Dev.contextSwitch]
  dsimp only
  rw [idle, if_neg (by simp), none_running, next]

theorem contextSwitch_from_held {j : Nat} {c : Context} (running : (d.core r k).running = some j)
    (hc : nth (d.core r k).slots j none = some c) (held : c.holds ≠ []) (point : d.heldSp (d.core r k) c = true) :
    d.contextSwitch r k n =
      ((d.countHold (ctxAt r k j) n).modCore r k fun co => { co with switching := some i }).inc64 (aCo r k + rCoSwitches) 1 := by
  rw [Dev.contextSwitch]
  dsimp only
  rw [idle, if_neg (by simp), running, next]
  dsimp only
  rw [hc]
  exact if_pos (by simp [held, point])

end

theorem contextEventsHold : ContextEventsHold := by
  intro k region core ix n d
  have slotFree (s : State) : exec (.slotFree k) s = event (fun d => d.slotFree k) s := rfl
  refine ⟨takes_of _ (fun s => (rfl : exec _ s = execFixedResultVisible _ _)) rfl, fun h hh hd => ?ends, fun h hh hd => ?lasts,
    fun i idle next => ⟨fun hr => ?idle, fun j c hr hc held point => ?held⟩, fun i hs => ?switched, fun hq hl => takes_of _ slotFree ?_,
    fun hq hl => takes_of _ slotFree ?_, fun hq => takes_of _ slotFree (if_neg (ne_true_of_eq_false hq))⟩
  case ends =>
    refine takes_of _ (fun s => (rfl : exec _ s = execHoldEnd _ _ _ _)) ((holdEnd_of_holds hh).trans ((if_pos hd).trans ?_))
    rw [Dev.countHeld]
  case lasts =>
    exact takes_of _ (fun s => (rfl : exec _ s = execHoldEnd _ _ _ _)) ((holdEnd_of_holds hh).trans (if_neg (ne_true_of_eq_false hd)))
  case idle => exact takes_of _ (fun s => (rfl : exec _ s = execContextSwitch _ _ _ _)) (contextSwitch_from_idle idle next hr)
  case held => exact takes_of _ (fun s => (rfl : exec _ s = execContextSwitch _ _ _ _)) (contextSwitch_from_held idle next hr hc held point)
  case switched =>
    refine takes_of _ (fun s => (rfl : exec _ s = execSwitchDone _ _ _)) ?_
    rw [Dev.switchDone]
    dsimp only
    rw [hs] <;> rfl
  · exact (if_pos hq).trans (if_pos hl)
  · exact (if_pos hq).trans (if_neg hl)

/-! ### Binding -/

section
variable {d : Dev} {id : W32} {t : Task} (ht : d.task? id = some t)
include ht

theorem taskBind_waits (h : t.started = true ∨ d.dt.toNat < t.start.toNat ∨ t.cores.any d.remapBusy = true ∨ d.verdictHeld t = true ∨
    t.cores.any d.pipeBusy = true) : d.taskBind id = d := by
  rw [Dev.taskBind, ht]
  exact if_pos (by simpa only [Bool.or_eq_true, decide_eq_true_eq, or_assoc] using h)

section
variable (unstarted : t.started = false) (due : t.start.toNat ≤ d.dt.toNat) (mapped : t.cores.any d.remapBusy = false)
  (left : d.verdictHeld t = false) (piped : t.cores.any d.pipeBusy = false)
include unstarted due mapped left piped

theorem taskBind_due : d.taskBind id = match d.placesFor t.cores, d.image? t.image with
    | some places, some m =>
      if places.all fun k => d.codeRoom (d.core k.region k.core) t.image m then d.bindAt t m places else d.abortTask id 0x1010
    | _, _ => d.abortTask id 0x1010 := by
  rw [Dev.taskBind, ht]
  exact (if_neg (by simp only [unstarted, mapped, left, piped, Bool.false_or, Bool.or_false, decide_eq_true_eq]; omega)).trans rfl

end

end

theorem taskBindingHold : TaskBindingHold := by
  intro id d t ht
  have run (s : State) : exec (.taskBind id) s = event (fun d => d.taskBind id) s := rfl
  refine ⟨fun unstarted due mapped left piped => ?due, fun h => takes_of _ run (taskBind_waits ht h)⟩
  have bind := taskBind_due ht unstarted due mapped left piped
  refine ⟨fun places m hp hm => ⟨fun room => takes_of _ run (bind.trans ?_), fun ⟨k, hk, full⟩ => takes_of _ run (bind.trans ?_)⟩,
    fun vacant => takes_of _ run (bind.trans ?_)⟩
  · rw [hp, hm]
    exact if_pos (List.all_eq_true.mpr room)
  · rw [hp, hm]
    exact if_neg fun all => by simp [List.all_eq_true.mp all k hk] at full
  · rw [vacant]

/-- Settles O24. -/
theorem contextLife : Obligations.ContextLife := ⟨contextSaveHold, contextEventsHold, taskBindingHold⟩

end Sys2Proof.Machine
end

section
/-! PROOF. The whole block: a step on an empty queue, and the state after reset. -/

namespace Sys2Proof.Machine

/-! ### Sending a message leaves device time -/

@[simp] theorem Dev.draw_dt (d : Dev) : d.draw.2.dt = d.dt := rfl
@[simp] theorem Dev.stamp_dt (d : Dev) : d.stamp.2.dt = d.dt := rfl
@[simp] theorem Dev.modSession_dt (d : Dev) (s : Nat) (f : Session → Session) : (d.modSession s f).dt = d.dt := rfl

@[simp] theorem Dev.modPort_dt (d : Dev) (p : Nat) (f : Port → Port) : (d.modPort p f).dt = d.dt := by
  unfold Dev.modPort
  split <;> rfl

@[simp] theorem Dev.ptpDeparts_dt (d : Dev) (f : OutFrame) : (d.ptpDeparts f).2.dt = d.dt := by
  unfold Dev.ptpDeparts
  split
  · dsimp only
    split <;> simp
  · rfl

theorem Dev.protect_dt {d e : Dev} {f g : OutFrame} (h : d.protect f = some (g, e)) : e.dt = d.dt := by
  unfold Dev.protect at h
  split at h
  · obtain ⟨n, -, hn⟩ := Option.map_eq_some_iff.mp h
    exact (congrArg (fun x : OutFrame × Dev => x.2.dt) hn).symm
  · exact (congrArg (fun x : OutFrame × Dev => x.2.dt) (Option.some.inj h)).symm

@[simp] theorem Dev.emit_dt (d : Dev) (f : OutFrame) : (d.emit f).dt = d.dt := by
  unfold Dev.emit
  split
  · rfl
  next g e h => exact Dev.protect_dt (e := e) h

@[simp] theorem Dev.resolve_dt (d : Dev) (f : OutFrame) : (d.resolve f).dt = d.dt := by
  unfold Dev.resolve
  split <;> simp

@[simp] theorem Dev.launch_dt (d : Dev) (f : OutFrame) : (d.launch f).dt = d.dt := by
  unfold Dev.launch
  split <;> simp

@[simp] theorem Dev.transmit_dt (d : Dev) (p : Nat) (dst : Ip) (pl : Payload) (src : Option Ip) : (d.transmit p dst pl src).dt = d.dt := by
  unfold Dev.transmit
  dsimp only
  rw [apply_ite (fun e : Dev => e.dt), Dev.modPort_dt, Dev.launch_dt, ite_self]

@[simp] theorem Dev.sendOn_dt (d : Dev) (s : Nat) (m : Mbt) : (d.sendOn s m).dt = d.dt := by simp [Dev.sendOn]

/-- A step that leaves device time leaves it however often it is taken. -/
theorem foldl_dt {α : Type} {f : Dev → α → Dev} (h : ∀ d x, (f d x).dt = d.dt) (l : List α) (d : Dev) : (l.foldl f d).dt = d.dt := by
  induction l generalizing d with
  | nil => rfl
  | cons x l ih => rw [List.foldl_cons, ih, h]

@[simp] theorem Dev.pump_dt (d : Dev) (s : Nat) : (d.pump s).dt = d.dt := by
  unfold Dev.pump
  dsimp only
  split
  · rfl
  · rw [foldl_dt (fun d m => d.sendOn_dt s m), Dev.modSession_dt]

@[simp] theorem Dev.sendRaw_dt (d : Dev) (s : Nat) (m : Mbt) : (d.sendRaw s m).dt = d.dt := by
  unfold Dev.sendRaw Dev.countDiscarded
  dsimp only
  split <;> simp

@[simp] theorem Dev.stateRefresh_dt (d : Dev) : d.stateRefresh.dt = d.dt := by
  unfold Dev.stateRefresh
  split
  · exact Dev.sendRaw_dt ..
  · rfl

@[simp] theorem Dev.idles_dt (d : Dev) : d.idles.dt = d.passTime.dt := by
  unfold Dev.idles
  dsimp only
  split <;> simp

/-! ### 1 ns of the reference -/

theorem tickBy_dt (d : Dev) (e : Int) : (d.tickBy e).dt = d.dt + BitVec.ofInt 64 (1 + e) := rfl

section
variable {d : Dev}

theorem passTime_off (h : d.power.input = false) : d.passTime = d := if_pos (by simp [Dev.timeRuns, h])

variable (on : d.power.input = true)
include on

theorem passTime_on : d.passTime =
    if d.clock.slewWait ≠ 0 then (d.tickBy 0).modClock fun c => { c with slewWait := c.slewWait - 1 }
    else if d.clock.slew ≠ 0 then (d.tickBy d.clock.slew.sign).modClock fun c => { c with slew := c.slew - c.slew.sign, slewWait := 9999 }
    else if d.timeState = 3 then ({ d with clock := d.clock.gather.2 }).tickBy d.clock.gather.1
    else d.tickBy 0 :=
  if_neg (by simp [Dev.timeRuns, on])

theorem passTime_dt_plain (h : d.clock.slewWait ≠ 0 ∨ (d.clock.slew = 0 ∧ d.timeState ≠ 3)) : d.passTime.dt = d.dt + 1 := by
  rw [passTime_on on]
  by_cases hw : d.clock.slewWait = 0
  · obtain ⟨hs, ht⟩ := h.resolve_left (not_not.mpr hw)
    rw [if_neg (not_not.mpr hw), if_neg (not_not.mpr hs), if_neg ht]
    rfl
  · rw [if_pos hw]
    rfl

variable (due : d.clock.slewWait = 0)
include due

theorem passTime_dt_slew (h : d.clock.slew ≠ 0) : d.passTime.dt = d.dt + BitVec.ofInt 64 (1 + d.clock.slew.sign) := by
  rw [passTime_on on, if_neg (not_not.mpr due), if_pos h]
  rfl

theorem passTime_dt_holdover (h : d.clock.slew = 0) (ht : d.timeState = 3) : d.passTime.dt = d.dt + BitVec.ofInt 64 (1 + d.clock.gather.1) := by
  rw [passTime_on on, if_neg (not_not.mpr due), if_neg (not_not.mpr h), if_pos ht]
  rfl

end

theorem gather_up {c : Clock} (h : 1000000000 ≤ c.gathered + c.freq) : c.gather.1 = 1 := if_pos h
theorem gather_down {c : Clock} (h : c.gathered + c.freq ≤ -1000000000) : c.gather.1 = -1 := (if_neg (by omega)).trans (if_pos h)
theorem gather_none {c : Clock} (h : -1000000000 < c.gathered + c.freq) (h' : c.gathered + c.freq < 1000000000) : c.gather.1 = 0 :=
  (if_neg (by omega)).trans (if_neg (by omega))

theorem passTime_frame (d : Dev) : d.passTime.ctl = d.ctl ∧ d.passTime.mem = d.mem ∧ d.passTime.cores = d.cores ∧ d.passTime.tasks = d.tasks ∧
    d.passTime.net = d.net ∧ d.passTime.twin = d.twin := by
  unfold Dev.passTime
  split_ifs <;> exact ⟨rfl, rfl, rfl, rfl, rfl, rfl⟩

/-- Without a STATE sent before there is nothing to send again. -/
theorem idles_quiet {d : Dev} (h : d.twin.stateSent = []) : d.idles = d.passTime := by
  have quiet : d.passTime.stateRefresh = d.passTime := by
    obtain ⟨-, -, -, -, -, htwin⟩ := passTime_frame d
    exact if_neg (by simp [htwin, h])
  unfold Dev.idles
  dsimp only
  split
  · exact quiet
  · rfl

/-- Settles O48: the branches of `Dev.passTime`; a resent STATE changes neither device time nor the queue. -/
theorem emptyQueuePassesTime : Obligations.EmptyQueuePassesTime := by
  intro s hs
  refine ⟨_, step_of_pending_nil hs, hs, rfl, fun off => ?off, fun on => ⟨fun h => ?plain, fun due => ⟨fun h => ?up, fun h => ?down, fun h ht => ?_⟩⟩,
    fun quiet => ?frame⟩
  case off => exact (Dev.idles_dt _).trans (congrArg (fun d : Dev => d.dt) (passTime_off off))
  case plain => exact (Dev.idles_dt _).trans (passTime_dt_plain on h)
  case up => rw [Dev.idles_dt, passTime_dt_slew on due (by omega), Int.sign_eq_one_of_pos h]; rfl
  case down =>
    rw [Dev.idles_dt, passTime_dt_slew on due (by omega), Int.sign_eq_neg_one_of_neg h]
    exact BitVec.add_zero _
  case frame =>
    obtain ⟨hctl, hmem, hcores, htasks, hnet, -⟩ := passTime_frame s.dev
    dsimp only
    rw [idles_quiet quiet]
    exact ⟨hctl, hmem, hcores, htasks, hnet⟩
  dsimp only
  rw [Dev.idles_dt, passTime_dt_holdover on due h ht]
  refine ⟨fun hg => ?_, fun hg => ?_, fun hg hg' => ?_⟩
  · rw [gather_up hg]; rfl
  · rw [gather_down hg]; exact BitVec.add_zero _
  · rw [gather_none hg hg']; rfl

/-! ### The state after reset -/

theorem ctx?_reset (k : Ctx) : State.reset.dev.ctx? k = none := by
  have empty : ∀ i : Fin 12, nth Core.initial.slots i.val none = none := by decide
  exact empty k.slot

/-- Settles O57: the reset state lists no entry, so every read gives the value of an unlisted one. -/
theorem resetState : Obligations.ResetState :=
  ⟨rfl, rfl, rfl, rfl, rfl, fun k => ctx?_reset k, fun _ => ⟨rfl, rfl⟩, fun _ => rfl, fun _ => rfl, fun _ => rfl, fun _ => rfl, by decide,
    by decide, rfl⟩

end Sys2Proof.Machine
end

section
/-! PROOF. The Ember store at step 2 of a cold start: what the reconciliation writes at each address, and the bits of EM_STATE. -/

namespace Sys2Proof.Machine

/-! ### Bits of a control-space word -/

theorem Dev.flag_setBit (d : Dev) (a i j : Nat) (hi : i < 32) : (d.setBit a i).flag a j = (d.flag a j || decide (j = i)) := by
  have bit : (BitVec.ofNat 32 (1 <<< i)).getLsbD j = decide (j = i) := by
    rw [BitVec.getLsbD_ofNat, Nat.one_shiftLeft, Nat.testBit_two_pow, Bool.eq_iff_iff]
    simp only [Bool.and_eq_true, decide_eq_true_eq]
    omega
  rw [Dev.flag, Dev.rd_setBit_self, BitVec.getLsbD_or, ← Dev.flag]
  exact congrArg (d.flag a j || ·) bit

theorem Dev.flag_clrBit (d : Dev) (a i j : Nat) (hi : i < 32) : (d.clrBit a i).flag a j = (d.flag a j && !decide (j = i)) := by
  have bit : ((1 : W32) <<< i).getLsbD j = decide (j = i) := by
    rw [BitVec.getLsbD_shiftLeft, show (1 : W32) = 1#32 from rfl, BitVec.getLsbD_one, Bool.eq_iff_iff]
    simp only [Bool.and_eq_true, Bool.not_eq_true', decide_eq_true_eq, decide_eq_false_iff_not]
    omega
  rw [Dev.flag, Dev.rd_clrBit_self, BitVec.getLsbD_and, BitVec.getLsbD_not, bit, ← Dev.flag]
  by_cases hj : j < 32
  · simp [hj]
  · simp [hj, Dev.flag, BitVec.getLsbD_of_ge (d.rd a) j (by omega)]

theorem Dev.flag_putBit_self (d : Dev) (a i : Nat) (v : Bool) (hi : i < 32) : (d.putBit a i v).flag a i = v := by
  cases v
  · exact (d.flag_clrBit a i i hi).trans (by simp)
  · exact (d.flag_setBit a i i hi).trans (by simp)

theorem Dev.flag_putBit_ne (d : Dev) (a i j : Nat) (v : Bool) (hi : i < 32) (h : j ≠ i) : (d.putBit a i v).flag a j = d.flag a j := by
  cases v
  · exact (d.flag_clrBit a i j hi).trans (by simp [h])
  · exact (d.flag_setBit a i j hi).trans (by simp [h])

/-! ### The largest value and the union of the sources -/

theorem foldl_max_le_iff {α : Type} (f : α → Nat) (l : List α) (x y : Nat) :
    l.foldl (fun x m => max x (f m)) x ≤ y ↔ x ≤ y ∧ ∀ m ∈ l, f m ≤ y := by
  induction l generalizing x with
  | nil => simp
  | cons m l ih => simp [ih, and_assoc]

/-- The largest value of a list that is not empty is the value of one of its members. -/
theorem exists_foldl_max {α : Type} (f : α → Nat) {l : List α} (h : l ≠ []) : ∃ m ∈ l, f m = l.foldl (fun x m => max x (f m)) 0 := by
  have bound := (foldl_max_le_iff f l 0 _).mp (le_refl (l.foldl (fun x m => max x (f m)) 0))
  by_contra hno
  have below : ∀ m ∈ l, f m + 1 ≤ l.foldl (fun x m => max x (f m)) 0 := fun m hm =>
    lt_of_le_of_ne (bound.2 m hm) fun e => hno ⟨m, hm, e⟩
  obtain ⟨m, hm⟩ := List.exists_mem_of_ne_nil l h
  have pos := below m hm
  have least := (foldl_max_le_iff f l 0 (l.foldl (fun x m => max x (f m)) 0 - 1)).mpr ⟨Nat.zero_le _, fun m hm => by have := below m hm; omega⟩
  omega

theorem getLsbD_foldl_or {α : Type} (f : α → Byte) (l : List α) (x : Byte) (j : Nat) :
    (l.foldl (fun x m => x ||| f m) x).getLsbD j = true ↔ x.getLsbD j = true ∨ ∃ m ∈ l, (f m).getLsbD j = true := by
  induction l generalizing x with
  | nil => simp
  | cons m l ih => simp [ih, or_assoc]

/-! ### What the reconciliation writes -/

/-- The counters of the store, by offset and length (R523, R524). -/
def emberCounters : List (Nat × Nat) :=
  [(0x10, 8), (0x20, 1), (0x21, 1), (0x22, 1), (0x24, 2), (0x28, 4)] ++ (upto 8).flatMap fun n => [(fenceAt n + 10, 1), (fenceAt n + 11, 1)]
/-- The fence bytes of the store (R526). -/
def emberFences : List Nat := (upto 8).flatMap fun n => (upto 6).map fun b => fenceAt n + b

/-- The largest value that a source holds of the counter of `n` bytes at `a`. -/
def mostOf (sources : List (Sparse Byte)) (a n : Nat) : Nat := sources.foldl (fun x m => max x (leNat (emberGet m) a n)) 0
theorem le_mostOf {sources : List (Sparse Byte)} {a n : Nat} {m : Sparse Byte} (hm : m ∈ sources) : leNat (emberGet m) a n ≤ mostOf sources a n :=
  ((foldl_max_le_iff (fun m => leNat (emberGet m) a n) sources 0 _).mp (le_refl _)).2 m hm

/-- The bits that some source holds of the byte at `a`. -/
def everyOf (sources : List (Sparse Byte)) (a : Nat) : Byte := sources.foldl (fun x m => x ||| emberGet m a) 0

/-- The bytes that the reconciliation writes. -/
def reconciledCells (sources : List (Sparse Byte)) : List (Nat × Byte) :=
  let most (a n : Nat) : List (Nat × Byte) := cellsAt a (leBytes (mostOf sources a n) n)
  [(0x10, 8), (0x20, 1), (0x21, 1), (0x22, 1), (0x24, 2), (0x28, 4)].flatMap (fun (p : Nat × Nat) => most p.1 p.2) ++
    (upto 8).flatMap fun n => (upto 6).map (fun i => (fenceAt n + i, everyOf sources (fenceAt n + i))) ++ most (fenceAt n + 10) 1 ++ most (fenceAt n + 11) 1

theorem reconciled_eq (base : Sparse Byte) (sources : List (Sparse Byte)) :
    reconciled base sources = (reconciledCells sources).foldl (fun m p => sset emberDefault m p.1 p.2) base := rfl

/-- The addresses of a list of runs. -/
def runAddresses (l : List (Nat × Nat)) : List Nat := l.flatMap fun p => (upto p.2).map fun i => p.1 + i

theorem map_fst_cellsAt (a v n : Nat) : (cellsAt a (leBytes v n)).map (fun p => p.1) = (upto n).map fun i => a + i := by
  simp [cellsAt]

/-- The addresses that the reconciliation writes, in order. -/
def reconciledAddresses : List Nat :=
  runAddresses [(0x10, 8), (0x20, 1), (0x21, 1), (0x22, 1), (0x24, 2), (0x28, 4)] ++ (upto 8).flatMap fun n =>
    (upto 6).map (fun i => fenceAt n + i) ++ ((upto 1).map fun i => fenceAt n + 10 + i) ++ (upto 1).map fun i => fenceAt n + 11 + i

theorem map_fst_reconciledCells (sources : List (Sparse Byte)) : (reconciledCells sources).map (fun p => p.1) = reconciledAddresses := by
  simp only [reconciledCells, reconciledAddresses, runAddresses, List.map_append, List.map_flatMap, map_fst_cellsAt, List.map_map]
  rfl

theorem nodup_reconciledAddresses : reconciledAddresses.Nodup := by decide
theorem reconciledAddresses_subset : ∀ x ∈ reconciledAddresses, x ∈ emberFences ∨ ∃ p ∈ emberCounters, p.1 ≤ x ∧ x < p.1 + p.2 := by decide

theorem counter_mem_cells {sources : List (Sparse Byte)} {p : Nat × Nat} (hp : p ∈ emberCounters) {i : Nat} (hi : i < p.2) :
    (p.1 + i, bytesAt (leBytes (mostOf sources p.1 p.2) p.2) i) ∈ reconciledCells sources := by
  have cell : (p.1 + i, bytesAt (leBytes (mostOf sources p.1 p.2) p.2) i) ∈ cellsAt p.1 (leBytes (mostOf sources p.1 p.2) p.2) :=
    (mem_cellsAt _ _ _).mpr ⟨i, by simpa using hi, rfl⟩
  rcases List.mem_append.mp hp with h | h
  · exact List.mem_append_left _ (List.mem_flatMap.mpr ⟨p, h, cell⟩)
  · obtain ⟨n, hn, hp'⟩ := List.mem_flatMap.mp h
    refine List.mem_append_right _ (List.mem_flatMap.mpr ⟨n, hn, ?_⟩)
    rcases List.mem_pair.mp hp' with rfl | rfl
    · exact List.mem_append_left _ (List.mem_append_right _ cell)
    · exact List.mem_append_right _ cell

theorem fence_mem_cells {sources : List (Sparse Byte)} {x : Nat} (hx : x ∈ emberFences) : (x, everyOf sources x) ∈ reconciledCells sources := by
  obtain ⟨n, hn, hb⟩ := List.mem_flatMap.mp hx
  obtain ⟨b, hb6, rfl⟩ := List.mem_map.mp hb
  exact List.mem_append_right _ (List.mem_flatMap.mpr ⟨n, hn, List.mem_append_left _ (List.mem_append_left _ (List.mem_map.mpr ⟨b, hb6, rfl⟩))⟩)

/-! ### What the reconciled store reads -/

theorem emberGet_foldl_ne (cells : List (Nat × Byte)) (m : Sparse Byte) (x : Nat) (h : ∀ p ∈ cells, p.1 ≠ x) :
    emberGet (cells.foldl (fun m p => sset emberDefault m p.1 p.2) m) x = emberGet m x := by
  induction cells generalizing m with
  | nil => rfl
  | cons p l ih =>
    rw [List.foldl_cons, ih _ fun q hq => h q (List.mem_cons_of_mem _ hq)]
    exact sget_sset_ne _ _ _ _ _ (h p List.mem_cons_self).symm

/-- Cells of different addresses read as they were written. -/
theorem emberGet_foldl_mem {cells : List (Nat × Byte)} (m : Sparse Byte) {x : Nat} {v : Byte} (once : (cells.map fun p => p.1).Nodup)
    (h : (x, v) ∈ cells) : emberGet (cells.foldl (fun m p => sset emberDefault m p.1 p.2) m) x = v := by
  induction cells generalizing m with
  | nil => cases h
  | cons p l ih =>
    obtain ⟨fresh, once⟩ := List.nodup_cons.mp once
    rw [List.foldl_cons]
    rcases List.mem_cons.mp h with rfl | h
    · rw [emberGet_foldl_ne l _ x fun q hq e => fresh (List.mem_map.mpr ⟨q, hq, e⟩)]
      exact sget_sset_self _ _ _ _
    · exact ih _ once h

section
variable (base : Sparse Byte) (sources : List (Sparse Byte))

theorem reconciled_counter {p : Nat × Nat} (hp : p ∈ emberCounters) :
    leNat (emberGet (reconciled base sources)) p.1 p.2 = mostOf sources p.1 p.2 := by
  have bytes : leNat (emberGet (reconciled base sources)) p.1 p.2 = leNat (bytesAt (leBytes (mostOf sources p.1 p.2) p.2)) 0 p.2 :=
    leNat_congr fun i hi => by
      rw [reconciled_eq, Nat.zero_add]
      exact emberGet_foldl_mem base (map_fst_reconciledCells sources ▸ nodup_reconciledAddresses) (counter_mem_cells hp hi)
  have bound : mostOf sources p.1 p.2 ≤ 256 ^ p.2 - 1 := (foldl_max_le_iff _ _ _ _).mpr
    ⟨Nat.zero_le _, fun m _ => by have := leNat_lt (emberGet m) p.1 p.2; omega⟩
  have pos : 0 < 256 ^ p.2 := Nat.pow_pos (by decide)
  rw [bytes, leNat_leBytes, Nat.mod_eq_of_lt (by omega)]

theorem reconciled_fence {x : Nat} (hx : x ∈ emberFences) : emberGet (reconciled base sources) x = everyOf sources x := by
  rw [reconciled_eq]
  exact emberGet_foldl_mem base (map_fst_reconciledCells sources ▸ nodup_reconciledAddresses) (fence_mem_cells hx)

theorem reconciled_other {x : Nat} (counters : ∀ p ∈ emberCounters, x < p.1 ∨ p.1 + p.2 ≤ x) (fences : x ∉ emberFences) :
    emberGet (reconciled base sources) x = emberGet base x := by
  rw [reconciled_eq]
  refine emberGet_foldl_ne _ _ _ fun q hq e => ?_
  have hx : x ∈ reconciledAddresses := by
    rw [← map_fst_reconciledCells sources]
    exact List.mem_map.mpr ⟨q, hq, e⟩
  rcases reconciledAddresses_subset x hx with h | ⟨p, hp, h1, h2⟩
  · exact fences h
  · have := counters p hp
    omega

end

/-! ### Step 2 -/

/-- The sources of step 2 that are valid: the store and its copies. -/
def validSources (d : Dev) (ok ok0 ok1 : Bool) : List (Sparse Byte) :=
  (if ok then [d.ember.store] else []) ++
    ((if ok0 then [d.ember.copy0] else []) ++ if ok1 then [d.ember.copy1] else []).map fun m => m.image

theorem mem_validSources {d : Dev} {ok ok0 ok1 : Bool} {m : Sparse Byte} : m ∈ validSources d ok ok0 ok1 ↔
    (ok = true ∧ m = d.ember.store) ∨ (ok0 = true ∧ m = d.ember.copy0.image) ∨ (ok1 = true ∧ m = d.ember.copy1.image) := by
  cases ok <;> cases ok0 <;> cases ok1 <;> simp [validSources]

section
variable {d : Dev} {env : ColdEnv} {ok ok0 ok1 : Bool} (hok : (d.ember.valid && emberFormed d.ember.store) = ok)
  (hok0 : (d.ember.copy0.intact && emberFormed d.ember.copy0.image && !env.badCopy0) = ok0)
  (hok1 : (d.ember.copy1.intact && emberFormed d.ember.copy1.image && !env.badCopy1) = ok1)
include hok hok0 hok1

theorem reconcile_none (h : ok = false) (h0 : ok0 = false) (h1 : ok1 = false) : d.reconcile env = none := by
  rw [Dev.reconcile]
  dsimp only
  rw [hok, hok0, hok1, h, h0, h1]
  rfl

/-- With a valid source step 2 reconciles the store over a base, which is a valid store. -/
theorem reconcile_some (h : ok = true ∨ ok0 = true ∨ ok1 = true) : ∃ base,
    (ok = true → base = d.ember.store) ∧
    d.reconcile env =
      let store := reconciled base (validSources d ok ok0 ok1)
      some (((({ d with ember := { store := store, copy0 := { image := store }, copy1 := { image := store } } } : Dev).putBit
        (aEm + rEmState) 1 (!ok)).putBit (aEm + rEmState) 2 (!(ok0 && ok1))).clrBit (aEm + rEmState) 3) := by
  rw [Dev.reconcile]
  dsimp only
  rw [hok, hok0, hok1]
  cases ok with
  | true => exact ⟨d.ember.store, fun _ => rfl, rfl⟩
  | false =>
    cases ok0 <;> cases ok1
    · simp at h
    · exact ⟨_, by simp, rfl⟩
    · exact ⟨_, by simp, rfl⟩
    · exact ⟨_, by simp, rfl⟩

end

theorem reconcile_flags (d : Dev) (a : Nat) (x y : Bool) :
    (((d.putBit a 1 x).putBit a 2 y).clrBit a 3).flag a 1 = x ∧ (((d.putBit a 1 x).putBit a 2 y).clrBit a 3).flag a 2 = y ∧
      (((d.putBit a 1 x).putBit a 2 y).clrBit a 3).flag a 3 = false := by
  rw [Dev.flag_clrBit _ _ _ _ (by decide), Dev.flag_clrBit _ _ _ _ (by decide), Dev.flag_clrBit _ _ _ _ (by decide),
    Dev.flag_putBit_ne _ _ _ _ _ (by decide) (by decide), Dev.flag_putBit_self _ _ _ _ (by decide), Dev.flag_putBit_self _ _ _ _ (by decide)]
  simp

/-- Settles O60: the reconciled store is read cell by cell, the cells being at different addresses. -/
theorem emberReconciled : Obligations.EmberReconciled := by
  intro env d ok ok0 ok1 used counters fences a
  obtain ⟨b, hb⟩ : ∃ b, (d.ember.valid && emberFormed d.ember.store) = b := ⟨_, rfl⟩
  obtain ⟨b0, hb0⟩ : ∃ b, (d.ember.copy0.intact && emberFormed d.ember.copy0.image && !env.badCopy0) = b := ⟨_, rfl⟩
  obtain ⟨b1, hb1⟩ : ∃ b, (d.ember.copy1.intact && emberFormed d.ember.copy1.image && !env.badCopy1) = b := ⟨_, rfl⟩
  have okIff : b = true ↔ ok := by simp [← hb, ok]
  have ok0Iff : b0 = true ↔ ok0 := by simp [← hb0, ok0, and_assoc]
  have ok1Iff : b1 = true ↔ ok1 := by simp [← hb1, ok1, and_assoc]
  have usedIff (m : Sparse Byte) : m ∈ validSources d b b0 b1 ↔ used m := by rw [mem_validSources, okIff, ok0Iff, ok1Iff]
  refine ⟨fun h h0 h1 => ?lost, fun h => ?found⟩
  case lost =>
    simp only [← okIff, ← ok0Iff, ← ok1Iff, Bool.not_eq_true] at h h0 h1
    exact reconcile_none hb hb0 hb1 h h0 h1
  case found =>
    rw [← okIff, ← ok0Iff, ← ok1Iff] at h
    have some_used : validSources d b b0 b1 ≠ [] := by
      rcases h with rfl | rfl | rfl <;> simp [validSources]
    obtain ⟨base, hbase, he⟩ := reconcile_some hb hb0 hb1 h
    have counter (p : Nat × Nat) (hp : p ∈ emberCounters) := reconciled_counter base (validSources d b b0 b1) hp
    have fence (x : Nat) (hx : x ∈ emberFences) := reconciled_fence base (validSources d b b0 b1) hx
    have other (x : Nat) (hc : ∀ p ∈ emberCounters, x < p.1 ∨ p.1 + p.2 ≤ x) (hf : x ∉ emberFences) :=
      reconciled_other base (validSources d b b0 b1) hc hf
    dsimp only at he
    generalize reconciled base (validSources d b b0 b1) = store at he counter fence other
    obtain ⟨f1, f2, f3⟩ := reconcile_flags { d with ember := { store := store, copy0 := { image := store }, copy1 := { image := store } } }
      (aEm + rEmState) (!b) (!(b0 && b1))
    refine ⟨_, he, ?_⟩
    rw [f1, f2, f3, Dev.clrBit_ember, Dev.putBit_ember, Dev.putBit_ember]
    refine ⟨rfl, rfl, rfl, fun p hp => ?counter, fun x hx j => ?fence, fun hv x hc hf => ?other, ?_, ?_, rfl⟩
    case counter =>
      dsimp only
      rw [counter p hp]
      obtain ⟨m, hm, hmax⟩ := exists_foldl_max (fun m => leNat (emberGet m) p.1 p.2) some_used
      exact ⟨fun m hm => le_mostOf ((usedIff m).mpr hm), m, (usedIff m).mp hm, hmax⟩
    case fence =>
      rw [fence x hx, everyOf, getLsbD_foldl_or]
      simp [usedIff]
    case other => rw [other x hc hf, hbase (okIff.mpr hv)]
    · simp [← okIff]
    · rw [Bool.not_eq_true', ← Bool.not_eq_true, Bool.and_eq_true, ok0Iff, ok1Iff]

end Sys2Proof.Machine
end

section
/-! PROOF. Admission, the end of a task, and the registration of images. -/

namespace Sys2Proof.Machine

/-- A register write is `f` of the device where its requester reaches the register. -/
theorem takesBy_of {who : Requester} {a : Nat} {i : Instr} {d e : Dev} (f : Dev → Dev)
    (run : ∀ s, exec i s = event (fun d => d.asked who a f) s) (h : f d = e) : TakesBy who a i d e :=
  takes_of _ run (by rw [Dev.asked, h])

/-- A register write whose effect leaves the device leaves it, whoever asks. -/
theorem takes_of_asked {who : Requester} {a : Nat} {i : Instr} {d : Dev} (f : Dev → Dev)
    (run : ∀ s, exec i s = event (fun d => d.asked who a f) s) (h : f d = d) : Takes i d d :=
  takes_of _ run (by rw [Dev.asked, h, ite_self])

/-! ### Messages at the head of the queues -/

/-- The message at the head of the queues is acted on when it is wanted. -/
theorem onMessage_head {d : Dev} {m : InMsg} {rest : List InMsg} {want : Mbt → Bool} {f : InMsg → Dev → Dev} (h : atHead d m rest)
    (wanted : want m.msg = true) : d.onMessage want f = f m (taken d rest) := by
  obtain ⟨hbox, hleft⟩ := h
  rw [Dev.onMessage, hbox]
  exact if_pos (by simp [wanted, hleft])

/-! ### Admission -/

section
variable {d : Dev} {m : InMsg} {busy : Bool} {ns : W32}

theorem submitReceived_poisoned (h : m.poison ≠ []) :
    Dev.submitReceived busy ns m d = d.sendVerdict m.msg.session m.msg.seq (verdictBody 0x6001 0xFFFF 0 0 0 0 []) :=
  if_pos (by simpa using h)

variable (sound : m.poison = [])
include sound

theorem submitReceived_malformed (h : submitOk m.msg.body = false) :
    Dev.submitReceived busy ns m d = d.reject m.msg.session m.msg.seq 0x6002 :=
  (if_neg (by simp [sound])).trans (if_pos (by simp [h]))

variable (formed : submitOk m.msg.body = true) {f : Dev} (hf : (if d.rd (aLl + rLlEvalMax) < ns then d.wr (aLl + rLlEvalMax) ns else d) = f)
include formed hf

/-- A well-formed SUBMIT raises the longest evaluation time, and is evaluated when an evaluator is free. -/
theorem submitReceived_formed : Dev.submitReceived busy ns m d =
    if busy && f.admitsWork then f.refuseSubmit m.msg.session m.msg.seq 0x100B else f.evaluate m := by
  subst hf
  exact (if_neg (by simp [sound])).trans (if_neg (by simp [formed]))

theorem submitReceived_unlit (h : f.admitsWork = false) : Dev.submitReceived busy ns m d = f.refuseSubmit m.msg.session m.msg.seq 0x100C := by
  have judged : f.judge m = (f, .refused 0x100C []) := if_pos (by simp [h])
  rw [submitReceived_formed sound formed hf, if_neg (by simp [h]), Dev.evaluate, judged]

theorem submitReceived_busy (h : f.admitsWork = true) (hb : busy = true) :
    Dev.submitReceived busy ns m d = f.refuseSubmit m.msg.session m.msg.seq 0x100B := by
  rw [submitReceived_formed sound formed hf, if_pos (by simp [h, hb])]

theorem submitReceived_judged (hb : busy = false) : Dev.submitReceived busy ns m d = f.evaluate m := by
  rw [submitReceived_formed sound formed hf, if_neg (by simp [hb])]

end

/-- Settles O21. -/
theorem submitIsAnswered : Obligations.SubmitIsAnswered := by
  intro d m rest busy ns head type request e f s
  have run (s : State) : exec (.submit busy ns) s =
    event (fun d => d.onMessage (fun m => m.type == 0x10 && !m.response) (Dev.submitReceived busy ns)) s := rfl
  have wanted : (m.msg.type == 0x10 && !m.msg.response) = true := by simp [type, request]
  have acts {e' : Dev} (h : Dev.submitReceived busy ns m e = e') : Takes (.submit busy ns) d e' :=
    takes_of _ run ((onMessage_head head wanted).trans h)
  refine ⟨fun hp => acts (submitReceived_poisoned hp), fun hp hm => acts (submitReceived_malformed hp hm), fun hp hok =>
    ⟨fun hw => acts (submitReceived_unlit hp hok rfl hw), fun hw hb => acts (submitReceived_busy hp hok rfl hw hb),
      fun g st rs hb hj => acts ?_, fun g im c rs hb hj => acts ?_⟩⟩
  · rw [submitReceived_judged hp hok (f := f) rfl hb, Dev.evaluate, hj]
  · rw [submitReceived_judged hp hok (f := f) rfl hb, Dev.evaluate, hj]

/-! ### The end of a task -/

@[simp] theorem Dev.writeCells_dt (d : Dev) (cells : List (Nat × Byte)) : (d.writeCells cells).dt = d.dt := by
  unfold Dev.writeCells
  dsimp only
  split <;> rfl

section
variable {d : Dev} {id : W32} {t : Task} (ht : d.task? id = some t)
include ht

theorem resultDigest_waits (h : t.written.isSome = true ∨ d.allWritten t = false) : d.resultDigest id = d := by
  rw [Dev.resultDigest, ht]
  exact if_pos (by simpa using h)

section
variable (unwritten : t.written = none) (all : d.allWritten t = true)
include unwritten all

theorem resultDigest_refused {st : Status} {post : Post} (h : d.digestCheck t.args = some (st, post)) :
    d.resultDigest id = (post id d).abortTask id st := by
  rw [Dev.resultDigest, ht]
  dsimp only
  rw [if_neg (by simp [unwritten, all]), h]

theorem resultDigest_written {dg : W64} {e : Dev} (h : d.digestCheck t.args = none)
    (hdg : BitVec.ofNat 64 (crc64 ((d.resultRanges t.args).flatMap d.bytesOf)) = dg)
    (he : (d.writeBytes (d.digestPlace t.args) (leBytes dg.toNat 8)).modTask id (fun t => { t with written := some (d.dt, dg) }) = e) :
    d.resultDigest id = ((if e.mirrorReady then e.sendRaw tether { type := 0x43, session := 0, body := digestBody id 0 dg e.dt }
      else e).settleDigest id).settleCopy id := by
  subst hdg he
  have time : (d.writeBytes (d.digestPlace t.args)
      (leBytes (BitVec.ofNat 64 (crc64 ((d.resultRanges t.args).flatMap d.bytesOf))).toNat 8)).dt = d.dt := Dev.writeCells_dt _ _
  rw [Dev.resultDigest, ht]
  dsimp only
  rw [if_neg (by simp [unwritten, all]), h]
  dsimp only
  rw [time]

end

theorem overrunCheck_eq : d.overrunCheck id = if d.late t && !t.overrun then d.markOverruns.abortYoungest else d := by
  rw [Dev.overrunCheck, ht]

theorem overrunDeadline_eq : d.overrunDeadline id = if d.late t && d.due t.deadline then d.markOverruns.abortOverrun id else d := by
  rw [Dev.overrunDeadline, ht]

theorem compareTimeout_eq {at_ dg : W64} (hw : t.written = some (at_, dg)) : d.compareTimeout id =
    if t.mirrored && t.twinDigest.isNone && decide (at_.toNat + d.fld (aTt + rTtCfg) 15 0 ≤ d.dt.toNat) && d.ttPrimary
    then d.countUnmirrored.sendDone t else d := by
  rw [Dev.compareTimeout, ht]
  dsimp only
  rw [hw]

end

theorem overrunNext_eq {d : Dev} {at_ : W64} (h : d.lamp.lastOverrun = some at_) :
    d.overrunNext = if at_.toNat + 8000 ≤ d.dt.toNat then d.abortYoungest else d := by
  rw [Dev.overrunNext, h]

/-- Settles O22. -/
theorem taskEnds : Obligations.TaskEnds := by
  intro id d t ht
  have digest (s : State) : exec (.resultDigest id) s = event (fun d => d.resultDigest id) s := rfl
  have check (s : State) : exec (.overrunCheck id) s = event (fun d => d.overrunCheck id) s := rfl
  have next (s : State) : exec .overrunNextAbort s = event Dev.overrunNext s := rfl
  refine ⟨fun hw all => ⟨fun st post h => ?refused, fun h => ?written⟩, fun h => takes_of _ digest (resultDigest_waits ht h),
    fun hl ho => takes_of _ check ((overrunCheck_eq ht).trans (if_pos (by simp [hl, ho]))),
    fun hl => takes_of _ check ((overrunCheck_eq ht).trans (if_neg (by simp [hl]))),
    fun at_ h reached => takes_of _ next ((overrunNext_eq h).trans (if_pos reached)),
    fun at_ h early => takes_of _ next ((overrunNext_eq h).trans (if_neg (by omega))), fun hl hd => ?deadline, fun w hw hm hd ht' hp => ?compare⟩
  case refused => exact takes_of _ digest (resultDigest_refused ht hw all h)
  case written => exact takes_of _ digest (resultDigest_written ht hw all h rfl rfl)
  case deadline =>
    exact takes_of _ (fun s => (rfl : exec _ s = execOverrunDeadlineAbort _ _)) ((overrunDeadline_eq ht).trans (if_pos (by simp [hl, hd])))
  case compare =>
    exact takes_of _ (fun s => (rfl : exec _ s = execCompareTimeout _ _)) ((compareTimeout_eq ht hw).trans (if_pos (by simp [hm, hd, ht', hp])))

/-! ### Registration -/

section
variable {d : Dev} (idle : d.regBusy = false)
include idle

theorem regStart_idle : d.regStart =
    ({ d with lamp := { d.lamp with job := some (d.rd64 (aLl + rLlRegAddr) % 2 ^ 48) } } : Dev).setBit (aLl + rLlState) 0 :=
  if_neg (by simp [idle])

theorem unregister_idle (h : Nat) : d.unregister h =
    if (d.image? h).isNone then d.regResult (d.fld (aLl + rLlRegResult) 15 0) 0x1006
    else if d.tasks.any fun t => t.image == h then d.regResult (d.fld (aLl + rLlRegResult) 15 0) 0x100E
    else { d with lamp := { d.lamp with images := sset (fun _ => none) d.lamp.images h none } }.regResult (d.fld (aLl + rLlRegResult) 15 0) 0 :=
  if_neg (by simp [idle])

end

theorem regCmd_unregister (d : Dev) (h : BitVec 16) : d.regCmd (2 + h.toNat * 2 ^ 16) = d.unregister h.toNat := by
  have op : (2 + h.toNat * 2 ^ 16) % 4 = 2 := by omega
  have handle : field (2 + h.toNat * 2 ^ 16) 31 16 = h.toNat := by
    have := h.isLt
    simp only [field]
    omega
  rw [Dev.regCmd, op, handle]
  rfl

section
variable {d : Dev} {a : Nat} (job : d.lamp.job = some a) {e : Dev}
  (he : ({ (d.readImage a).2 with lamp := { (d.readImage a).2.lamp with job := none } } : Dev) = e)
include job he

theorem regDone_invalid (h : (d.readImage a).1 = none) : d.regDone = e.regResult 0 0x1004 := by
  subst he
  rw [Dev.regDone, job]
  dsimp only
  rw [h]

theorem regDone_valid {m : Image} {i : Nat} (h : (d.readImage a).1 = some m)
    (lowest : ((upto 1024).find? fun j => (e.image? (j + 1)).isNone) = some i) (room : e.lamp.recordBytes + m.record.length ≤ 2 ^ 25) :
    d.regDone = (({ e with lamp := { e.lamp with images := sset (fun _ => none) e.lamp.images (i + 1) (some m) } } : Dev).notFresh).regResult
      (i + 1) 0 := by
  subst he
  rw [Dev.regDone, job]
  dsimp only
  rw [h]
  dsimp only
  rw [lowest]
  exact if_neg (Nat.not_lt.mpr room)

end

/-- Settles O23. -/
theorem imageRegistration : Obligations.ImageRegistration := by
  intro who h d free
  have register (s : State) : exec (.llRegRegister who) s = event (fun d => d.asked who (aLl + rLlRegCmd) fun d => d.regCmd 1) s := rfl
  have unregister (s : State) : exec (.llRegUnregister who h) s =
    event (fun d => d.asked who (aLl + rLlRegCmd) fun d => d.regCmd (2 + h.toNat * 2 ^ 16)) s := rfl
  have unregCmd (d : Dev) := regCmd_unregister d h
  refine ⟨fun idle => ⟨takesBy_of _ register (regStart_idle idle), fun h1 => takesBy_of _ unregister ?unknown,
    fun h1 h2 => takesBy_of _ unregister ?freed, fun h1 h2 => takesBy_of _ unregister ?used⟩,
    fun busy => ⟨takes_of_asked _ register (if_pos busy), takes_of_asked _ unregister ((unregCmd d).trans (if_pos busy))⟩,
    fun a job => ?done⟩
  case unknown => exact (unregCmd d).trans ((unregister_idle idle _).trans (if_pos (by simp [h1])))
  case freed =>
    refine (unregCmd d).trans ((unregister_idle idle _).trans ((if_neg ?_).trans (if_neg ?_)))
    · simpa [Option.isSome_iff_ne_none] using h1
    · simpa using h2
  case used =>
    refine (unregCmd d).trans ((unregister_idle idle _).trans ((if_neg ?_).trans (if_pos ?_)))
    · simpa [Option.isSome_iff_ne_none] using h1
    · simpa using h2
  case done =>
    have run (s : State) : exec .registrationDone s = event Dev.regDone s := rfl
    exact ⟨fun h => takes_of _ run (regDone_invalid job rfl h), fun m i h lowest room => takes_of _ run (regDone_valid job rfl h lowest room)⟩

end Sys2Proof.Machine
end

section
/-! PROOF. Stream channels at work, and remote transfers. -/

namespace Sys2Proof.Machine

theorem chanNo_div (r c : Fin 8) : chanNo r c / 8 = r.val := by
  simp only [chanNo]
  omega
theorem chanNo_mod (r c : Fin 8) : chanNo r c % 8 = c.val := by
  simp only [chanNo]
  omega

/-! ### Descriptors that start -/

/-- A descriptor that may start does, unless its coil makes it wait. -/
theorem descStart_of_startable {d : Dev} {i : Nat} {x : Desc} {t : Task} (h : startable d i x t) : d.descStart i =
    if x.raw.kind = 12 then (d.markStarted i x).remoteSettle i { x with started := true }
    else if x.raw.kind = 11 then (d.markStarted i x).runStages i t x (x.raw.stages.map d.rawAt)
    else if d.coilStarts (d.chan i) x (d.moved i t x.raw) then (d.markStarted i x).runStages i t x [x.raw]
    else d := by
  obtain ⟨next, ht, last, gate, clocked, running⟩ := h
  rw [Dev.descStart]
  rw [next]
  dsimp only
  rw [ht, if_neg]
  rw [last, clocked, running]
  cases hg : (d.chan i).gate with
  | none => simp
  | some k => simp [gate k hg]

/-- A transfer of one stage whose checks pass is performed. -/
theorem runStages_one {d : Dev} {i : Nat} {t : Task} {x : Desc} {r : Raw} {m : Moved} (hm : d.moved i t r = m)
    (reach : d.chanReach i m = none) (pass : m.checks d (.chan t.id) = none) :
    d.runStages i t x [r] =
      let f := d.perform i (.chan t.id) m
      let g := if r.coilUse = 2 then f.coilAdvance false r.coilRegion r.coil (r.n1 * r.n2 * r.len) else f
      (g.modDesc i x.addr fun y => { y with bytes := y.bytes + m.bytes, close := m.close, push := m.push }).modDesc i x.addr
        fun y => { y with moved := true } := by
  rw [Dev.runStages]
  dsimp only
  rw [hm, firstRefusal_cons_eq_none reach (firstRefusal_cons_eq_none pass rfl)]
  rfl

theorem runStages_refused {d : Dev} {i : Nat} {t : Task} {x : Desc} {r : Raw} {m : Moved} {st : Status} {post : Post} (hm : d.moved i t r = m)
    (refused : firstRefusal [d.chanReach i m, m.checks d (.chan t.id)] = some (st, post)) :
    d.runStages i t x [r] = (post t.id d).chanFault i t.id st := by
  rw [Dev.runStages]
  dsimp only
  rw [hm, refused]

theorem descriptorsStartHold : DescriptorsStartHold := by
  intro r c d x t h i e w
  have run (s : State) : exec (.descStart r c) s = event (fun d => d.descStart (chanNo r c)) s := rfl
  have start := descStart_of_startable h
  refine ⟨fun h11 h12 hc => ⟨fun st post refused => takes_of _ run (start.trans ?_), fun reach pass => takes_of _ run (start.trans ?_)⟩,
    fun h11 h12 hc => takes_of _ run (start.trans ?_), fun h11 => takes_of _ run (start.trans ?_), fun h12 => takes_of _ run (start.trans ?_)⟩
  · rw [if_neg h12, if_neg h11, if_pos hc]
    exact runStages_refused rfl refused
  · rw [if_neg h12, if_neg h11, if_pos hc]
    exact runStages_one rfl reach pass
  · rw [if_neg h12, if_neg h11, if_neg (ne_true_of_eq_false hc)]
  · rw [if_neg (by omega), if_pos h11]
  · rw [if_pos h12]

/-! ### Descriptors that complete -/

section
variable {d : Dev} {i : Nat} {x : Desc} {l : List Desc} (hq : (d.chan i).queue = x :: l)
include hq

theorem descComplete_waits (h : x.moved = false ∨ d.chanAdds i = true) : d.descComplete i = d := by
  rw [Dev.descComplete, hq]
  exact if_pos (by simpa using h)

variable (moved : x.moved = true) (added : d.chanAdds i = false)
include moved added

theorem descComplete_refused {st : Status} {post : Post} (h : d.completeCheck x = some (st, post)) :
    d.descComplete i = (post x.task d).chanFault i x.task st := by
  rw [Dev.descComplete, hq]
  dsimp only
  rw [if_neg (by simp [moved, added]), h]

theorem descComplete_passes (h : d.completeCheck x = none) : d.descComplete i =
    let d1 := match x.raw.kind, d.task? x.task with | 9, some t => d.closeLayer i t x | _, _ => d
    let d2 := if x.raw.coilUse = 1 then d1.coilAdvance true x.raw.coilRegion x.raw.coil x.push else d1
    let d3 := d2.descWrite x.task x.addr 0 x.bytes
    let d4 := if x.raw.ctl 1 then d3.setReached i x.raw.knot true else d3
    let d5 := if x.raw.ctl 2 then d4.arrive x.task x.raw.belay else d4
    (d5.inc64 (aSt (i / 8) (i % 8) + rStDescs) 1).modChan i fun ch => { ch with queue := l } := by
  rw [Dev.descComplete, hq]
  dsimp only
  rw [if_neg (by simp [moved, added]), h] <;> rfl

end

theorem descriptorsCompleteHold : DescriptorsCompleteHold := by
  intro r c d x l hq i d1 d2 d3 d4 d5
  have run (s : State) : exec (.descComplete r c) s = event (fun d => d.descComplete (chanNo r c)) s := rfl
  refine ⟨fun moved added pass => takes_of _ run ?_, fun st post moved added refused => takes_of _ run (descComplete_refused hq moved added refused),
    fun h => takes_of _ run (descComplete_waits hq h)⟩
  refine (descComplete_passes hq moved added pass).trans ?_
  rw [chanNo_div, chanNo_mod] <;> rfl

/-- Settles O25. -/
theorem streamDescriptors : Obligations.StreamDescriptors := ⟨descriptorsStartHold, descriptorsCompleteHold⟩

/-! ### Segments of a remote block -/

section
variable {d : Dev} {m : InMsg}

theorem segmentReceived_malformed (h : m.msg.body.length < 8 ∨ leNat (bytesAt m.msg.body) 2 2 ≠ 0) :
    Dev.segmentReceived m d = d.reject m.msg.session m.msg.seq 0x6002 :=
  if_pos (by simpa using h)

variable (long : 8 ≤ m.msg.body.length) (reserved : leNat (bytesAt m.msg.body) 2 2 = 0)
include long reserved

theorem segmentReceived_unknown (h : d.blockOfSegment m = none) : Dev.segmentReceived m d = d.inc64 (aMt + rMtDiscarded) 1 := by
  rw [Dev.segmentReceived]
  dsimp only
  rw [if_neg (by simp [reserved]; omega), h]

/-- A segment of a block in flight that is a status, or whose data fit the block. -/
theorem segmentReceived_block {i : Nat} {b : RemoteBlock} {x : Desc} {st : Nat} (h : d.blockOfSegment m = some (i, b))
    (hx : (d.chan i).remote = some x) (hst : (if m.poison.contains 0 then 0x6001 else leNat (bytesAt m.msg.body) 0 2) = st)
    (fits : st = 0 → leNat (bytesAt m.msg.body) 4 4 + (m.msg.body.drop 8).length ≤ 2 ^ x.raw.u 12 1) :
    Dev.segmentReceived m d = d.remoteSegment i x b st (leNat (bytesAt m.msg.body) 4 4) (m.msg.body.drop 8)
      ((m.poison.filter (0 < ·)).flatMap fun p => [2 * (p - 1), 2 * (p - 1) + 1]) := by
  rw [Dev.segmentReceived]
  dsimp only
  rw [if_neg (by simp [reserved]; omega), h]
  dsimp only
  rw [hx]
  dsimp only
  rw [hst, if_neg]
  simp only [Bool.and_eq_true, decide_eq_true_eq]
  exact fun ⟨h0, hlt⟩ => by have := fits h0; omega

end

section
variable {d : Dev} {i : Nat} {x : Desc} {b : RemoteBlock} {off : Nat} {data : List Byte} {poison : List Nat}

theorem remoteSegment_status {st : Nat} (h : st ≠ 0) : d.remoteSegment i x b st off data poison = (d.dropRemote i b).chanFault i x.task 0x200B :=
  if_pos h

theorem remoteSegment_refused {st : Status} {post : Post}
    (h : d.dataWrite (.chan x.task) (b.dst + off) data.length (narrowRun (b.dst + off) data.length) = some (st, post)) :
    d.remoteSegment i x b 0 off data poison = (post x.task d).chanFault i x.task st := by
  rw [Dev.remoteSegment]
  dsimp only
  rw [if_neg (by simp), h]

theorem remoteSegment_data
    (h : d.dataWrite (.chan x.task) (b.dst + off) data.length (narrowRun (b.dst + off) data.length) = none) :
    d.remoteSegment i x b 0 off data poison =
      let f := ((poison.foldl (fun f p => f.setMark (b.dst + off + 4 * p) 1) (d.putData (.chan x.task) (b.dst + off) data)).inc64
        (aSt (i / 8) (i % 8) + rStBytes) data.length).modDesc i x.addr fun y => { y with bytes := y.bytes + data.length }
      if b.left ≤ data.length then (f.dropRemote i b).remoteSettle i x
      else f.modChan i fun ch => { ch with remotes := ch.remotes.map fun y => if y = b then { y with left := y.left - data.length } else y } := by
  rw [Dev.remoteSegment]
  dsimp only
  rw [if_neg (by simp), h]

end

theorem remoteLate_eq {d : Dev} {i block : Nat} {x : Desc} {b : RemoteBlock} (hx : (d.chan i).remote = some x)
    (hb : ((d.chan i).remotes.find? fun y => y.block == block) = some b) :
    d.remoteLate i block = if b.limit.toNat ≤ d.dt.toNat then d.chanFault i x.task 0x200B else d := by
  rw [Dev.remoteLate, hx, hb]

theorem remoteBlocksHold : RemoteBlocksHold := by
  intro d m rest head e lost off data status marks
  refine ⟨fun type response => ?segment, fun r c block x b hx hb => ?limit⟩
  case segment =>
    have acts {e' : Dev} (h : Dev.segmentReceived m e = e') : Takes .dreadSegmentReceive d e' :=
      takes_of _ (fun s => (rfl : exec _ s = execDreadSegmentReceive _)) ((onMessage_head head (by simp [type, response])).trans h)
    refine ⟨fun h => acts (segmentReceived_malformed h), fun long reserved unknown => acts (segmentReceived_unknown long reserved unknown),
      fun i b x hb hx long reserved => ?_⟩
    intro done
    have received (st : Nat) (hst : status = st) (fits : st = 0 → off + data.length ≤ 2 ^ x.raw.u 12 1) :
        Dev.segmentReceived m e = e.remoteSegment i x b st off data marks := segmentReceived_block long reserved hb hx hst fits
    refine ⟨fun hs => acts ((received _ rfl fun h0 => absurd h0 hs).trans (remoteSegment_status hs)), fun hs fits =>
      ⟨fun st post refused => acts ((received 0 hs fun _ => fits).trans (remoteSegment_refused refused)),
        fun pass => acts ((received 0 hs fun _ => fits).trans (remoteSegment_data pass))⟩⟩
  case limit =>
    have run (s : State) : exec (.remoteLimitExpiry r c block) s = event (fun d => d.remoteLate (chanNo r c) block) s := rfl
    exact ⟨fun reached => takes_of _ run ((remoteLate_eq hx hb).trans (if_pos reached)),
      fun early => takes_of _ run ((remoteLate_eq hx hb).trans (if_neg (by omega)))⟩

/-! ### Remote writes to this module -/

section
variable {d : Dev} {i : Nat} {w : RemoteWrite} (hw : d.net.writes[i]? = some w)
include hw

theorem writeArrive_eq : d.writeArrive i =
    if w.checked then d
    else match d.arriveCheck w with
      | some (st, post) => ((post 0 d).dropWrite i).answerWrite w st 0
      | none =>
        let win := if inStore w.addr then (d.hitchCheck w.writer w.addr w.data.length).2.map fun k => (regionOf w.addr, k, d.winGen (regionOf w.addr) k)
          else none
        d.modWrite i fun w => { w with checked := true, win := win } := by
  rw [Dev.writeArrive, hw] <;> rfl

theorem writePerformed_unchecked (h : w.checked = false) : d.writePerformed i = d := by
  rw [Dev.writePerformed, hw]
  exact if_pos (by simp [h])

theorem writePerformed_checked (h : w.checked = true) : d.writePerformed i =
    let e := if w.done then d else (d.performWrite w).modWrite i fun w => { w with done := true }
    if e.twinPending w then e
    else if w.status ≠ 0 then (e.dropWrite i).answerWrite w w.status 0
    else (e.dropWrite i).answerWrite w (if w.poison.isEmpty then 0 else 0x6001) w.data.length := by
  rw [Dev.writePerformed, hw]
  exact if_neg (by simp [h])

end

theorem remoteWritesHold : RemoteWritesHold := by
  intro ix d w hw
  have arrive (s : State) : exec (.remoteWriteArrive ix) s = event (fun d => d.writeArrive ix) s := rfl
  have performed (s : State) : exec (.dwritePerformed ix) s = event (fun d => d.writePerformed ix) s := rfl
  refine ⟨fun hc => ⟨fun st post refused => takes_of _ arrive ?_, fun pass => takes_of _ arrive ?_⟩,
    fun hc => takes_of _ arrive ((writeArrive_eq hw).trans (if_pos hc)), fun hc => takes_of _ performed (writePerformed_unchecked hw hc),
    fun hc => ?_⟩
  · rw [writeArrive_eq hw, if_neg (ne_true_of_eq_false hc), refused]
  · rw [writeArrive_eq hw, if_neg (ne_true_of_eq_false hc), pass]
  · intro e
    exact ⟨fun hp => takes_of _ performed ((writePerformed_checked hw hc).trans (if_pos hp)),
      fun hp hs => takes_of _ performed ((writePerformed_checked hw hc).trans ((if_neg (ne_true_of_eq_false hp)).trans (if_neg (by simp [hs])))),
      fun hp hs => takes_of _ performed ((writePerformed_checked hw hc).trans ((if_neg (ne_true_of_eq_false hp)).trans (if_pos hs)))⟩

/-- Settles O26. -/
theorem remoteTransfers : Obligations.RemoteTransfers := ⟨remoteBlocksHold, remoteWritesHold⟩

end Sys2Proof.Machine
end

section
/-! PROOF. The region store's own events. -/

namespace Sys2Proof.Machine

/-! ### Register writes in a block that may be locked -/

section
variable {who : Requester} {a l : Nat} {i : Instr} {d e : Dev} (f : Dev → Dev)
  (run : ∀ s, exec i s = event (fun d => d.asked who a fun d => d.unlocked l f) s)
include run

theorem takesBy_unlocked (open_ : d.locked l = false) (h : f d = e) : TakesBy who a i d e :=
  takesBy_of _ run ((if_neg (by simp [open_])).trans h)

theorem takes_of_locked (h : d.locked l = true) : Takes i d d := takes_of_asked _ run (if_pos h)

theorem takes_of_unlocked_same (h : f d = d) : Takes i d d := takes_of_asked _ run (by rw [Dev.unlocked, h, ite_self])

end

/-! ### Correction and scrubbing -/

theorem storeError_outside {d : Dev} {a : Nat} (h : inStore (a / 4 * 4) = false ∨ d.groupOff (a / 4 * 4) = true) (u : Bool) (reader : W32) :
    d.storeError a u reader = d := if_pos (by rcases h with h | h <;> simp [h])

theorem storeError_inside {d : Dev} {a : Nat} (h : inStore (a / 4 * 4) = true) (powered : d.groupOff (a / 4 * 4) = false) (u : Bool)
    (reader : W32) : d.storeError a u reader = let w := a / 4 * 4
      if u then ((d.setMark w 2).noteStore w reader).abortTask reader 0x8003
      else (d.enterError (aErRn (regionOf w)) 128 0x800A 0x20 (bankOf w) w reader.toNat 0).modRegion (regionOf w)
        fun g => { g with writebacks := if g.writebacks.contains w then g.writebacks else g.writebacks ++ [w] } :=
  if_neg (by simp [h, powered])

theorem storeCorrectionHold : StoreCorrectionHold := by
  intro r b a reader d w q
  have ecc (u : Bool) (s : State) : exec (.storeEccError a u reader) s = event (fun d => d.storeError a u reader) s := rfl
  have back (s : State) : exec (.storeCorrectedWriteback r a) s = event (fun d => d.storeWriteback r a) s := rfl
  have scrub (s : State) : exec (.storeScrubLine r b) s = event (fun d => d.scrubLine r b) s := rfl
  refine ⟨fun inside powered => ⟨takes_of _ (ecc true) (storeError_inside inside powered true reader),
      takes_of _ (ecc false) (storeError_inside inside powered false reader)⟩,
    fun outside u => takes_of _ (ecc u) (storeError_outside outside u reader),
    fun waits => takes_of _ back (if_pos waits), fun waits => takes_of _ back (if_neg (by simp only [waits, Bool.false_eq_true, not_false_eq_true])), ?_⟩
  intro n line idle
  have idle_iff : (!d.flag (aRs r + rRnStScrubCtl) 0 || d.groupOff line || d.pilotOff r (b / 8)) = true ↔ idle := by
    simp only [idle, Bool.or_eq_true, Bool.not_eq_true', or_assoc]
  exact ⟨fun h => takes_of _ scrub (if_pos (idle_iff.mpr h)), fun h => takes_of _ scrub (if_neg (mt idle_iff.mp h))⟩

/-! ### Bank groups -/

theorem bgWrite_held {d : Dev} {r g : Nat} (powered : d.bgOff r g = false) (held : d.groupHeld r g = true) :
    d.bgWrite r g true = d.setBit (aRs r + rRnStSticky) 4 :=
  (if_neg (by simp [powered])).trans ((if_pos rfl).trans (if_pos held))

theorem bgWrite_off {d : Dev} {r g : Nat} (powered : d.bgOff r g = false) (free : d.groupHeld r g = false) :
    d.bgWrite r g true = ((d.eraseGroup r g).setBgOff r g true).setBgBusy r g false :=
  (if_neg (by simp [powered])).trans ((if_pos rfl).trans (if_neg (by simp [free])))

theorem bgWrite_on {d : Dev} {r g : Nat} (off : d.bgOff r g = true) : d.bgWrite r g false = (d.setBgOff r g false).setBgBusy r g true :=
  (if_neg (by simp [off])).trans (if_neg Bool.false_ne_true)

theorem bankGroupPowerHold : BankGroupPowerHold := by
  intro who r g v d
  have high (s : State) : exec (.rnBgOffWrite who r true v) s =
    event (fun d => d.asked who (aRs r + rRnBgOffHi) fun d => d.unlocked (aRs r) fun d => d.bgHiWrite r v.toNat) s := rfl
  have low (s : State) : exec (.rnBgOffWrite who r false v) s =
    event (fun d => d.asked who (aRs r + (rRnBgOffLo + 4)) fun d => d.unlocked (aRs r) fun d =>
      (d.bgLoWrite r ((d.lowFor who (aRs r + rRnBgOffLo)).toNat + v.toNat * 2 ^ 32)).endLow who (aRs r + rRnBgOffLo)) s := rfl
  have zero (s : State) : exec (.bgZeroDone r g) s =
    event (fun d => if d.bgBusy r g then (d.eraseGroup r g).setBgBusy r g false else d) s := rfl
  refine ⟨fun h => ⟨takesBy_unlocked _ high h rfl, takesBy_unlocked _ low h rfl⟩, fun h => fun | true => takes_of_locked _ high h | false => takes_of_locked _ low h,
    bgWrite_held, bgWrite_off, bgWrite_on, fun h => takes_of _ zero (if_pos h), fun h => takes_of _ zero (if_neg (by simp [h]))⟩

/-! ### Coils -/

section
variable {d : Dev} {r c v : Nat}

theorem coilCfgWrite_bad (h : d.coilHolders r c ≠ 0 ∨ coilBufferOk r (d.rd64 (coilBase r c) % 2 ^ 48) (field (v - field v 15 8 * 2 ^ 8) 7 2) = false) :
    d.coilCfgWrite r c v = d.setBit (aRs r + rRnStSticky) 3 := by
  rw [Dev.coilCfgWrite]
  dsimp only
  by_cases held : d.coilHolders r c ≠ 0
  · exact if_pos held
  · exact (if_neg held).trans (if_pos (by rw [h.resolve_left held]; rfl))

theorem coilCfgWrite_good (h : ¬ (d.coilHolders r c ≠ 0 ∨
      coilBufferOk r (d.rd64 (coilBase r c) % 2 ^ 48) (field (v - field v 15 8 * 2 ^ 8) 7 2) = false)) :
    d.coilCfgWrite r c v =
      let u := v - field v 15 8 * 2 ^ 8
      let e := d.wr (coilBase r c + 8) (BitVec.ofNat 32 u)
      if u % 4 = 3 && decide (16 < (e.retainedGroups r).length) then d.setBit (aRs r + rRnStSticky) 6
      else if u % 2 = 1 then ((e.wr64 (coilBase r c + 0x10) 0).wr64 (coilBase r c + 0x18) 0).coilBump r c
      else if d.coilEnabled r c then e.coilBump r c
      else e := by
  obtain ⟨free, fits⟩ := not_or.mp h
  rw [Dev.coilCfgWrite]
  dsimp only
  exact (if_neg free).trans (if_neg (by simpa using fits))

end

section
variable {d : Dev} {r c v : Nat}

/-- A base that a coil may not take. -/
def badBase (d : Dev) (r c x : Nat) : Prop :=
  d.coilHolders r c ≠ 0 ∨ coilBaseOk r x = false ∨ (d.coilEnabled r c = true ∧ coilBufferOk r x (d.fld (coilBase r c + 8) 7 2) = false)

theorem coilBaseWrite_eq : d.coilBaseWrite r c v =
    let x := v % 2 ^ 48
    if d.coilHolders r c ≠ 0 || !coilBaseOk r x || (d.coilEnabled r c && !coilBufferOk r x (d.fld (coilBase r c + 8) 7 2)) then
      d.setBit (aRs r + rRnStSticky) 3
    else if 16 < ((d.wr64 (coilBase r c) x).retainedGroups r).length then d.setBit (aRs r + rRnStSticky) 6 else d.wr64 (coilBase r c) x := rfl

theorem badBase_iff {x : Nat} : badBase d r c x ↔
    (d.coilHolders r c ≠ 0 || !coilBaseOk r x || (d.coilEnabled r c && !coilBufferOk r x (d.fld (coilBase r c + 8) 7 2))) = true := by
  simp [badBase, or_assoc]

end

theorem coilConfigurationHold : CoilConfigurationHold := by
  intro who r c v base d b u e bad many
  have write (s : State) : exec (.rnCoilCfgWrite who r c v) s =
    event (fun d => d.asked who (aRs r + rRnCoilCfg + 32 * c) fun d => d.unlocked (aRs r) fun d => d.coilCfgWrite r c v.toNat) s := rfl
  have both : (u % 4 = 3 && decide (16 < (e.retainedGroups r).length)) = true ↔ many := by
    rw [Bool.and_eq_true, decide_eq_true_eq, decide_eq_true_eq]
  refine ⟨fun h => takes_of_locked _ write h, fun h => ⟨fun hb => takesBy_unlocked _ write h (coilCfgWrite_bad hb),
    fun hb hm => takesBy_unlocked _ write h ((coilCfgWrite_good hb).trans (if_pos (both.mpr hm))), fun hb hm => ?_⟩, ?_⟩
  · have few {x : Dev} (hx : _ = x) := takesBy_unlocked _ write h ((coilCfgWrite_good hb).trans ((if_neg (mt both.mp hm)).trans hx))
    exact ⟨fun on => few (if_pos on), fun off was => few ((if_neg (by omega)).trans (if_pos was)),
      fun off was => few ((if_neg (by omega)).trans (if_neg (by simp [was])))⟩
  · intro x no
    have no_iff := badBase_iff (d := d) (r := r) (c := c) (x := x)
    exact ⟨fun h => coilBaseWrite_eq.trans (if_pos (no_iff.mp h)), fun h many => coilBaseWrite_eq.trans ((if_neg (mt no_iff.mpr h)).trans (if_pos many)),
      fun h few => coilBaseWrite_eq.trans ((if_neg (mt no_iff.mpr h)).trans (if_neg (Nat.not_lt.mpr few)))⟩

/-! ### Windows of the host -/

theorem hostWindowsHold : HostWindowsHold := by
  intro who r k d b base ok
  have opens (s : State) : exec (.hitchCmdOpen who r k) s =
    event (fun d => d.asked who (aRs r + rRnHitchCmd + 64 * k) fun d => d.unlocked (aRs r) fun d => d.hostOpen r k) s := rfl
  have closes (s : State) : exec (.hitchCmdClose who r k) s =
    event (fun d => d.asked who (aRs r + rRnHitchCmd + 64 * k) fun d => d.unlocked (aRs r) fun d => d.hostClose r k) s := rfl
  have ok_iff : (!d.winOpen r k && inStore base && regionOf base == r.val &&
      d.winMayOpen base (d.winLen r k) (d.winWriters r k) (d.fld (b + 12) 31 24) (d.fld (b + 16) 31 16) (d.rd64 (b + 24))) = true ↔ ok := by
    simp [ok, and_assoc]
  refine ⟨fun h => ⟨takes_of_locked _ opens h, takes_of_locked _ closes h⟩, fun h =>
    ⟨fun hok => takesBy_unlocked _ opens h (if_pos (ok_iff.mpr hok)), fun hok => takesBy_unlocked _ opens h (if_neg (mt ok_iff.mp hok)),
      fun is mine => takesBy_unlocked _ closes h (if_pos (by simp [is, mine])), fun no => takes_of_unlocked_same _ closes (if_neg ?_)⟩⟩
  rcases no with h | h <;> simp [h]

/-! ### Burst limits -/

/-- RN_ST_STICKY.5 where the arbiter at `a` is that of a region's store unit. -/
def storeSticky (place : Option Nat) (a : Nat) (g : Dev) (on : Bool) : Dev := match place with
  | some r => if a = aArRn r then (if on then g.setBit (aRs r + rRnStSticky) 5 else g.clrBit (aRs r + rRnStSticky) 5) else g
  | none => g

section
variable {d : Dev} {a n : Nat} {place : Option Nat} (arbiter : arbiterAt a = some (place, n))
include arbiter

theorem burstWrite_eq (v : Nat) : d.burstWrite a v =
    let ids := (d.tasks.filter fun t => match place with | none => true | some r => t.inRegion r).map fun t => t.id
    let e := (d.setFld a 7 0 v).setBit (a + 4) 8
    storeSticky place a { e with burstWait := sset (fun _ => []) e.burstWait a ids } true := by
  rw [Dev.burstWrite, arbiter]
  cases place <;> rfl

theorem burstEffect_eq : d.burstEffect a =
    if !d.flag (a + 4) 8 || (sget (fun _ => []) d.burstWait a).any fun i => (d.task? i).isSome then d
    else
      let done := (d.setFld (a + 4) 7 0 (d.fld a 7 0)).clrBit (a + 4) 8
      storeSticky place a { done with burstWait := sset (fun _ => []) done.burstWait a [] } false := by
  rw [Dev.burstEffect, arbiter]
  cases place <;> rfl

end

theorem burstLimitsHold : BurstLimitsHold := by
  intro who addr v d place n arbiter a ids e f store done
  have write (s : State) : exec (.arCtlWrite who addr v) s =
    event (fun d => d.asked who addr.toNat fun d => d.unlocked addr.toNat fun d => d.burstWrite addr.toNat v.toNat) s := rfl
  have effect (s : State) : exec (.burstLimitEffect addr) s = event (fun d => d.burstEffect addr.toNat) s := rfl
  refine ⟨fun h => takesBy_unlocked _ write h ((burstWrite_eq arbiter _).trans ?_), fun h => takes_of_locked _ write h, fun pending ended =>
    takes_of _ effect ((burstEffect_eq arbiter).trans ((if_neg ?_).trans ?_)), fun waits => takes_of _ effect ((burstEffect_eq arbiter).trans (if_pos ?_))⟩
  · cases place <;> rfl
  · have flag : d.flag (addr.toNat + 4) 8 = true := pending
    simpa [flag] using ended
  · cases place <;> rfl
  · simpa using waits

/-- Settles O27. -/
theorem regionUpkeep : Obligations.RegionUpkeep :=
  ⟨storeCorrectionHold, bankGroupPowerHold, coilConfigurationHold, hostWindowsHold, burstLimitsHold⟩

end Sys2Proof.Machine
end

section
/-! PROOF. The piles' own events. -/

namespace Sys2Proof.Machine

/-! ### Refresh, patrol and errors -/

section
variable {d : Dev} {a : Nat}

theorem pileCrc_unready (h : inPile a = false ∨ d.pileReady (regionOf a) = false) (again : Bool) (reader : W32) :
    d.pileCrc a again reader = d := if_pos (by rcases h with h | h <;> simp [h])

theorem pileCrc_ready (h : inPile a = true) (ready : d.pileReady (regionOf a) = true) (again : Bool) (reader : W32) :
    d.pileCrc a again reader =
      let e := d.inc64 (aPl (regionOf a) + rPlLinkRetries) 1
      if !again then e
      else ((if reader = 0 then e.modPile (regionOf a) fun p => { p with lost := a :: p.lost } else e).notePile a 3 false reader).abortTask reader 0x8004 :=
  if_neg (by simp [h, ready])

theorem pileEcc_unready (h : inPile (a / 8 * 8) = false ∨ d.pileReady (regionOf (a / 8 * 8)) = false) (kind : Nat) (scrub : Bool) (reader : W32) :
    d.pileEcc a kind scrub reader = d := if_pos (by rcases h with h | h <;> simp [h])

theorem pileEcc_ready (h : inPile (a / 8 * 8) = true) (ready : d.pileReady (regionOf (a / 8 * 8)) = true) (kind : Nat) (scrub : Bool)
    (reader : W32) : d.pileEcc a kind scrub reader = let w := a / 8 * 8
      match kind with
      | 0 => d.inc64 (aPl (regionOf w) + rPlLayerFixes) 1
      | 1 => (d.notePile w 1 scrub reader).modPile (regionOf w)
          fun p => { p with writebacks := if p.writebacks.contains w then p.writebacks else p.writebacks ++ [w] }
      | _ => (((d.setMark w 2).setMark (w + 4) 2).notePile w 2 scrub reader).abortTask reader 0x8004 :=
  if_neg (by simp [h, ready])

theorem pileScrub_idle {n c : Nat} (h : d.flag (aPl n + rPlScrubCtl) 0 = false ∨ d.pileReady n = false) : d.pileScrub n c = d :=
  if_pos (by rcases h with h | h <;> simp [h])

end

theorem not_idle {on ready : Bool} (h : on = true) (h' : ready = true) : ¬ ((!on || !ready) = true) := by simp [h, h']

/-- Settles O28. -/
theorem pileUpkeep : Obligations.PileUpkeep := by
  intro p b row c d n
  have refresh (s : State) : exec (.pileRefresh p b) s = event (fun d => d.pileRefresh p b) s := rfl
  have rows (s : State) : exec (.pileNeighbourRefresh p b row) s = event (fun d => d.pileNeighbours p b row) s := rfl
  have scrub (s : State) : exec (.pileScrubUnit p c) s = event (fun d => d.pileScrub p c) s := rfl
  refine ⟨fun ready => ⟨takes_of _ refresh (if_pos ready), takes_of _ rows (if_pos ready), fun on => takes_of _ scrub (if_neg (not_idle on ready))⟩,
    fun unready => ⟨takes_of _ refresh (if_neg (Bool.eq_false_iff.mp unready)), takes_of _ rows (if_neg (Bool.eq_false_iff.mp unready)), takes_of _ scrub (pileScrub_idle (.inr unready))⟩,
    fun off => takes_of _ scrub (pileScrub_idle (.inl off)), ?_⟩
  intro a scrubbed reader w
  have crc (again : Bool) (x : W32) (s : State) : exec (.pileCrcFail a again x) s = event (fun d => d.pileCrc a again x) s := rfl
  have ecc (k : Fin 3) (s : State) : exec (.pileEccError a k scrubbed reader) s = event (fun d => d.pileEcc a k scrubbed reader) s := rfl
  refine ⟨fun inside ready => ⟨takes_of _ (crc false reader) (pileCrc_ready inside ready false reader),
      fun some => takes_of _ (crc true reader) ((pileCrc_ready inside ready true reader).trans ?_),
      takes_of _ (crc true 0) (pileCrc_ready inside ready true 0)⟩,
    fun h again => takes_of _ (crc again reader) (pileCrc_unready h again reader),
    fun inside ready => ⟨takes_of _ (ecc 0) (pileEcc_ready inside ready 0 scrubbed reader),
      takes_of _ (ecc 1) (pileEcc_ready inside ready 1 scrubbed reader), takes_of _ (ecc 2) (pileEcc_ready inside ready 2 scrubbed reader)⟩,
    fun h k => takes_of _ (ecc k) (pileEcc_unready h k scrubbed reader)⟩
  exact congrArg (fun e : Dev => (e.notePile a 3 false reader).abortTask reader 0x8004) (if_neg some)

/-! ### Near-memory operations -/

theorem nmoWrite_closed {d : Dev} {n : Nat} (h : d.nmoClosed n = true) (f : Dev → Dev) : d.nmoWrite n f = d.setBit (aPl n + rPlSticky) 4 :=
  if_pos h

theorem nmoWrite_open {d : Dev} {n : Nat} (h : d.nmoClosed n = false) (f : Dev → Dev) : d.nmoWrite n f = f d := if_neg (by simp [h])

theorem nmoDone_none {d : Dev} {n : Nat} (h : (d.pile n).nmo = none) : d.nmoDone n = d := by
  rw [Dev.nmoDone, h]

/-- Settles O29. -/
theorem nearMemoryOperations : Obligations.NearMemoryOperations := by
  intro who p d n start refused
  have fill (s : State) : exec (.nmoFill who p) s = event (fun d => d.asked who (aPl p + rPlNmoOp) fun d => d.nmoOp p 1) s := rfl
  have copy (s : State) : exec (.nmoCopy who p) s = event (fun d => d.asked who (aPl p + rPlNmoOp) fun d => d.nmoOp p 2) s := rfl
  have compact (s : State) : exec (.nmoCompact who p) s = event (fun d => d.asked who (aPl p + rPlNmoOp) fun d => d.nmoOp p 3) s := rfl
  have expand (s : State) : exec (.nmoExpand who p) s = event (fun d => d.asked who (aPl p + rPlNmoOp) fun d => d.nmoOp p 4) s := rfl
  have other (op : Fin 3) (s : State) : exec (.nmoRefusedOp who p op) s =
    event (fun d => d.asked who (aPl p + rPlNmoOp) fun d => d.nmoOp p (5 + op.val)) s := rfl
  have done (s : State) : exec (.nmoDone p) s = event (fun d => d.nmoDone p) s := rfl
  refine ⟨fun ready => ?_, fun closed => ?_, fun idle => takes_of _ done (nmoDone_none idle), fun op runs => takes_of _ done ?_⟩
  · exact ⟨takesBy_of _ fill (nmoWrite_open ready _), takesBy_of _ copy (nmoWrite_open ready _), takesBy_of _ compact (nmoWrite_open ready _),
      takesBy_of _ expand (nmoWrite_open ready _), fun op => takesBy_of _ (other op) ((nmoWrite_open ready _).trans
        ((if_neg (by omega)).trans (if_neg (by omega))))⟩
  · exact ⟨takesBy_of _ fill (nmoWrite_closed closed _), takesBy_of _ copy (nmoWrite_closed closed _), takesBy_of _ compact (nmoWrite_closed closed _),
      takesBy_of _ expand (nmoWrite_closed closed _), fun op => takesBy_of _ (other op) (nmoWrite_closed closed _)⟩
  · rw [Dev.nmoDone, runs] <;> rfl

end Sys2Proof.Machine
end

section
/-! PROOF. Frames, ports and links. -/

namespace Sys2Proof.Machine

/-! ### The checks that every frame meets -/

theorem eq_of_takes {i : Instr} {d e : Dev} (f : Dev → Dev) (run : ∀ s, exec i s = event f s) (h : Takes i d e) : f d = e := by
  have := h none []
  rw [run] at this
  simpa [event] using this

/-- What a frame's size and addresses must be. -/
def fitsPort (c : Dev) (e : Envelope) (groups : List Nat) : Prop :=
  64 ≤ e.size ∧ e.size ≤ c.fld (aEt e.port + rEtMode) 17 4 ∧
    (c.ownMac e.port e.dstMac = true ∨ groups.contains e.dstMac.toNat = true) ∧ (c.flag (aEt e.port + rEtMode) 2 = false → e.sec = none)

section
variable {d : Dev} {e : Envelope} (groups : List Nat) (clear : Bool)

theorem frameIn_down (h : d.flag (aEt e.port + rEtState) e.sub = false) : d.frameIn e groups clear = (false, d) :=
  if_pos (by rw [h]; rfl)

section
variable {groups clear} (up : d.flag (aEt e.port + rEtState) e.sub = true)
include up

theorem frameIn_badFcs (h : e.fcsOk = false) : d.frameIn e groups clear = (false, (d.countFec e).inc64 (aEt e.port + rEtFcsErrors) 1) :=
  (if_neg (by simp [up])).trans (if_pos (by simp [h]))

variable (fcs : e.fcsOk = true)
include fcs

theorem frameIn_unfit (h : ¬ fitsPort (d.countFec e) e groups) : d.frameIn e groups clear = (false, d.countFec e) := by
  refine (if_neg (by simp [up])).trans ((if_neg (by simp [fcs])).trans ?_)
  by_cases bad : (e.size < 64 || (d.countFec e).fld (aEt e.port + rEtMode) 17 4 < e.size ||
      !((d.countFec e).ownMac e.port e.dstMac || groups.contains e.dstMac.toNat)) = true
  · exact if_pos bad
  · refine (if_neg bad).trans (if_pos ?_)
    simp only [Bool.or_eq_true, decide_eq_true_eq, Bool.not_eq_true', Bool.not_eq_false, not_or, Nat.not_lt] at bad
    have tagged := fun plain => h ⟨bad.1.1, bad.1.2, bad.2, plain⟩
    simpa [Option.isSome_iff_ne_none] using tagged

theorem frameIn_fits (h : fitsPort (d.countFec e) e groups) : d.frameIn e groups clear =
    match (d.countFec e).macsecCheck e clear with
    | none => (false, (d.countFec e).macsecDrop e.port)
    | some g => (g.vidOk e, g) := by
  obtain ⟨big, small, address, plain⟩ := h
  refine (if_neg (by simp [up])).trans ((if_neg (by simp [fcs])).trans ((if_neg ?_).trans (if_neg ?_)))
  · simp only [Bool.or_eq_true, decide_eq_true_eq, Bool.not_eq_true', Bool.not_eq_false, not_or, Nat.not_lt]
    exact ⟨⟨big, small⟩, address⟩
  · simpa [Option.isSome_iff_ne_none] using plain

end

theorem frameIn_passes {groups clear} {g : Dev} (h : Passes d e groups clear g) : d.frameIn e groups clear = (g.vidOk e, g) := by
  obtain ⟨up, fcs, big, small, address, plain, sec⟩ := h
  rw [frameIn_fits up fcs ⟨big, small, address, plain⟩, sec]

/-- An event that leaves to a dropped frame what its checks count is filtered. -/
theorem filtered_of {i : Instr} {groups clear} (f : Dev → Dev) (run : ∀ s, exec i s = event f s)
    (drops : (d.frameIn e groups clear).1 = false → f d = (d.frameIn e groups clear).2) : Filtered i d e groups clear := by
  have dropped {g : Dev} (h : d.frameIn e groups clear = (false, g)) : Takes i d g :=
    takes_of f run ((drops (by rw [h])).trans (by rw [h]))
  refine ⟨fun down => dropped (frameIn_down _ _ down), fun up => ⟨fun fcs => dropped (frameIn_badFcs up fcs),
    fun fcs unfit => dropped (frameIn_unfit up fcs unfit), fun fcs fits refused => dropped ?_⟩, fun g passes vid => dropped ?_⟩
  · rw [frameIn_fits up fcs fits, refused]
    rfl
  · rw [frameIn_passes passes, vid]

theorem onFrame_dropped {groups} {f : Dev → Dev} (h : (d.frameIn e groups).1 = false) : d.onFrame e groups f = (d.frameIn e groups).2 :=
  if_neg (by simp [h])

theorem onFrame_passes {groups} {g : Dev} (h : Passes d e groups false g) (vid : g.vidOk e = true) (f : Dev → Dev) : d.onFrame e groups f = f g := by
  rw [Dev.onFrame, frameIn_passes h]
  exact if_pos vid

theorem ptpMessage_passes {tr : Nat} {g : Dev} (h : Passes d e (ptpGroups tr) true g) (vid : g.vidOk e = true) (bs : List Byte) :
    d.ptpMessage e tr bs = g.ptpIn e.port tr bs := by
  rw [Dev.ptpMessage, frameIn_passes h]
  exact if_pos vid

end

theorem frameReceive_datagram {d : Dev} {f : Frame} (h : ¬ (f.dstPort = 319 ∨ f.dstPort = 320)) :
    d.frameReceive f = d.onFrame f.toEnvelope [] fun d => d.datagramIn f := if_neg (by simpa using h)

theorem frameChecksHold : FrameChecksHold := by
  intro e f t4 s4 t6 s6 mac x data y cs quanta d
  have receive (s : State) : exec (.frameReceive f) s = event (fun d => d.frameReceive f) s := rfl
  have arp (s : State) : exec (.arpRequest e t4 s4 mac) s =
    event (fun d => d.onFrame e [0xFFFFFFFFFFFF] fun d => d.arpAsked e.port t4 s4 mac) s := rfl
  have nd (s : State) : exec (.neighbourSolicit e t6 s6 mac) s =
    event (fun d => d.onFrame e (ndGroups t6) fun d => d.ndAsked e.port t6 s6 mac) s := rfl
  have echo (s : State) : exec (.icmpEcho x t6 s6 data) s =
    event (fun d => d.onFrame x.toEnvelope [] fun d => d.echoAsked x.port x.oddIp t6 s6 data) s := rfl
  have pause (s : State) : exec (.pauseReceive e cs quanta) s =
    event (fun d => d.onFrame e [0x0180C2000001] fun d => d.pauseReceive e.port cs quanta) s := rfl
  have ptp (s : State) : exec (.ptpMessage y data) s = event (fun d => d.ptpMessage y.toEnvelope y.transport data) s := rfl
  refine ⟨fun h319 h320 => filtered_of _ receive fun h => (frameReceive_datagram (not_or.mpr ⟨h319, h320⟩)).trans (onFrame_dropped h),
    filtered_of _ arp onFrame_dropped, filtered_of _ nd onFrame_dropped, filtered_of _ echo onFrame_dropped, filtered_of _ pause onFrame_dropped,
    filtered_of _ ptp fun h => if_neg (by simp [h]), rfl, fun clear macsec => ⟨fun plain => ?plain, fun t tagged => ?tagged⟩⟩
  case plain =>
    rw [Dev.macsecCheck, if_pos macsec, plain]
    simp
  case tagged =>
    intro a good
    have check : d.macsecCheck e clear = if good then some (d.wr64 a ((t.pn.toNat + 1) % 2 ^ 64)) else none := by
      rw [Dev.macsecCheck, if_pos macsec, tagged]
      simp [good, a, and_assoc]
    exact ⟨fun h => check.trans (if_pos h), fun h => check.trans (if_neg h)⟩

/-! ### Delivery, the receive queues and pauses -/

section
variable {g : Dev} {f : Frame}

theorem datagramIn_dropped (h : g.frameAccepted f = false) : g.datagramIn f = g := if_pos (by simp [h])

variable (accepted : g.frameAccepted f = true)
include accepted

theorem datagramIn_broken (h : mbtParse f.data = none) : g.datagramIn f = (g.inc64 (aMt + rMtCheckFails) 1).setBit (aMt + rMtSticky) 0 := by
  refine (if_neg (by simp [accepted])).trans ?_
  rw [h]

theorem datagramIn_parsed {m : Mbt} (h : mbtParse f.data = some m) : g.datagramIn f =
    if rqSize < g.rqLevel f.port + 8 * ceilDiv m.body.length 8 then (g.inc64 (aEt f.port + rEtRqDrops) 1).setBit (aEt f.port + rEtSticky) 1
    else g.deliver { port := f.port, msg := m, left := ceilDiv m.body.length 8, arrived := g.dt, protect := f.sec.isSome,
                     src := f.src, srcUdp := f.srcPort, dst := f.dst } := by
  refine (if_neg (by simp [accepted])).trans ?_
  rw [h]

end

theorem frameReceive_ptp {d : Dev} {f : Frame} (toPtp : f.dstPort = 319 ∨ f.dstPort = 320) (whole : f.oddIp = false) (sum : f.checksumOk = true)
    (goes : d.answersFor f.port f.dst = true ∨ f.dst = ptpAddr (if ipIsV4 f.dst then 1 else 2) false ∨
      f.dst = ptpAddr (if ipIsV4 f.dst then 1 else 2) true) :
    d.frameReceive f = d.ptpMessage f.toEnvelope (if ipIsV4 f.dst then 1 else 2) f.data :=
  (if_pos (by simpa using toPtp)).trans (if_neg (by
    rw [whole, sum]
    simp only [Bool.not_true, Bool.or_false, Bool.false_or, Bool.not_eq_true', Bool.not_eq_false, Bool.or_eq_true, beq_iff_eq]
    exact or_assoc.mpr goes))

theorem pauseReceive_up {d : Dev} {p : Nat} (up : d.portUp p = true) (cs : BitVec 8) (quanta : BitVec 16) : d.pauseReceive p cs quanta =
    ((d.modPort p fun q => { q with paused := if quanta = 0 then q.paused &&& ~~~ cs else q.paused ||| cs }).inc64 (aEt p + rEtPausesReceived) 1).flushHeld p :=
  if_pos up

theorem framesAndPausesHold : FramesAndPausesHold := by
  intro f p env cs quanta d a toPtp
  have receive (s : State) : exec (.frameReceive f) s = event (fun d => d.frameReceive f) s := rfl
  have drain (bad : Bool) (s : State) : exec (.rqDrainWord p bad) s = event (fun d => d.rqDrain p bad) s := rfl
  have repeat_ (s : State) : exec (.pfcRepeat p) s = event (fun d =>
    if d.xoff p && decide (65536 * d.fld (aEt p + rEtRqCfg) 14 8 ≤ d.rqLevel p) then d.sendPfc p (d.fld (aEt p + rEtPfc) 31 16) else d) s := rfl
  have pause (s : State) : exec (.pauseReceive env cs quanta) s =
    event (fun d => d.onFrame env [0x0180C2000001] fun d => d.pauseReceive env.port cs quanta) s := rfl
  refine ⟨fun other e passes vid => ?_, fun isPtp whole sum tr htr goes e taken => takes_of _ receive ?_,
    fun bad some => takes_of _ (drain bad) (if_neg some), fun bad none_ => takes_of _ (drain bad) (if_pos none_),
    fun held high => takes_of _ repeat_ (if_pos (by simp [held, high])), fun off => takes_of _ repeat_ (if_neg ?_), fun e passes vid up => ?_,
    takes_of _ (fun s => (rfl : exec _ s = execPauseQuantaExpiry _ _ _)) rfl⟩
  · have datagram {e' : Dev} (h : e.datagramIn f = e') : Takes (.frameReceive f) d e' :=
      takes_of _ receive ((frameReceive_datagram other).trans ((onFrame_passes passes vid _).trans h))
    exact ⟨fun dropped => datagram (datagramIn_dropped dropped), fun ok broken => datagram (datagramIn_broken ok broken),
      fun m ok parsed => ⟨fun full => datagram ((datagramIn_parsed ok parsed).trans (if_pos full)),
        fun room => datagram ((datagramIn_parsed ok parsed).trans (if_neg (Nat.not_lt.mpr room)))⟩⟩
  · rw [htr] at goes
    refine (frameReceive_ptp isPtp whole sum goes).trans ?_
    rw [← htr]
    have ptp (s : State) : exec (.ptpMessage { toEnvelope := f.toEnvelope, transport := tr } f.data) s =
      event (fun d => d.ptpMessage f.toEnvelope tr f.data) s := rfl
    exact eq_of_takes _ ptp taken
  · rcases off with h | h
    · simp [h]
    · exact fun c => absurd (of_decide_eq_true (Bool.and_eq_true_iff.mp c).2) (Nat.not_le.mpr h)
  · have paused {e' : Dev} (h : e.pauseReceive env.port cs quanta = e') : Takes (.pauseReceive env cs quanta) d e' :=
      takes_of _ pause ((onFrame_passes passes vid _).trans h)
    intro n
    refine ⟨fun some => paused ((pauseReceive_up up cs quanta).trans ?_), fun none_ => paused ((pauseReceive_up up cs quanta).trans ?_)⟩
    · simp only [if_neg some, n]
    · simp only [if_pos none_, n]

/-- Settles O31. -/
theorem framesAndPauses : Obligations.FramesAndPauses := ⟨frameChecksHold, framesAndPausesHold⟩

/-! ### Answers of a port, and links -/

theorem linkUp_refused {d : Dev} {p sub : Nat} (h : d.fld (aEt p + rEtMode) 1 0 = 0 ∨ d.fld (aEt p + rEtMode) 1 0 = 3 ∨
    (d.fld (aEt p + rEtMode) 1 0 = 1 ∧ sub = 1) ∨ d.fld (aPw + rPwState) 2 0 = 0 ∨ d.fld (aPw + rPwState) 2 0 = 4) : d.linkUp p sub = d := by
  refine if_pos ?_
  simp only [List.contains_cons, List.contains_nil, Bool.or_eq_true, Bool.and_eq_true, decide_eq_true_eq, beq_iff_eq, Bool.or_false]
  rcases h with h | h | ⟨h, h'⟩ | h | h
  · exact .inl (.inl (.inl h))
  · exact .inl (.inl (.inr h))
  · exact .inl (.inr ⟨h', by omega⟩)
  · exact .inr (.inl h)
  · exact .inr (.inr h)

theorem linkUp_has {d : Dev} {p sub : Nat} (off : d.fld (aPw + rPwState) 2 0 ≠ 0) (pilot : d.fld (aPw + rPwState) 2 0 ≠ 4)
    (has : d.fld (aEt p + rEtMode) 1 0 = 2 ∨ (d.fld (aEt p + rEtMode) 1 0 = 1 ∧ sub = 0)) : d.linkUp p sub =
      let e := d.setBit (aEt p + rEtState) sub
      ((if d.fld (aEt p + rEtMode) 1 0 = 2 && !e.flag (aEt p + rEtState) (1 - sub) then e else e.clrBit (aEt p + rEtState) 2).rehome p).ptpListen p := by
  refine if_neg ?_
  simp only [List.contains_cons, List.contains_nil, Bool.or_eq_true, Bool.and_eq_true, decide_eq_true_eq, beq_iff_eq, Bool.or_false]
  omega

theorem linkDown_up {d : Dev} {p sub : Nat} (h : d.flag (aEt p + rEtState) sub = true) : d.linkDown p sub =
    let e := ((d.clrBit (aEt p + rEtState) sub).setBit (aEt p + rEtState) 2).setBit (aEt p + rEtSticky) 0
    (if e.portUp p then e else e.modPort p fun q => { q with known := [], ptp := {} }).rehome (1 - p) := if_pos h

/-- Settles O30. -/
theorem portsAndLinks : Obligations.PortsAndLinks := by
  intro env p sub t4 s4 t6 s6 mac data who v d n
  have arp (s : State) : exec (.arpRequest env t4 s4 mac) s =
    event (fun d => d.onFrame env [0xFFFFFFFFFFFF] fun d => d.arpAsked env.port t4 s4 mac) s := rfl
  have nd (s : State) : exec (.neighbourSolicit env t6 s6 mac) s =
    event (fun d => d.onFrame env (ndGroups t6) fun d => d.ndAsked env.port t6 s6 mac) s := rfl
  have echo (odd : Bool) (s : State) : exec (.icmpEcho { toEnvelope := env, oddIp := odd } t6 s6 data) s =
    event (fun d => d.onFrame env [] fun d => d.echoAsked env.port odd t6 s6 data) s := rfl
  have up (s : State) : exec (.linkUp p sub) s = event (fun d => d.linkUp p sub) s := rfl
  have down (s : State) : exec (.linkDown p sub) s = event (fun d => d.linkDown p sub) s := rfl
  refine ⟨fun e passes vid => ?arp, fun e passes vid => ?nd, fun e passes vid => ?echo, ?up, fun is => ?down,
    fun no => takes_of _ down (if_neg (by simp [no])), ?mode⟩
  case arp =>
    have asked {e' : Dev} (h : e.arpAsked env.port t4 s4 mac = e') := takes_of _ arp ((onFrame_passes passes vid _).trans h)
    exact ⟨fun h => asked (if_pos h), fun h => asked (if_neg (Bool.eq_false_iff.mp h))⟩
  case nd =>
    have asked {e' : Dev} (h : e.ndAsked env.port t6 s6 mac = e') := takes_of _ nd ((onFrame_passes passes vid _).trans h)
    refine ⟨fun h v6 => asked (if_pos ?_), fun h => asked (if_neg ?_)⟩
    · have : e.answersFor env.port t6 = true := h
      simp [this, v6]
    · have : e.answersFor env.port t6 = false ∨ ipIsV4 t6 = true := h
      rcases this with h | h <;> simp [h]
  case echo =>
    have asked (odd : Bool) {e' : Dev} (h : e.echoAsked env.port odd t6 s6 data = e') := takes_of _ (echo odd) ((onFrame_passes passes vid _).trans h)
    exact ⟨fun h => asked false (if_pos h), fun h => asked false (if_neg (Bool.eq_false_iff.mp h)), asked true (if_neg Bool.false_ne_true)⟩
  case up =>
    intro mode state
    refine ⟨fun off pilot has => ?_, fun no => takes_of _ up (linkUp_refused ?_)⟩
    · intro e last
      have linked := linkUp_has off pilot (has.imp_right (And.imp_right (congrArg Fin.val)))
      have last_iff : (d.fld (aEt p + rEtMode) 1 0 = 2 && !e.flag (aEt p + rEtState) (1 - sub.val)) = true ↔ ¬ last := by
        simp only [last, mode, Bool.and_eq_true, decide_eq_true_eq, Bool.not_eq_true', not_or, Bool.not_eq_true]
        have one_or_two : d.fld (aEt p + rEtMode) 1 0 = 2 ∨ (d.fld (aEt p + rEtMode) 1 0 = 1 ∧ sub = 0) := has
        exact and_congr_left' (by omega)
      refine ⟨fun h => takes_of _ up (linked.trans ?_), fun h => takes_of _ up (linked.trans ?_)⟩
      · exact congrArg (fun e => (Dev.rehome e p).ptpListen p) (if_neg (fun c => last_iff.mp c h))
      · exact congrArg (fun e => (Dev.rehome e p).ptpListen p) (if_pos (last_iff.mpr h))
    · simpa [mode, state, Fin.ext_iff] using no
  case down =>
    intro e
    exact ⟨fun h => takes_of _ down ((linkDown_up is).trans (congrArg (Dev.rehome · (1 - p)) (if_pos h))),
      fun h => takes_of _ down ((linkDown_up is).trans (congrArg (Dev.rehome · (1 - p)) (if_neg (Bool.eq_false_iff.mp h))))⟩
  case mode =>
    intro secured same
    have write (s : State) : exec (.etModeWrite who p v) s = event (fun d => d.asked who (aEt p + rEtMode) fun d =>
      if portSecured p who || v.getLsbD 2 == d.flag (aEt p + rEtMode) 2 then d.etModeWrite p v.toNat (portSecured p who) else d) s := rfl
    refine ⟨fun may => takesBy_of _ write (if_pos ?_), fun h1 h2 => takes_of_asked _ write (if_neg ?_)⟩
    · simpa [secured, same] using may
    · simpa [secured, same] using And.intro h1 h2

end Sys2Proof.Machine
end

section
/-! PROOF. The sources of device time. -/

namespace Sys2Proof.Machine

/-! ### Holdover, pulses, and the setting of time -/

theorem ptpLost_eq (d : Dev) : d.ptpLost =
    ((match d.timePort with | some p => d.modPtp p fun _ => {} | none => d).modClock fun c => { c with ptp := false }).sourceLost := rfl

theorem modClock_timeState (d : Dev) (f : Clock → Clock) : (d.modClock f).timeState = d.timeState := rfl
theorem modClock_ppsValid (d : Dev) (f : Clock → Clock) : (d.modClock f).ppsValid = d.ppsValid := rfl

theorem holdoverAlert_none {d : Dev} (h : d.clock.holdover = none ∨ d.timeState ≠ 3) : d.holdoverAlert = d := by
  rw [Dev.holdoverAlert]
  cases hc : d.clock.holdover with
  | none => rfl
  | some t =>
    have away : d.timeState ≠ 3 := h.resolve_left (by simp [hc])
    exact if_neg (by simp [away])

theorem holdoverAlert_some {d : Dev} {t : W64} (h : d.clock.holdover = some t) (state : d.timeState = 3) : d.holdoverAlert =
    if t.toNat + 60000000000 ≤ d.dt.toNat then (d.modClock fun c => { c with holdover := none }).raiseFreeAlert else d := by
  rw [Dev.holdoverAlert, h]
  simp [state]

/-- An edge of an input that comes while the supply is on, and changes its level. -/
theorem pinEdge_pps {d : Dev} (on : d.power.input = true) : d.pinEdge 3 (!d.power.pps.high) =
    let e := d.modPower fun q => { q with pps := { q.pps with high := !d.power.pps.high } }
    match d.power.pps.window with
    | some w => if d.dt.toNat < w.toNat then e.pinSticky 3 else e.pinTakes 3 (!d.power.pps.high)
    | none => e.pinTakes 3 (!d.power.pps.high) := by
  refine if_neg ?_
  rw [on]
  simp [Dev.pin]

theorem ppsPulse_valid {d : Dev} (h : ∃ t, d.clock.pps = some t ∧ t.toNat + 1000000000 ≤ d.dt.toNat + 100000 ∧ d.dt.toNat ≤ t.toNat + 1000100000) :
    d.ppsPulse = let g := (d.modClock fun c => { c with pps := some d.dt }).setBit (aCk + rCkState) 3
      (if g.clock.ptp then g else g.countOffset g.ppsOffset).modClock fun c => { c with slew := -g.ppsOffset } := by
  obtain ⟨t, ht, early, late⟩ := h
  rw [Dev.ppsPulse, ht]
  exact if_pos (Bool.and_eq_true_iff.mpr ⟨decide_eq_true early, decide_eq_true late⟩)

theorem ppsPulse_invalid {d : Dev} (h : ¬ ∃ t, d.clock.pps = some t ∧ t.toNat + 1000000000 ≤ d.dt.toNat + 100000 ∧
    d.dt.toNat ≤ t.toNat + 1000100000) : d.ppsPulse =
      (((d.modClock fun c => { c with pps := some d.dt }).clrBit (aCk + rCkState) 3).inc32 (aCk + rCkPpsRejects) 1).sourceLost := by
  rw [Dev.ppsPulse]
  cases ht : d.clock.pps with
  | none => rfl
  | some t => exact if_neg (by simpa [ht] using h)

theorem Dev.fld_congr {d e : Dev} {a : Nat} (h : e.rd a = d.rd a) (hi lo : Nat) : e.fld a hi lo = d.fld a hi lo := by rw [Dev.fld, h, Dev.fld]

section
variable {d : Dev} {e : Dev} (he : d.setBit (aCk + rCkTimeCfg) 0 = e)
include he

theorem rd_pwState_freeRun : e.rd (aPw + rPwState) = d.rd (aPw + rPwState) := by
  rw [← he]
  exact Dev.rd_setBit_ne _ _ _ _ (by decide)

theorem pwState_freeRun : e.pwState = d.pwState := Dev.fld_congr (rd_pwState_freeRun he) _ _
theorem pwStep_freeRun : e.pwStep = d.pwStep := Dev.fld_congr (rd_pwState_freeRun he) _ _

variable (early : d.pwState ≤ 1)
include early

/-- Free running set in step 4 of a cold start ends the step. -/
theorem freeRunWrite_waits {env : ColdEnv} (cold : d.power.cold = some env) (state : d.pwState = 1) (step : d.pwStep = 4) :
    d.freeRunWrite true = e.coldTime env := by
  have cold' : e.power.cold = some env := by rw [← he]; exact cold
  rw [Dev.freeRunWrite, if_neg (Nat.not_lt.mpr early), show d.putBit (aCk + rCkTimeCfg) 0 true = e from he]
  dsimp only
  rw [cold']
  exact if_pos (by rw [pwState_freeRun he, pwStep_freeRun he, state, step]; rfl)

theorem freeRunWrite_other (h : d.power.cold = none ∨ d.pwState = 0 ∨ d.pwStep ≠ 4) : d.freeRunWrite true = e := by
  have cold' : e.power.cold = d.power.cold := by rw [← he]; rfl
  rw [Dev.freeRunWrite, if_neg (Nat.not_lt.mpr early), show d.putBit (aCk + rCkTimeCfg) 0 true = e from he]
  dsimp only
  rw [cold']
  cases cold : d.power.cold with
  | none => rfl
  | some env =>
    refine if_neg ?_
    rw [pwState_freeRun he, pwStep_freeRun he]
    rcases h with h | h | h <;> simp_all

end

theorem timeSourcesHold : TimeSourcesHold := by
  intro v who d
  have loss (s : State) : exec .ptpSourceLoss s = event Dev.ptpLost s := rfl
  have alert (s : State) : exec .holdoverAlert s = event Dev.holdoverAlert s := rfl
  have edge (s : State) : exec .ppsEdge s = event (fun d => d.pinEdge 3 (!d.power.pps.high)) s := rfl
  have set (w : Requester) (s : State) : exec (.ckDtSetWrite w v) s = event (fun d => d.asked w (aCk + rCkDtSet) fun d => d.dtSetWrite w v) s := rfl
  have free (s : State) : exec (.ckFreeRunSet who) s = event (fun d => d.asked who (aCk + rCkTimeCfg) fun d => d.freeRunWrite true) s := rfl
  refine ⟨?loss, fun t since state => ⟨fun due => takes_of _ alert ((holdoverAlert_some since state).trans (if_pos due)),
      fun early => takes_of _ alert ((holdoverAlert_some since state).trans (if_neg (Nat.not_le.mpr early)))⟩,
    fun no => takes_of _ alert (holdoverAlert_none no), fun off => takes_of _ edge (if_pos (by simp [off])), fun on => ?edge, ?pulse,
    fun early => ⟨takesBy_of _ (set .bus) (if_pos (by simp [isBus, early])), fun other => takes_of_asked _ (set who) (if_neg (by simp [other])), ?free⟩,
    fun late => ⟨takes_of_asked _ (set who) (if_neg (by simp [Nat.not_le.mpr late])), takes_of_asked _ free (if_pos late)⟩⟩
  case loss =>
    intro e
    have lost : d.ptpLost = if e.timeState = 2 && !e.ppsValid && !e.clock.ptp then e.enterHoldover else e := rfl
    have silent : e.clock.ptp = false := rfl
    refine ⟨fun locked pulses => takes_of _ loss (lost.trans (if_pos ?_)), fun no => takes_of _ loss (lost.trans (if_neg ?_))⟩
    · rw [silent, pulses, locked]
      rfl
    · rcases no with h | h
      · simp [h]
      · simp [h]
  case edge =>
    intro level e
    refine ⟨fun ⟨w, hw, inside⟩ => takes_of _ edge ((pinEdge_pps on).trans ?_), ?_⟩
    · rw [hw]
      exact if_pos inside
    · intro outside f
      have acts : e.pinTakes 3 level = if level = true ∧ f.hubRuns = true then f.ppsPulse.coldLocked else f :=
        ite_congr (propext Bool.and_eq_true_iff) (fun _ => rfl) fun _ => rfl
      refine takes_of _ edge ((pinEdge_pps on).trans (Eq.trans ?_ acts))
      cases hw : d.power.pps.window with
      | none => rfl
      | some w => exact if_neg (Nat.not_lt.mpr (outside w hw))
  case pulse => exact ⟨ppsPulse_valid, ppsPulse_invalid⟩
  case free =>
    intro e
    exact ⟨fun env cold state step => takesBy_of _ free (freeRunWrite_waits rfl early cold state step),
      fun no => takesBy_of _ free (freeRunWrite_other rfl early no)⟩

/-! ### PTP -/

section
variable {d : Dev} {p : Nat}

theorem modPort_congr {f f' : Port → Port} (h : f (d.port p) = f' (d.port p)) : d.modPort p f = d.modPort p f' := by
  unfold Dev.modPort Dev.port at *
  split at h <;> simp_all

theorem port_modPort (f : Port → Port) : (d.modPort p f).port p = f (d.port p) := by
  unfold Dev.modPort Dev.port
  split <;> rfl

theorem ptp_modPtp (f : PtpPort → PtpPort) : ((d.modPtp p f).port p).ptp = f (d.port p).ptp := by
  rw [Dev.modPtp, port_modPort]

theorem modPtp_congr {f f' : PtpPort → PtpPort} (h : f (d.port p).ptp = f' (d.port p).ptp) : d.modPtp p f = d.modPtp p f' :=
  modPort_congr (by rw [h])

/-! #### Announce -/

section
variable {m : PtpMsg}

theorem ptpAnnounced_taken {master : Option Nat} (hq : (d.port p).ptp.master = master) (other : ∀ k, master = some k → k % 2 ^ 80 ≠ m.src)
    (better : ∀ k, master = some k → m.rank * 2 ^ 80 + m.src < k) :
    d.ptpAnnounced p m = (d.modPtp p fun _ => { master := some (m.rank * 2 ^ 80 + m.src) }).ptpListen p := by
  rw [Dev.ptpAnnounced]
  refine (if_pos ?_).trans (congrArg (Dev.ptpListen · p) (modPtp_congr (if_neg ?_)))
  · rw [hq]
    cases master with
    | none => rfl
    | some k => exact Bool.or_eq_true_iff.mpr (.inr (decide_eq_true (better k rfl)))
  · rw [hq]
    cases master with
    | none => exact Bool.false_ne_true
    | some k => exact fun same => other k rfl (eq_of_beq same)

theorem ptpAnnounced_worse {k : Nat} (hq : (d.port p).ptp.master = some k) (other : k % 2 ^ 80 ≠ m.src) (worse : k ≤ m.rank * 2 ^ 80 + m.src) :
    d.ptpAnnounced p m = d := by
  rw [Dev.ptpAnnounced]
  refine if_neg ?_
  rw [hq]
  exact fun takes => (Bool.or_eq_true_iff.mp takes).elim (fun same => other (eq_of_beq same)) fun better => absurd (of_decide_eq_true better) (Nat.not_lt.mpr worse)

end

/-! #### Sync -/

section
variable {t1 t2 : Int} {y : Dev} (hy : (d.modPtp p fun q => { q with sync := none, last := some (t1, t2) }) = y)
include hy

theorem ptp_last_synced : (y.port p).ptp.last = some (t1, t2) := by
  rw [← hy, ptp_modPtp]

theorem ptpSynced_first (h : (y.port p).ptp.delay = none) : d.ptpSynced p t1 t2 = y.askDelay p := by
  rw [Dev.ptpSynced, hy, Dev.ptpMeasure, ptp_last_synced hy, h]

theorem ptpSynced_measures {w : Int} (h : (y.port p).ptp.delay = some w) : d.ptpSynced p t1 t2 =
    let o := t2 - t1 - w
    let z := (y.wr64 (aEt p + rEtPtpOffset) (o % 2 ^ 64).toNat).ptpListen p
    (if z.timePort = some p then ((z.ptpOffset o).setFld (aEt p + rEtState) 5 4 (z.ptpOffset o).timeState).coldLocked else z).askDelay p := by
  rw [Dev.ptpSynced, hy, Dev.ptpMeasure, ptp_last_synced hy, h]

end

/-! #### Messages in -/

theorem ptpIn_refused {tr : Nat} {bs : List Byte} (h : ¬ (d.ptpRuns p = true ∧ d.ptpTransport p = tr) ∨ ptpParse bs = none) : d.ptpIn p tr bs = d := by
  rw [Dev.ptpIn]
  split
  · rfl
  next taken =>
    simp only [Bool.or_eq_true, Bool.not_eq_true', bne_iff_ne, not_or, Bool.not_eq_false, not_not] at taken
    rw [h.resolve_left fun refused => refused ⟨taken.1, taken.2.symm⟩]

theorem ptpIn_taken {tr : Nat} {bs : List Byte} (h : d.ptpRuns p = true ∧ d.ptpTransport p = tr) {m : PtpMsg} (hm : ptpParse bs = some m) :
    d.ptpIn p tr bs = if m.domain = d.fld (aEt p + rEtPtpCfg) 11 4 && (m.type ≠ 11 || decide (64 ≤ bs.length)) then d.ptpTakes p m else d := by
  rw [Dev.ptpIn, if_neg (by simp [h]), hm]

theorem ptpTakes_sync {m : PtpMsg} (type : m.type = 0) : d.ptpTakes p m =
    if (d.port p).ptp.master.any fun k => k % 2 ^ 80 == m.src then
      if m.twoStep then d.stamp.2.modPtp p fun q => { q with sync := some (m.seq, d.stamp.1, m.corr) } else d.stamp.2.ptpSynced p (m.time + m.corr) d.stamp.1
    else d := by
  rw [Dev.ptpTakes, type]
  rfl

theorem ptpTakes_peerRequest {m : PtpMsg} (type : m.type = 2) : d.ptpTakes p m =
    if d.ptpPeer p then d.stamp.2.ptpSend p 3 m.seq ((m.corr * 65536) % 2 ^ 64).toNat d.stamp.1 m.src else d := by
  rw [Dev.ptpTakes, type]
  rfl

theorem ptpTakes_announce {m : PtpMsg} (type : m.type = 11) : d.ptpTakes p m = d.ptpAnnounced p m := by
  rw [Dev.ptpTakes, type]
  rfl

end

theorem ptpExchangeHold : PtpExchangeHold := by
  intro env tr bs d g passes vid p ours i
  have run (s : State) : exec i s = event (fun d => d.ptpMessage env tr bs) s := rfl
  have takes {e : Dev} (h : g.ptpIn p tr bs = e) : Takes i d e := takes_of _ run ((ptpMessage_passes passes vid bs).trans h)
  refine ⟨fun h => takes (ptpIn_refused h), fun m ours parsed => ⟨fun foreign => takes ((ptpIn_taken ours parsed).trans (if_neg (by simp [foreign]))),
    fun domain => ?_⟩⟩
  intro q x t key
  have acts {e : Dev} (long : m.type ≠ 11 ∨ 64 ≤ bs.length) (h : g.ptpTakes p m = e) : Takes i d e :=
    takes ((ptpIn_taken ours parsed).trans ((if_pos (by simpa [domain] using long)).trans h))
  refine ⟨fun type long none_ => acts (.inr long) ((ptpTakes_announce type).trans (ptpAnnounced_taken none_ nofun nofun)),
    fun type long k hk other => ⟨fun better => acts (.inr long) ((ptpTakes_announce type).trans (ptpAnnounced_taken hk ?_ ?_)),
      fun worse => acts (.inr long) ((ptpTakes_announce type).trans (ptpAnnounced_worse hk other worse))⟩,
    fun type k hk master => ?sync, fun type other => acts (.inl (by omega)) ((ptpTakes_sync type).trans (if_neg ?foreign)),
    fun type peer => acts (.inl (by omega)) ((ptpTakes_peerRequest type).trans (if_pos peer)),
    fun type peer => acts (.inl (by omega)) ((ptpTakes_peerRequest type).trans (if_neg (Bool.eq_false_iff.mp peer)))⟩
  · rintro _ ⟨⟩
    exact other
  · rintro _ ⟨⟩
    exact better
  case sync =>
    have synced {e : Dev} (h : (if m.twoStep then x.modPtp p fun q => { q with sync := some (m.seq, t, m.corr) } else
        x.ptpSynced p (m.time + m.corr) t) = e) : Takes i d e :=
      acts (.inl (by omega)) ((ptpTakes_sync type).trans ((if_pos (by
        rw [show (g.port p).ptp.master = some k from hk]
        exact beq_iff_eq.mpr master)).trans h))
    refine ⟨fun two => synced (if_pos two), fun one => ?_⟩
    intro y
    have one_step {e : Dev} (h : x.ptpSynced p (m.time + m.corr) t = e) := synced ((if_neg (Bool.eq_false_iff.mp one)).trans h)
    refine ⟨fun first => one_step (ptpSynced_first rfl first), fun w hw => ?_⟩
    intro o z
    exact ⟨fun other => one_step ((ptpSynced_measures rfl hw).trans (congrArg (Dev.askDelay · p) (if_neg other))),
      fun source => one_step ((ptpSynced_measures rfl hw).trans (congrArg (Dev.askDelay · p) (if_pos source)))⟩
  case foreign =>
    have (k : Nat) : (g.port p).ptp.master = some k → k % 2 ^ 80 ≠ m.src := other k
    simpa [Option.any_eq_true] using this

/-- Settles O32. -/
theorem timeSources : Obligations.TimeSources := ⟨timeSourcesHold, ptpExchangeHold⟩

end Sys2Proof.Machine
end

section
/-! PROOF. MBT sessions: openings, small messages, timers, control and data messages, marks and telemetry. -/

namespace Sys2Proof.Machine

/-- A message event acts on the wanted message at the head of the queues. -/
theorem takes_message {i : Instr} {want : Mbt → Bool} {f : InMsg → Dev → Dev} {d e : Dev} {m : InMsg} {rest : List InMsg}
    (run : ∀ s, exec i s = event (fun d => d.onMessage want f) s) (head : atHead d m rest) (wanted : want m.msg = true)
    (h : f m (taken d rest) = e) : Takes i d e :=
  takes_of _ run ((onMessage_head head wanted).trans h)

/-! ### OPEN -/

/-- Whether an OPEN comes from an address that may open its session. -/
def mayOpen (d : Dev) (m : InMsg) : Prop :=
  d.allowed m.src = true ∧ ¬ (m.msg.session = tether ∧ d.pairMode ≠ 0 ∧ m.src ≠ d.peerIp ∧ m.src ≠ d.peerIpAlt)
/-- The session that an OPEN names, or the lowest free one when it names none. -/
def openTarget (d : Dev) (m : InMsg) : Option Nat :=
  if m.msg.session = 0xFFFF then d.freeSession else if m.msg.session < 4096 then some m.msg.session else none
/-- The device with an OPEN refused. -/
def refuseOpen (d : Dev) (m : InMsg) (st : Nat) : Dev := d.rejectTo m.port m.src m.srcUdp.toNat (leNat (bytesAt m.msg.body) 0 2) 0 0 st

section
variable {d : Dev} {m : InMsg}

theorem mayOpen_iff : mayOpen d m ↔
    ¬ (!d.allowed m.src || (m.msg.session == tether && d.pairMode != 0 && m.src != d.peerIp && m.src != d.peerIpAlt)) = true := by
  simp [mayOpen, and_assoc]

theorem openReceived_misshapen (h : m.msg.body.length ≠ 16) : d.openReceived m = d := if_pos h

variable (shape : m.msg.body.length = 16)
include shape

theorem openReceived_barred (h : ¬ mayOpen d m) : d.openReceived m = refuseOpen d m 0x6005 :=
  (if_neg (not_not.mpr shape)).trans (if_pos (not_not.mp (mt mayOpen_iff.mpr h)))

variable (admitted : mayOpen d m)
include admitted

theorem openReceived_untargeted (h : openTarget d m = none) : d.openReceived m = if m.msg.session = 0xFFFF then refuseOpen d m 0x6004 else d := by
  refine (if_neg (not_not.mpr shape)).trans ((if_neg (mayOpen_iff.mp admitted)).trans ?_)
  rw [openTarget] at h
  dsimp only
  rw [h]
  rfl

theorem openReceived_targeted {s : Nat} (h : openTarget d m = some s) : d.openReceived m =
    let own := leNat (bytesAt m.msg.body) 0 2
    let init := leNat (bytesAt m.msg.body) 4 4
    let resume := bit m.msg.flags 2
    let pair := d.servesPair && m.dst == d.pairIp
    let x := d.session s
    if x.state = 0 then
      if resume then refuseOpen d m 0x6003 else ((d.bindSession s m pair own init).sendOpenAck s false).sessionOpened s
    else if x.state = 1 then
      if x.fromPeer m && (x.peerSession == 0xFFFF || x.peerSession.toNat == own) then
        ((d.modSession s fun x => { x with state := 2, protect := m.protect, peerSession := BitVec.ofNat 16 own, rxExpect := BitVec.ofNat 32 init,
                                           ackNo := BitVec.ofNat 32 init, opens := 0 }).sendOpenAck s false).sessionOpened s
      else d
    else if x.state = 2 then
      if x.fromPeer m && !resume then ((d.bindSession s m x.pair own init).sendOpenAck s false).sessionOpened s else d
    else if x.fromPeer m && resume && x.peerSession.toNat == own then
      let n := BitVec.ofNat 32 (leNat (bytesAt m.msg.body) 8 4)
      ((((d.modSession s fun x => { x with state := 2, protect := m.protect, retries := 0 }).sendOpenAck s true).resendFrom s n).applyAck s
        { m.msg with ack := n }).pump s
    else d := by
  refine (if_neg (not_not.mpr shape)).trans ((if_neg (mayOpen_iff.mp admitted)).trans ?_)
  rw [openTarget] at h
  dsimp only
  rw [h]
  dsimp only
  split
  next h0 => rw [h0]; rfl
  next h1 => rw [h1]; rfl
  next h2 => rw [h2]; rfl
  next h0 h1 h2 => rw [if_neg h0, if_neg h1, if_neg h2]

end

theorem ne_of_is {n a b : Nat} (h : n = a) (hab : a ≠ b) : n ≠ b := h ▸ hab

/-- Settles O33. -/
theorem sessionsOpen : Obligations.SessionsOpen := by
  intro d m rest head type e own init resume want admitted pair refuse target
  have run (s : State) : exec .openMsg s = event (fun d => d.onMessage (fun m => m.type == 1) Dev.openReceived) s := rfl
  have opens {e' : Dev} (h : e.openReceived m = e') : Takes .openMsg d e' := takes_message run head (beq_iff_eq.mpr type) h
  refine ⟨fun bad => opens (openReceived_misshapen bad), fun shape no => opens (openReceived_barred shape no), fun shape may =>
    ⟨fun none_ any => opens ((openReceived_untargeted shape may none_).trans (if_pos any)),
      fun none_ named => opens ((openReceived_untargeted shape may none_).trans (if_neg named)), fun s hs => ?_⟩⟩
  intro x known
  have targeted {e' : Dev} (h : _ = e') := opens ((openReceived_targeted shape may hs).trans h)
  have known_iff : (x.peerSession == 0xFFFF || x.peerSession.toNat == own) = true ↔ known := by
    simp [known]
  refine ⟨fun st r => targeted ((if_pos st).trans (if_pos r)), fun st r => targeted ((if_pos st).trans (if_neg (Bool.eq_false_iff.mp r))),
    fun st peer k => targeted ?_, fun st no => targeted ?_, fun st peer r => targeted ?_, fun st no => targeted ?_,
    fun st peer r same => targeted ?_, fun st no => targeted ?_⟩
  · refine (if_neg (ne_of_is st (by decide))).trans ((if_pos st).trans (if_pos ?_))
    exact Bool.and_eq_true_iff.mpr ⟨peer, known_iff.mpr k⟩
  · refine (if_neg (ne_of_is st (by decide))).trans ((if_pos st).trans (if_neg fun c => ?_))
    obtain ⟨h1, h2⟩ := Bool.and_eq_true_iff.mp c
    exact no.elim (fun h => Bool.eq_false_iff.mp h h1) fun h => h (known_iff.mp h2)
  · refine (if_neg (ne_of_is st (by decide))).trans ((if_neg (ne_of_is st (by decide))).trans ((if_pos st).trans (if_pos ?_)))
    exact Bool.and_eq_true_iff.mpr ⟨peer, congrArg not r⟩
  · refine (if_neg (ne_of_is st (by decide))).trans ((if_neg (ne_of_is st (by decide))).trans ((if_pos st).trans (if_neg fun c => ?_)))
    obtain ⟨h1, h2⟩ := Bool.and_eq_true_iff.mp c
    exact no.elim (fun h => Bool.eq_false_iff.mp h h1) fun h => Bool.eq_false_iff.mp (Bool.eq_false_of_not_eq_true' h2) h
  · refine (if_neg (ne_of_is st (by decide))).trans ((if_neg (ne_of_is st (by decide))).trans ((if_neg (ne_of_is st (by decide))).trans (if_pos ?_)))
    exact Bool.and_eq_true_iff.mpr ⟨Bool.and_eq_true_iff.mpr ⟨peer, r⟩, beq_iff_eq.mpr same⟩
  · refine (if_neg (ne_of_is st (by decide))).trans ((if_neg (ne_of_is st (by decide))).trans ((if_neg (ne_of_is st (by decide))).trans (if_neg fun c => ?_)))
    obtain ⟨h12, h3⟩ := Bool.and_eq_true_iff.mp c
    obtain ⟨h1, h2⟩ := Bool.and_eq_true_iff.mp h12
    exact no.elim (fun h => Bool.eq_false_iff.mp h h1) fun no => no.elim (fun h => Bool.eq_false_iff.mp h h2) fun h => h (eq_of_beq h3)

/-! ### Small messages -/

theorem onOpen_is {f : InMsg → Dev → Dev} {m : InMsg} {d : Dev} (h : (d.session m.msg.session).state = 2 ∧ (d.session m.msg.session).fromPeer m = true) :
    onOpen f m d = f m d := if_pos (by simp [h])

theorem onOpen_not {f : InMsg → Dev → Dev} {m : InMsg} {d : Dev}
    (h : ¬ ((d.session m.msg.session).state = 2 ∧ (d.session m.msg.session).fromPeer m = true)) : onOpen f m d = d := if_neg (by simpa using h)

section
variable {d : Dev} {s : Nat} {n : W32}

theorem resendRound_none (h : ((d.session s).unacked.all fun u => decide (serialDiff u.msg.seq n < 0)) = true) : d.resendRound s n = d := if_pos h

variable (some_ : ((d.session s).unacked.all fun u => decide (serialDiff u.msg.seq n < 0)) = false)
include some_

theorem resendRound_again (h : (d.session s).retries < 8) :
    d.resendRound s n = (d.modSession s fun x => { x with retries := x.retries + 1 }).resendFrom s n :=
  (if_neg (Bool.eq_false_iff.mp some_)).trans (if_neg (Nat.not_le.mpr h))

theorem resendRound_suspends (h : 8 ≤ (d.session s).retries) : d.resendRound s n =
    (d.modSession s fun x => { x with state := 3, suspendedAt := d.dt, ackOwed := none }).setBit (aMt + rMtSticky) 1 :=
  (if_neg (Bool.eq_false_iff.mp some_)).trans (if_pos h)

end

theorem nakReceived_eq {d g : Dev} {m : InMsg} (hg : (if (d.session m.msg.session).unacked.any fun u => decide (0 < serialDiff m.msg.ack u.msg.seq)
      then d.modSession m.msg.session fun x => { x with retries := 0 } else d) = g) :
    d.nakReceived m = (if m.msg.body.length = 4 then g.resendRound m.msg.session (nakStart m.msg) else g).applyAck m.msg.session m.msg := by
  subst hg
  rfl

theorem smallMessagesHold : SmallMessagesHold := by
  intro d m rest head e s x open_ own init answered
  have message {want : Mbt → Bool} {f : InMsg → Dev → Dev} {i : Instr} {e' : Dev} (run : ∀ s, exec i s = event (fun d => d.onMessage want f) s)
    (wanted : want m.msg = true) (h : f m e = e') : Takes i d e' := takes_message run head wanted h
  have openAck (s : State) : exec .openAckMsg s = event (fun d => d.onMessage (fun m => m.type == 2) Dev.openAcked) s := rfl
  have close (s : State) : exec .closeMsg s =
    event (fun d => d.onMessage (fun m => m.type == 3) (onOpen fun m d => d.closeSession m.msg.session)) s := rfl
  have ack (s : State) : exec .ackMsg s =
    event (fun d => d.onMessage (fun m => m.type == 4) (onOpen fun m d => d.applyAck m.msg.session m.msg)) s := rfl
  have nak (s : State) : exec .nakMsg s = event (fun d => d.onMessage (fun m => m.type == 5) (onOpen Dev.nakReceived)) s := rfl
  have ping (s : State) : exec .pingMsg s = event (fun d => d.onMessage (fun m => m.type == 6) (onOpen Dev.pingReceived)) s := rfl
  have reject (s : State) : exec .rejectMsg s = event (fun d => d.onMessage (fun m => m.type == 7) fun _ d => d) s := rfl
  have unknown (s : State) : exec .unknownMessage s = event (fun d => d.onMessage (fun m => !mbtKnown m.type)
    fun m d => if mbtSequenced m.msg.type then d.reject m.msg.session m.msg.seq 0x6002 else d) s := rfl
  have answered_iff : (decide (x.state = 1) && x.fromPeer m && m.msg.body.length == 16 && (x.peerSession == 0xFFFF || x.peerSession.toNat == own)) = true ↔
      answered := by
    simp [answered, and_assoc]
  refine ⟨fun type => ⟨fun h => message openAck (beq_iff_eq.mpr type) (if_pos (answered_iff.mpr h)),
      fun h => message openAck (beq_iff_eq.mpr type) (if_neg (mt answered_iff.mp h))⟩,
    fun type => ⟨fun h => message close (beq_iff_eq.mpr type) (onOpen_is h), fun h => message close (beq_iff_eq.mpr type) (onOpen_not h)⟩,
    fun type => ⟨fun h => message ack (beq_iff_eq.mpr type) (onOpen_is h), fun h => message ack (beq_iff_eq.mpr type) (onOpen_not h)⟩,
    fun type => ⟨fun h => ?nak, fun h => message nak (beq_iff_eq.mpr type) (onOpen_not h)⟩,
    fun type => ⟨fun h len => message ping (beq_iff_eq.mpr type) ((onOpen_is h).trans (if_pos len)), fun h => message ping (beq_iff_eq.mpr type) ?ping⟩,
    fun type => message reject (beq_iff_eq.mpr type) rfl,
    fun type => ⟨fun sequenced => message unknown (by simp [type]) (if_pos sequenced),
      fun unsequenced => message unknown (by simp [type]) (if_neg (Bool.eq_false_iff.mp unsequenced))⟩⟩
  case ping =>
    by_cases isOpen : open_
    · exact (onOpen_is isOpen).trans (if_neg (h.resolve_left (not_not.mpr isOpen)))
    · exact onOpen_not isOpen
  case nak =>
    intro advances g n none_
    have acts {f : Dev} (hf : (if m.msg.body.length = 4 then g.resendRound s n else g) = f) : Takes .nakMsg d (f.applyAck s m.msg) :=
      message nak (beq_iff_eq.mpr type) ((onOpen_is h).trans ((nakReceived_eq (g := g) rfl).trans (congrArg (Dev.applyAck · s m.msg) hf)))
    refine ⟨fun no => acts ?_, fun len some_ => ⟨fun few => acts ((if_pos len).trans (resendRound_again some_ few)),
      fun many => acts ((if_pos len).trans (resendRound_suspends some_ many))⟩⟩
    by_cases len : m.msg.body.length = 4
    · exact (if_pos len).trans (resendRound_none (no.resolve_left (not_not.mpr len)))
    · exact if_neg len

/-! ### Timers and commands -/

theorem serialDiff_self (a : W32) : serialDiff a a = 0 := by simp [serialDiff]

section
variable {d : Dev} {s : Nat}

theorem retransmit_due {u : Sent} {us : List Sent} (oldest : (d.session s).unacked = u :: us) (state : (d.session s).state = 2)
    (due : u.sentAt.toNat + 20000 ≤ d.dt.toNat) : d.retransmit s = d.resendRound s u.msg.seq := by
  rw [Dev.retransmit]
  rw [oldest]
  exact if_neg (by simp [state, due])

theorem retransmit_early {u : Sent} {us : List Sent} (oldest : (d.session s).unacked = u :: us)
    (no : (d.session s).state ≠ 2 ∨ d.dt.toNat < u.sentAt.toNat + 20000) : d.retransmit s = d := by
  rw [Dev.retransmit]
  rw [oldest]
  exact if_pos (by simpa using no)

theorem retransmit_none (h : (d.session s).unacked = []) : d.retransmit s = d := by
  rw [Dev.retransmit]
  rw [h]

theorem ackLate_owed {t : W64} (h : (d.session s).ackOwed = some t) :
    d.ackLate s = if (d.session s).state = 2 && decide (t.toNat + 2000 ≤ d.dt.toNat) then d.sendAck s else d := by
  rw [Dev.ackLate]
  rw [h]

theorem ackLate_none (h : (d.session s).ackOwed = none) : d.ackLate s = d := by
  rw [Dev.ackLate]
  rw [h]

theorem openRetry_due (state : (d.session s).state = 1) (due : (d.session s).openAt.toNat + 20000 ≤ d.dt.toNat) : d.openRetry s =
    if (d.session s).opens < 8 then d.sendOpen s else ((d.closeSession s).inc64 (aMt + rMtSessionFails) 1).setBit (aMt + rMtSticky) 1 :=
  if_neg (by simp [state, due])

end

theorem mtCmd_open (d : Dev) (port : Fin 2) : d.mtCmd (1 + 4 * port.val) =
    d.startOpen d.selected port.val (d.rd128 (aMt + rMtOpenAddr)) ((d.rd (aMt + rMtOpenPeer)).setWidth 16)
      ((d.rd (aMt + rMtOpenPeer) >>> 16).setWidth 16) false := by
  have op : (1 + 4 * port.val) % 4 = 1 := by omega
  have home : field (1 + 4 * port.val) 2 2 = port.val := by
    have := port.isLt
    simp only [field]
    omega
  rw [Dev.mtCmd, op, home]
  rfl

theorem sessionTimersHold : SessionTimersHold := by
  intro sn who port d s x fails
  have again (s : State) : exec (.retransmitTimer sn) s = event (fun d => d.retransmit sn) s := rfl
  have ack (s : State) : exec (.ackTimer sn) s = event (fun d => d.ackLate sn) s := rfl
  have retry (s : State) : exec (.openRetry sn) s = event (fun d => d.openRetry sn) s := rfl
  have timeout (s : State) : exec (.suspendTimeout sn) s = event (fun d => d.suspendEnd sn) s := rfl
  have opens (s : State) : exec (.mtCmdOpen who port) s = event (fun d => d.asked who (aMt + rMtCmd) fun d => d.mtCmd (1 + 4 * port.val)) s := rfl
  have closes (s : State) : exec (.mtCmdClose who) s = event (fun d => d.asked who (aMt + rMtCmd) fun d => d.mtCmd 2) s := rfl
  refine ⟨fun u us oldest => ⟨fun state due => ?again, fun no => takes_of _ again (retransmit_early oldest no)⟩,
    fun none_ => takes_of _ again (retransmit_none none_),
    fun t owed state due => takes_of _ ack ((ackLate_owed owed).trans (if_pos ?owed)), fun t owed no => takes_of _ ack ((ackLate_owed owed).trans (if_neg ?early)),
    fun none_ => takes_of _ ack (ackLate_none none_),
    fun state due => ⟨fun few => takes_of _ retry ((openRetry_due state due).trans (if_pos few)),
      fun many => takes_of _ retry ((openRetry_due state due).trans (if_neg (Nat.not_lt.mpr many)))⟩,
    fun no => takes_of _ retry (if_pos (by simpa using no)), fun state due => takes_of _ timeout (if_pos ?suspended),
    fun no => takes_of _ timeout (if_neg ?waiting), ?cmd⟩
  case again =>
    have some_ : (x.unacked.all fun v => decide (serialDiff v.msg.seq u.msg.seq < 0)) = false := by
      rw [oldest, List.all_cons, serialDiff_self]
      rfl
    exact ⟨fun few => takes_of _ again ((retransmit_due oldest state due).trans (resendRound_again some_ few)),
      fun many => takes_of _ again ((retransmit_due oldest state due).trans (resendRound_suspends some_ many))⟩
  case owed =>
    rw [show (d.session sn).state = 2 from state, decide_eq_true due]
    rfl
  case early =>
    rw [Bool.and_eq_true, decide_eq_true_eq, decide_eq_true_eq]
    exact fun ⟨h1, h2⟩ => no.elim (fun h => h h1) (Nat.not_lt.mpr h2)
  case suspended =>
    rw [Bool.and_eq_true, decide_eq_true_eq, decide_eq_true_eq]
    exact ⟨state, due⟩
  case waiting =>
    rw [Bool.and_eq_true, decide_eq_true_eq, decide_eq_true_eq]
    exact fun ⟨h1, h2⟩ => no.elim (fun h => h h1) (Nat.not_lt.mpr h2)
  case cmd =>
    intro k peer
    exact ⟨fun closed => takesBy_of _ opens ((mtCmd_open d port).trans (if_neg (not_not.mpr closed))),
      fun used => takes_of_asked _ opens ((mtCmd_open d port).trans (if_pos used)), fun state => takesBy_of _ closes (if_pos state),
      fun state => takes_of_asked _ closes (if_neg state)⟩

/-- Settles O36. -/
theorem sessionUpkeep : Obligations.SessionUpkeep := ⟨smallMessagesHold, sessionTimersHold⟩

end Sys2Proof.Machine
end

section
/-! PROOF. Control and data messages, marks and telemetry. -/

namespace Sys2Proof.Machine

/-! ### Control messages in turn -/

section
variable {d : Dev} {m : InMsg}

/-- Whether a control message is put off behind an unanswered MARK of its session. -/
def putOff (d : Dev) (m : InMsg) : Bool :=
  d.obs.awaiting.contains m.msg.session || d.obs.deferred.any fun x => x.msg.session == m.msg.session

theorem ctlInTurn_eq : d.ctlInTurn m =
    if putOff d m && !d.markFollows m then { d with obs := { d.obs with deferred := d.obs.deferred ++ [m] } } else d.ctlMessage m := rfl

theorem ctlInTurn_waits (h : putOff d m = true) (h' : d.markFollows m = false) :
    d.ctlInTurn m = { d with obs := { d.obs with deferred := d.obs.deferred ++ [m] } } := by
  rw [ctlInTurn_eq, h, h']
  rfl

theorem ctlInTurn_acts (h : putOff d m = false ∨ d.markFollows m = true) : d.ctlInTurn m = d.ctlMessage m := by
  refine ctlInTurn_eq.trans (if_neg ?_)
  rcases h with h | h <;> simp [h]

theorem markFollows_of_other (h : m.msg.type ≠ 0x30) : d.markFollows m = false := by
  simp [Dev.markFollows, h]

theorem ctlMessage_cread (h : m.msg.type = 0x20) : d.ctlMessage m = d.creadReceived m := if_pos h
theorem ctlMessage_cwrite (h : m.msg.type = 0x21) : d.ctlMessage m = d.cwriteReceived m := (if_neg (by omega)).trans (if_pos h)
theorem ctlMessage_mark (h : m.msg.type = 0x30) : d.ctlMessage m = d.markReceived m := (if_neg (by omega)).trans (if_neg (by omega))

end

/-! ### Data messages -/

section
variable {d : Dev} {m : InMsg}

theorem dreadReceived_misshapen (h : ¬ (m.msg.body.length = 16 ∧ leNat (bytesAt m.msg.body) 12 4 = 0)) :
    d.dreadReceived m = d.reject m.msg.session m.msg.seq 0x6002 :=
  if_pos (by simpa [Classical.or_iff_not_imp_left] using h)

theorem dreadReceived_formed (h : m.msg.body.length = 16 ∧ leNat (bytesAt m.msg.body) 12 4 = 0) : d.dreadReceived m =
    let a := leNat (bytesAt m.msg.body) 0 8
    let len := leNat (bytesAt m.msg.body) 8 4
    if !m.poison.isEmpty then d.respond m.msg.session 0x22 m.msg.seq (segmentBody 0x6001 0 [])
    else if a % 64 ≠ 0 || len % 64 ≠ 0 || len < 64 || 2 ^ 24 < len then d.respond m.msg.session 0x22 m.msg.seq (segmentBody 0x600A 0 [])
    else d.readSegments m.msg.session m.msg.seq a len ((d.maxBody - 8) / 64 * 64) (len / 64 + 1) 0 :=
  if_neg (by simp [h])

theorem misaligned_iff {a len : Nat} : (decide (a % 64 ≠ 0) || decide (len % 64 ≠ 0) || decide (len < 64) || decide (2 ^ 24 < len)) = true ↔
    ¬ (a % 64 = 0 ∧ len % 64 = 0 ∧ 64 ≤ len ∧ len ≤ 2 ^ 24) := by
  simp only [Bool.or_eq_true, decide_eq_true_eq]
  omega

/-- Whether a remote write has an address and a length that one write may have. -/
def shapely (d : Dev) (w : RemoteWrite) : Prop := w.addr % 4 = 0 ∧ w.data.length % 4 = 0 ∧ 0 < w.data.length ∧ w.data.length ≤ d.maxBody - 8

theorem shapely_iff {w : RemoteWrite} : shapely d w ↔ ¬ (decide (w.addr % 4 ≠ 0) || decide (w.data.length % 4 ≠ 0) || decide (w.data.length = 0) ||
    decide (d.maxBody - 8 < w.data.length)) = true := by
  simp only [shapely, Bool.or_eq_true, decide_eq_true_eq]
  omega

theorem startWrite_misshapen {w : RemoteWrite} (h : ¬ shapely d w) : d.startWrite w = d.answerWrite w 0x600A 0 :=
  if_pos (not_not.mp (mt shapely_iff.mpr h))

theorem startWrite_shapely {w : RemoteWrite} (h : shapely d w) : d.startWrite w =
    if !inOneUnit w.addr w.data.length then d.answerWrite w 0x6009 0 else { d with net := { d.net with writes := d.net.writes ++ [w] } } :=
  if_neg (shapely_iff.mp h)

theorem dwriteReceived_short (h : m.msg.body.length < 8) : d.dwriteReceived m = d.reject m.msg.session m.msg.seq 0x6002 := if_pos h

section
variable (long : 8 ≤ m.msg.body.length)
include long

theorem dwriteReceived_safeHold (h : d.safeHold = true) : d.dwriteReceived m = d.answerWrite (writeOf m) 0x100C 0 :=
  (if_neg (Nat.not_lt.mpr long)).trans (if_pos h)

variable (normal : d.safeHold = false)
include normal

theorem dwriteReceived_secondary (h : d.isSecondary = true) (h' : (writeOf m).twin = false) : d.dwriteReceived m = d.answerWrite (writeOf m) 0x7005 0 :=
  (if_neg (Nat.not_lt.mpr long)).trans ((if_neg (Bool.eq_false_iff.mp normal)).trans (if_pos (by rw [h, h']; rfl)))

theorem dwriteReceived_served (h : d.isSecondary = false ∨ (writeOf m).twin = true) : d.dwriteReceived m =
    if m.poison.contains 0 then d.answerWrite (writeOf m) 0x6001 0 else d.startWrite (writeOf m) :=
  (if_neg (Nat.not_lt.mpr long)).trans ((if_neg (Bool.eq_false_iff.mp normal)).trans (if_neg (by rcases h with h | h <;> simp [h])))

end
end

/-- Settles O34. -/
theorem dataAndControlMessages : Obligations.DataAndControlMessages := by
  intro d m rest head request e s waits put
  have cread (s : State) : exec .cread s = event (fun d => d.onMessage (fun m => m.type == 0x20 && !m.response) Dev.ctlInTurn) s := rfl
  have cwrite (s : State) : exec .cwrite s = event (fun d => d.onMessage (fun m => m.type == 0x21 && !m.response) Dev.ctlInTurn) s := rfl
  have mark (s : State) : exec .markMsg s = event (fun d => d.onMessage (fun m => m.type == 0x30 && !m.response) Dev.ctlInTurn) s := rfl
  have dread (s : State) : exec .dread s = event (fun d => d.onMessage (fun m => m.type == 0x22 && !m.response) Dev.dreadReceived) s := rfl
  have dwrite (s : State) : exec .dwrite s = event (fun d => d.onMessage (fun m => m.type == 0x23 && !m.response) Dev.dwriteReceived) s := rfl
  have message {n : Nat} {f : InMsg → Dev → Dev} {i : Instr} {e' : Dev} (type : m.msg.type = n)
      (run : ∀ s, exec i s = event (fun d => d.onMessage (fun m => m.type == n && !m.response) f) s) (h : f m e = e') : Takes i d e' :=
    takes_message run head (by rw [type, request, beq_self_eq_true]; rfl) h
  refine ⟨fun type => ?cread, fun type => ?cwrite, fun type => ?mark, fun type => ?dread, fun type => ?dwrite⟩
  case cread =>
    exact ⟨fun h => message type cread (ctlInTurn_waits h (markFollows_of_other (by omega))),
      fun h => message type cread ((ctlInTurn_acts (.inl h)).trans (ctlMessage_cread type))⟩
  case cwrite =>
    exact ⟨fun h => message type cwrite (ctlInTurn_waits h (markFollows_of_other (by omega))),
      fun h => message type cwrite ((ctlInTurn_acts (.inl h)).trans (ctlMessage_cwrite type))⟩
  case mark =>
    exact ⟨fun h h' => message type mark (ctlInTurn_waits h h'), fun h => message type mark ((ctlInTurn_acts h).trans (ctlMessage_mark type))⟩
  case dread =>
    intro a len wellFormed aligned
    have formed {e' : Dev} (ok : wellFormed) (h : _ = e') := message type dread ((dreadReceived_formed ok).trans h)
    refine ⟨fun bad => message type dread (dreadReceived_misshapen bad), fun ok poisoned => formed ok (if_pos ?_),
      fun ok clean off => formed ok ((if_neg ?_).trans (if_pos (misaligned_iff.mpr off))),
      fun ok clean on => formed ok ((if_neg ?_).trans (if_neg fun c => misaligned_iff.mp c on))⟩
    · simpa using poisoned
    · simp [clean]
    · simp [clean]
  case dwrite =>
    intro w
    refine ⟨fun short => message type dwrite (dwriteReceived_short short), fun long =>
      ⟨fun hold => message type dwrite (dwriteReceived_safeHold long hold),
        fun normal second own => message type dwrite (dwriteReceived_secondary long normal second own), fun normal serves => ?_⟩⟩
    have served {e' : Dev} (h : _ = e') := message type dwrite ((dwriteReceived_served long normal serves).trans h)
    refine ⟨fun poisoned => served (if_pos poisoned), fun clean => ?_⟩
    intro shape
    have started {e' : Dev} (h : e.startWrite w = e') := served ((if_neg (Bool.eq_false_iff.mp clean)).trans h)
    exact ⟨fun bad => started (startWrite_misshapen bad), fun ok out => started ((startWrite_shapely ok).trans (if_pos (congrArg not out))),
      fun ok within => started ((startWrite_shapely ok).trans (if_neg (Bool.eq_false_iff.mp (congrArg not within))))⟩

/-! ### Marks and telemetry -/

theorem markTick_none {d : Dev} (h : d.obs.marks = []) : d.markTick = d := by
  rw [Dev.markTick, h]

theorem markTick_waits {d : Dev} {q : MarkReq} {ms : List MarkReq} (h : d.obs.marks = q :: ms) (no : d.dt.toNat < q.tick.toNat ∨ d.hubRuns = false) :
    d.markTick = d := by
  rw [Dev.markTick, h]
  exact if_pos (by simpa using no)

theorem markTick_comes {d : Dev} {q : MarkReq} {ms : List MarkReq} (h : d.obs.marks = q :: ms) (due : q.tick.toNat ≤ d.dt.toNat) (runs : d.hubRuns = true) :
    d.markTick =
      let num := d.rd (aDv + rDvMarkNum) + 1
      let e := (d.latchShadows.wr (aDv + rDvMarkNum) num).wr64 (aDv + rDvMarkAt) q.tick.toNat
      let e : Dev := { e with obs := { e.obs with marks := ms, waiting := [] } }
      let e := q.asked.foldl (fun e p => e.respond p.1 0x30 p.2 (markBody 0 num q.tick)) e
      let e := d.obs.waiting.foldl (fun e w => e.askMark e.dt w.1 w.2) e
      e.obs.deferred.foldl (fun e x => e.ctlInTurn x) { e with obs := { e.obs with deferred := [] } } := by
  rw [Dev.markTick, h]
  exact if_neg (by simp [due, runs])

theorem telemetry_idle {d : Dev} (h : d.hubRuns = false ∨ d.dt.toNat % 1000000 ≠ 0) (r : Readings) : d.telemetry r = d :=
  if_neg (by rcases h with h | h <;> simp [h])

theorem regRead_closed {d : Dev} {who : Requester} {a : Nat} (h : a % 4 ≠ 0 ∨ d.reaches who a = false) : d.regRead who a = (0, d) :=
  if_pos (by simpa using h)

theorem regRead_open {d : Dev} {who : Requester} {a : Nat} (aligned : a % 4 = 0) (reach : d.reaches who a = true) : d.regRead who a =
    let e := d.countUnmapped a
    let f := if a = rDvTeleSeq then e.modHolding who fun h => { h with telemetry := some (teleWords.map e.regView) } else e
    if halfAt a = 1 then (d.readFor who a, f.modHolding who fun x => { x with latch := some (a, f.sourceFor who (a + 4)) })
    else (d.readFor who a, f) :=
  if_neg (by simp [aligned, reach])

theorem countUnmapped_mapped {d : Dev} {a : Nat} (h : (blockOf a).isSome = true) : d.countUnmapped a = d := if_pos h

theorem regRead_tele {d : Dev} {who : Requester} (reach : d.reaches who rDvTeleSeq = true) : (d.regRead who rDvTeleSeq).2 =
    d.modHolding who fun h => { h with telemetry := some (teleWords.map d.regView) } := by
  have mapped : d.countUnmapped rDvTeleSeq = d := countUnmapped_mapped (by decide)
  have word : halfAt rDvTeleSeq = 0 := by decide
  rw [regRead_open (by decide) reach, mapped, word]
  rfl

/-- Settles O35. -/
theorem marksAndTelemetry : Obligations.MarksAndTelemetry := by
  intro who v d
  have tick (s : State) : exec .markTick s = event Dev.markTick s := rfl
  have ask (s : State) : exec (.dvMarkCmdRequest who) s = event (fun d => d.asked who (aDv + rDvMarkCmd) fun d => d.askMark d.dt 0 none) s := rfl
  have tele (s : State) : exec (.telemetryUpdate v) s = event (fun d => d.telemetry v) s := rfl
  have read (s : State) : exec (.dvTeleSeqRead who) s = event (fun d => (d.regRead who rDvTeleSeq).2) s := rfl
  refine ⟨fun q ms h => ⟨fun due runs => takes_of _ tick (markTick_comes h due runs), fun no => takes_of _ tick (markTick_waits h no)⟩,
    fun none_ => takes_of _ tick (markTick_none none_), takesBy_of _ ask rfl,
    fun runs due => takes_of _ tele (if_pos (by simp [runs, due])), fun no => takes_of _ tele (telemetry_idle no v), fun reach => takes_of _ read (regRead_tele reach),
    fun no => takes_of _ read (congrArg Prod.snd (regRead_closed (.inr no)))⟩

end Sys2Proof.Machine
end

section
/-! PROOF. How a requester reads and writes control space, and the clears of counters. -/

namespace Sys2Proof.Machine

/-! ### Accesses by a requester -/

section
variable {d : Dev} {who : Requester} {a : Nat} {v : W32}

/-- Whether a write is taken up at all. -/
def writable (d : Dev) (who : Requester) (a : Nat) (v : W32) : Prop := a % 4 = 0 ∧ d.reaches who a = true ∧ d.writeClosed who a v = false

theorem regWrite_closed (h : ¬ writable d who a v) : d.regWrite who a v = d := by
  refine if_pos ?_
  rw [writable, not_and_or, not_and_or] at h
  simpa [or_assoc] using h

theorem regWrite_open (h : writable d who a v) : d.regWrite who a v =
    let e := d.countUnmapped a
    if e.locked a then e.lockedWrite a v
    else match halfAt a with
      | 1 => e.modHolding who fun h => { h with low := some (a, v) }
      | 2 => (e.write64 who (a - 4) ((e.lowFor who (a - 4)).toNat + v.toNat * 2 ^ 32)).endLow who (a - 4)
      | _ => if (wordAt a).isSome then e.write32 who a v else e := by
  obtain ⟨aligned, reach, open_⟩ := h
  exact if_neg (by simp [aligned, reach, open_])

section
variable (h : writable d who a v) {e : Dev} (he : d.countUnmapped a = e)
include h he

theorem regWrite_locked (locked : e.locked a = true) : d.regWrite who a v = e.lockedWrite a v := by
  rw [regWrite_open h, he]
  exact if_pos locked

variable (unlocked : e.locked a = false)
include unlocked

theorem regWrite_low (half : halfAt a = 1) : d.regWrite who a v = e.modHolding who fun h => { h with low := some (a, v) } := by
  rw [regWrite_open h, he, half]
  exact if_neg (Bool.eq_false_iff.mp unlocked)

theorem regWrite_high (half : halfAt a = 2) : d.regWrite who a v =
    (e.write64 who (a - 4) ((e.lowFor who (a - 4)).toNat + v.toNat * 2 ^ 32)).endLow who (a - 4) := by
  rw [regWrite_open h, he, half]
  exact if_neg (Bool.eq_false_iff.mp unlocked)

theorem regWrite_word (half : halfAt a = 0) : d.regWrite who a v = if (wordAt a).isSome then e.write32 who a v else e := by
  rw [regWrite_open h, he, half]
  exact if_neg (Bool.eq_false_iff.mp unlocked)

end
end

theorem registerAccessHold : RegisterAccessHold := by
  intro who addr v d a open_ e
  have lowRead (s : State) : exec (.regLowRead who addr) s = event (fun d => if halfAt addr.toNat = 1 then (d.regRead who addr.toNat).2 else d) s := rfl
  have lowWrite (s : State) : exec (.regLowWrite who addr v) s = event (fun d => if halfAt addr.toNat = 1 then d.regWrite who addr.toNat v else d) s := rfl
  have highWrite (s : State) : exec (.regHighWrite who addr v) s = event (fun d => if halfAt addr.toNat = 2 then d.regWrite who addr.toNat v else d) s := rfl
  have write (s : State) : exec (.regWrite who addr v) s = event (fun d => d.regWrite who addr.toNat v) s := rfl
  refine ⟨fun half => ⟨fun aligned reach other => takes_of _ lowRead ((if_pos half).trans ?_),
      fun no => takes_of _ lowRead ((if_pos half).trans (congrArg Prod.snd (regRead_closed no)))⟩,
    fun ok unlocked => ⟨fun half => ?low, fun half => ?high, fun half word => takes_of _ write ((regWrite_word ok rfl unlocked half).trans (if_pos word)),
      fun half none_ => takes_of _ write ((regWrite_word ok rfl unlocked half).trans (if_neg (by rw [none_]; exact Bool.false_ne_true)))⟩,
    fun ok locked => takes_of _ write (regWrite_locked ok rfl locked), fun no => ?closed⟩
  · rw [regRead_open aligned reach, half]
    dsimp only
    rw [if_neg other]
    rfl
  case low =>
    have h := regWrite_low ok rfl unlocked half
    exact ⟨takes_of _ lowWrite ((if_pos half).trans h), takes_of _ write h⟩
  case high =>
    have h := regWrite_high ok rfl unlocked half
    exact ⟨takes_of _ highWrite ((if_pos half).trans h), takes_of _ write h⟩
  case closed =>
    have h := regWrite_closed no
    refine ⟨takes_of _ lowWrite ?_, takes_of _ highWrite ?_, takes_of _ write h⟩
    · rw [h, ite_self]
    · rw [h, ite_self]

theorem smbRead_served {d : Dev} (h : d.busServed = true) : d.smbRead =
    let a := d.obs.smbAddr
    let r := d.regRead .bus a.toNat
    { r.2 with obs := { r.2.obs with smbAnswer := some (r.1, if a.toNat % 4 = 0 then 0 else 0x6006), smbAddr := a + 4 } } := if_pos h

theorem managementBusHold : ManagementBusHold := by
  intro addr v d a r open_
  have bus (s : State) : exec (.smbWrite32 addr v) s = event (fun d => d.regWrite .bus addr.toNat v) s := rfl
  have write (s : State) : exec (.regWrite .bus addr v) s = event (fun d => d.regWrite .bus addr.toNat v) s := rfl
  have set (s : State) : exec (.smbSetAddr addr) s =
    event (fun d => if d.busServed then { d with obs := { d.obs with smbAddr := addr } } else d) s := rfl
  have read (s : State) : exec .smbRead32 s = event Dev.smbRead s := rfl
  refine ⟨fun ok unlocked half mapped word => takes_of _ bus ((regWrite_word ok (countUnmapped_mapped mapped) unlocked half).trans (if_pos word)),
    fun e same => takes_of _ bus (eq_of_takes (fun d => d.regWrite .bus addr.toNat v) write same), fun no => takes_of _ bus (regWrite_closed no),
    fun served => ⟨takes_of _ set (if_pos served), fun aligned => takes_of _ read ((smbRead_served served).trans ?_),
      fun misaligned => takes_of _ read ((smbRead_served served).trans ?_)⟩,
    fun no => ⟨takes_of _ set (if_neg (Bool.eq_false_iff.mp no)), takes_of _ read (if_neg (Bool.eq_false_iff.mp no))⟩⟩
  · simp only [show d.obs.smbAddr.toNat % 4 = 0 from aligned, if_true]
    rfl
  · simp only [regRead_closed (who := .bus) (d := d) (a := d.obs.smbAddr.toNat) (.inl misaligned),
      if_neg (show ¬ d.obs.smbAddr.toNat % 4 = 0 from misaligned)]
    rfl

/-- Settles O37. -/
theorem controlSpaceAccess : Obligations.ControlSpaceAccess := ⟨registerAccessHold, managementBusHold⟩

/-! ### Words set to 0 -/

/-- The device with some words of control space set to 0. -/
def zeroed (d : Dev) (ws : List Nat) : Dev := ws.foldl (fun d a => d.wr a 0) d

theorem zeroed_cons (d : Dev) (a : Nat) (ws : List Nat) : zeroed d (a :: ws) = zeroed (d.wr a 0) ws := rfl

theorem rd_zeroed (ws : List Nat) (d : Dev) (a : Nat) : (zeroed d ws).rd a = if a ∈ ws then 0 else d.rd a := by
  induction ws generalizing d with
  | nil => simp [zeroed]
  | cons w ws ih =>
    rw [zeroed_cons, ih, Dev.rd_wr]
    by_cases h : a = w <;> by_cases h' : a ∈ ws <;> simp [h, h']

theorem zeroed_ctl (ws : List Nat) (d : Dev) : zeroed d ws = { d with ctl := (zeroed d ws).ctl } := by
  induction ws generalizing d with
  | nil => rfl
  | cons w ws ih =>
    rw [zeroed_cons]
    exact ih (d.wr w 0)

theorem wr64_zero (d : Dev) (a : Nat) : d.wr64 a 0 = zeroed d [a, a + 4] := rfl

/-- Both words of each of some 64-bit registers of a block. -/
def wordsOf (base : Nat) (counters : List Nat) : List Nat := counters.flatMap fun o => [base + o, base + o + 4]

theorem mem_wordsOf {base a : Nat} {counters : List Nat} : a ∈ wordsOf base counters ↔ ∃ o ∈ counters, a = base + o ∨ a = base + o + 4 := by
  simp [wordsOf]

theorem zero_counters (base : Nat) (counters : List Nat) (d : Dev) :
    counters.foldl (fun d o => d.wr64 (base + o) 0) d = zeroed d (wordsOf base counters) := by
  rw [zeroed, wordsOf, List.foldl_flatMap]
  rfl

section
variable {base sticky : Nat} {counters : List Nat} (apart : ∀ o ∈ counters, sticky ≠ o ∧ sticky ≠ o + 4) (d : Dev)
include apart

theorem sticky_not_mem_wordsOf : base + sticky ∉ wordsOf base counters := by
  rw [mem_wordsOf]
  rintro ⟨o, ho, h⟩
  have := apart o ho
  omega

theorem rd_clearBlock_sticky : (d.clearBlock base sticky counters).rd (base + sticky) =
    d.rd (base + sticky) &&& ~~~ BitVec.ofNat 32 (((wordAt (base + sticky)).map fun w => w.w1c).getD 0) := by
  rw [Dev.clearBlock, Dev.clearSticky, Dev.rd_wr_self, zero_counters, rd_zeroed, if_neg (sticky_not_mem_wordsOf apart)]

omit apart in
theorem rd_clearBlock_ne {a : Nat} (h : a ≠ base + sticky) :
    (d.clearBlock base sticky counters).rd a = if a ∈ wordsOf base counters then 0 else d.rd a := by
  rw [Dev.clearBlock, Dev.clearSticky, Dev.rd_wr_ne _ _ _ _ h, zero_counters, rd_zeroed]

theorem rd64_clearBlock {o : Nat} (ho : o ∈ counters) : (d.clearBlock base sticky counters).rd64 (base + o) = 0 := by
  have := apart o ho
  rw [Dev.rd64, rd_clearBlock_ne d (by omega), rd_clearBlock_ne d (by omega), if_pos (mem_wordsOf.mpr ⟨o, ho, .inl rfl⟩),
    if_pos (mem_wordsOf.mpr ⟨o, ho, .inr rfl⟩)]
  rfl

omit apart in
theorem clearBlock_ctl : d.clearBlock base sticky counters = { d with ctl := (d.clearBlock base sticky counters).ctl } := by
  rw [Dev.clearBlock, zero_counters]
  exact congrArg (Dev.clearSticky · (base + sticky)) (zeroed_ctl _ d)

theorem clearsBlock_of {who : Requester} {clear : Nat} {i : Instr}
    (run : ∀ s, exec i s = event (fun d => d.asked who clear fun d => d.unlocked base fun d => d.clearBlock base sticky counters) s) :
    ClearsBlock who clear i base sticky counters := by
  intro d
  refine ⟨fun no => takes_of _ run ?_, fun reach unlocked => ⟨d.clearBlock base sticky counters, takes_of _ run ?_, clearBlock_ctl d,
    fun o ho => rd64_clearBlock apart d ho, rd_clearBlock_sticky apart d, fun a other none_ => (rd_clearBlock_ne d other).trans (if_neg ?_)⟩⟩
  · rw [Dev.asked, Dev.unlocked]
    rcases no with h | h <;> simp [h]
  · rw [Dev.asked, Dev.unlocked]
    simp [reach, unlocked]
  · rw [mem_wordsOf]
    rintro ⟨o, ho, h⟩
    have := none_ o ho
    omega

/-- A block that never locks needs no check. -/
theorem clearsBlock_of_hub {who : Requester} {clear : Nat} {i : Instr} (hub : ∀ d : Dev, d.locked base = false)
    (run : ∀ s, exec i s = event (fun d => d.asked who clear fun d => d.clearBlock base sticky counters) s) :
    ClearsBlock who clear i base sticky counters := by
  refine clearsBlock_of apart fun s => (run s).trans ?_
  simp [Dev.unlocked, hub]

end

theorem locked_outside {a : Nat} (h : a < 0x10000000 ∨ 0x18000000 ≤ a) (d : Dev) : d.locked a = false :=
  if_neg (by simp; omega)

theorem blockClearsHold : BlockClearsHold := by
  intro who r c k p
  have port : ∀ d : Dev, d.locked (aEt p) = false := locked_outside (.inl (by have := p.isLt; simp only [aEt]; omega))
  have pile : ∀ d : Dev, d.locked (aPl r) = false := locked_outside (.inr (by simp only [aPl]; omega))
  exact ⟨clearsBlock_of (by decide) fun _ => rfl, clearsBlock_of (by decide) fun _ => rfl, clearsBlock_of (by decide) fun _ => rfl,
    clearsBlock_of (by decide) fun _ => rfl, clearsBlock_of (by decide) fun _ => rfl, clearsBlock_of (by decide) fun _ => rfl,
    clearsBlock_of (by decide) fun _ => rfl, clearsBlock_of_hub (by decide) pile fun _ => rfl,
    clearsBlock_of_hub (by decide) (locked_outside (by decide)) fun _ => rfl, clearsBlock_of_hub (by decide) port fun _ => rfl,
    clearsBlock_of_hub (by decide) (locked_outside (by decide)) fun _ => rfl, clearsBlock_of_hub (by decide) (locked_outside (by decide)) fun _ => rfl⟩

theorem clearsWords_of {who : Requester} {clear lock : Nat} {i : Instr} {ws : List Nat}
    (run : ∀ s, exec i s = event (fun d => d.asked who clear fun d => d.unlocked lock fun d => zeroed d ws) s) : ClearsWords who clear i lock ws := by
  intro d
  refine ⟨fun no => takes_of _ run ?_, fun reach unlocked => ⟨zeroed d ws, takes_of _ run ?_, zeroed_ctl ws d, rd_zeroed ws d⟩⟩
  · rw [Dev.asked, Dev.unlocked]
    rcases no with h | h <;> simp [h]
  · rw [Dev.asked, Dev.unlocked]
    simp [reach, unlocked]

theorem flkCopy_waits {d : Dev} (h : d.flag (aHb + rHbFlkState) 0 = false ∨ ∃ t ∈ d.tasks, t.started = true) : d.flkCopy = d :=
  if_pos (by simpa using h)

theorem flkCopy_acts {d : Dev} (pending : d.flag (aHb + rHbFlkState) 0 = true) (idle : ∀ t ∈ d.tasks, t.started = false) : d.flkCopy =
    let t : Sparse W32 := (upto 1024).foldl (fun m j => sset flickerDefault m j (d.rd (aHb + rHbFlkTab + 4 * j))) []
    let e := (upto 8).foldl (fun d r => d.modRegion r fun g => { g with flk := t }) d
    let f := (e.putBit (aHb + rHbFlkState) 1 t.isEmpty).clrBit (aHb + rHbFlkState) 0
    f.setFld (aHb + rHbFlkState) 31 16 (satTo 16 (f.fld (aHb + rHbFlkState) 31 16 + 1)) :=
  if_neg (by simpa [pending] using idle)

theorem otherControlsHold : OtherControlsHold := by
  intro who r k w addr v both
  have pwin (s : State) : exec (.mtPwinCtlWrite who w v) s =
    event (fun d => d.asked who (aMt + rMtPwinCtl + 32 * w) fun d => d.pwinCtl w v) s := rfl
  refine ⟨clearsWords_of fun s => ?hub, clearsWords_of fun s => ?perf, fun record => clearsWords_of fun s => ?record,
    fun d unlocked => takesBy_unlocked _ (fun s => (rfl : exec _ s = execArClear _ _ _)) unlocked rfl,
    fun d => ⟨takesBy_of _ (fun s => (rfl : exec _ s = execHbFlkCtlCommit _ _)) rfl, fun pending idle =>
        takes_of _ (fun s => (rfl : exec _ s = execFlkTableCopy _)) (flkCopy_acts pending idle),
      fun no => takes_of _ (fun s => (rfl : exec _ s = execFlkTableCopy _)) (flkCopy_waits no),
      fun ok => takesBy_of _ pwin (if_neg ?_), fun on bad => takes_of_asked _ pwin (if_pos ?_)⟩⟩
  case hub =>
    have open_ (d : Dev) : d.locked aHb = false := locked_outside (by decide) d
    simp only [Dev.unlocked, open_]
    rfl
  case perf => rfl
  case record =>
    have run : exec (.erStateClear who addr) s = event (fun d => d.asked who addr.toNat fun d => d.unlocked addr.toNat fun d =>
      if (recordAt addr.toNat).isSome then d.erClear addr.toNat else d) s := rfl
    rw [run, record]
    rfl
  · rcases ok with h | h
    · rw [h]
      exact Bool.false_ne_true
    · rw [h, Bool.not_true, Bool.and_false]
      exact Bool.false_ne_true
  · rw [on, bad]
    rfl

/-- Settles O38. -/
theorem clearsAndTables : Obligations.ClearsAndTables := ⟨blockClearsHold, otherControlsHold⟩

end Sys2Proof.Machine
end

section
/-! PROOF. The Tether's messages and control. -/

namespace Sys2Proof.Machine

/-! ### Messages of the Tether -/

/-- A Tether message event acts on the message at the head when it came on the Tether session, whose ack follows. -/
theorem takes_tether {i : Instr} {type : Nat} {f : InMsg → Dev → Dev} {d e : Dev} {m : InMsg} {rest : List InMsg}
    (run : ∀ s, exec i s = event (fun d => d.onTetherMsg type f) s) (head : atHead d m rest) (ty : m.msg.type = type) (on : m.msg.session = tether)
    (h : f m (taken d rest) = e) : Takes i d e.settleTetherAck :=
  takes_message run head (beq_iff_eq.mpr ty) ((if_pos on).trans (congrArg Dev.settleTetherAck h))

/-- A sequenced Tether message on another session is rejected. -/
theorem takes_tether_elsewhere {i : Instr} {type : Nat} {f : InMsg → Dev → Dev} {d : Dev} {m : InMsg} {rest : List InMsg}
    (run : ∀ s, exec i s = event (fun d => d.onTetherMsg type f) s) (head : atHead d m rest) (ty : m.msg.type = type) (off : m.msg.session ≠ tether)
    (seq : mbtSequenced type = true) : Takes i d ((taken d rest).reject m.msg.session m.msg.seq 0x6002) :=
  takes_message run head (beq_iff_eq.mpr ty) ((if_neg off).trans (if_pos (by rw [ty, seq])))

theorem onBody_ok {d : Dev} {m : InMsg} {ok : Bool} {f : Dev → Dev} (h : ok = true) : d.onBody m ok f = f d := if_pos h
theorem onBody_bad {d : Dev} {m : InMsg} {ok : Bool} {f : Dev → Dev} (h : ok = false) : d.onBody m ok f = d.reject tether m.msg.seq 0x6002 :=
  if_neg (Bool.eq_false_iff.mp h)

theorem beats_iff {d : Dev} : d.beats = true ↔
    (d.ttState = 2 ∨ d.ttState = 3 ∨ (d.ttState = 4 ∧ d.twin.joined.isSome = true)) ∧ d.hubRuns = true := by
  simp [Dev.beats, or_assoc]

/-- What a JOIN says of the peer. -/
def peerOf (rd : Nat → Byte) : PeerJoin :=
  ⟨BitVec.ofNat 64 (leNat rd 96 8), BitVec.ofNat 32 (leNat rd 108 4), leNat rd 104 1, bit (leNat rd 105 1) 0, leNat rd 17 1⟩

section
variable {d : Dev} {m : InMsg}

theorem joinReceived_invalid (on : d.ttState ≠ 0) (h : ¬ (m.msg.body.length = 112 ∧ d.joinValid (bytesAt m.msg.body) = true)) : d.joinReceived m =
    (((d.sendUnseq tether 3).closeSession tether).setBit (aTt + rTtSticky) 2).modTwin fun t => { t with badRecords := t.badRecords + 1 } :=
  (if_neg on).trans (if_pos (by simpa [Classical.or_iff_not_imp_left] using h))

theorem joinReceived_valid (on : d.ttState ≠ 0) (h : m.msg.body.length = 112 ∧ d.joinValid (bytesAt m.msg.body) = true) : d.joinReceived m =
    if d.ttState = 1 || d.ttState = 4 then
      (d.modTwin fun t => { t with joined := some (peerOf (bytesAt m.msg.body)) }).tryJoin
    else d :=
  (if_neg on).trans (if_neg (by simp [h]))

theorem fwdReceived_none (h : mbtParse (m.msg.body.drop 8) = none) : d.fwdReceived m = d.reject tether m.msg.seq 0x6002 := by
  rw [Dev.fwdReceived]
  dsimp only
  rw [h]

section
variable {h : Mbt} (parsed : mbtParse (m.msg.body.drop 8) = some h)
include parsed

theorem fwdReceived_replica (second : d.isSecondary = true) : d.fwdReceived m =
    let s := leNat (bytesAt m.msg.body) 0 2
    let kind := leNat (bytesAt m.msg.body) 2 2
    let f := d.modTwin fun t => { t with pairs := if t.pairs.contains s then t.pairs else t.pairs ++ [s] }
    if kind = 0 && h.type = 0x23 && !h.response then f.fwdWrite m s h
    else if kind = 2 && (h.type = 0x12 || h.type = 0x13) then f.fwdEnded h
    else f := by
  rw [Dev.fwdReceived]
  dsimp only
  rw [parsed]
  exact if_pos second

theorem fwdReceived_primary (first : d.isSecondary = false) : d.fwdReceived m =
    if d.replicates && leNat (bytesAt m.msg.body) 2 2 = 2 && h.type = 0x23 then d.fwdRefusal (leNat (bytesAt m.msg.body) 0 2) h else d := by
  rw [Dev.fwdReceived]
  dsimp only
  rw [parsed]
  exact if_neg (Bool.eq_false_iff.mp first)

end

/-- What a good beat leaves: the offset of the twin's time, and what the beat tells. -/
def beatHeard (d : Dev) (m : InMsg) (offset : Int) : Dev :=
  let rd := bytesAt m.msg.body
  (d.wr (aTt + rTtOffset) (BitVec.ofInt 32 offset)).modTwin fun t =>
    { t with heard := true, good := if offset.natAbs ≤ 200 then t.good + 1 else 0, peerLit := bit (leNat rd 25 1) 2, peerState := leNat rd 24 1 }

theorem foreign_iff {p q r s : Prop} [Decidable p] [Decidable q] [Decidable r] [Decidable s] :
    (decide (¬ p) || decide (¬ q) || (decide (¬ r) && decide (¬ s))) = true ↔ ¬ (p ∧ q ∧ (r ∨ s)) := by
  simp only [Bool.or_eq_true, Bool.and_eq_true, decide_eq_true_eq]
  tauto

theorem beatReceived_eq {back : W64} (on : d.beats = true) : Dev.beatReceived back m d =
    let f := beatHeard d m (beatOffset (BitVec.ofNat 64 (leNat (bytesAt m.msg.body) 8 8)) m.arrived back)
    if decide (¬ m.msg.body.length = 32) || decide (¬ leNat (bytesAt m.msg.body) 0 8 = d.pairPeerSerial) ||
      (decide (¬ m.src = d.peerIp) && decide (¬ m.src = d.peerIpAlt)) then d.missBeat
    else if bit (leNat (bytesAt m.msg.body) 25 1) 1 then f.twinLost else f := by
  rw [Dev.beatReceived, on]
  rfl

theorem digestReceived_fits (h : (m.msg.body.length == 24 && leNat (bytesAt m.msg.body) 6 2 == 0) = true) : d.digestReceived m =
    let rd := bytesAt m.msg.body
    let id := BitVec.ofNat 32 (leNat rd 0 4)
    let f := d.modTask id fun t => { t with twinDigest := some (BitVec.ofNat 16 (leNat rd 4 2), BitVec.ofNat 64 (leNat rd 8 8)) }
    if f.ttPrimary then f.settleDigest id else f.settleCopy id := if_pos h

theorem digestReceived_bad (h : ¬ (m.msg.body.length == 24 && leNat (bytesAt m.msg.body) 6 2 == 0) = true) :
    d.digestReceived m = d.reject tether m.msg.seq 0x6002 := if_neg h

end

/-- Settles O39. -/
theorem tetherMessages : Obligations.TetherMessages := by
  intro d m rest back head e rd len idle refused
  have detach (s : State) : exec .detachMsg s = event (fun d => d.onTetherMsg 0x45 Dev.detached) s := rfl
  have join (s : State) : exec .joinMsg s = event (fun d => d.onTetherMsg 0x40 Dev.joinReceived) s := rfl
  have state (s : State) : exec .stateMsg s = event (fun d => d.onTetherMsg 0x44 Dev.stateReceived) s := rfl
  have task (s : State) : exec .taskMsg s = event (fun d => d.onTetherMsg 0x42 Dev.taskReceived) s := rfl
  have digest (s : State) : exec .digestMsg s = event (fun d => d.onTetherMsg 0x43 Dev.digestReceived) s := rfl
  have fwd (s : State) : exec .fwdMsg s = event (fun d => d.onTetherMsg 0x41 Dev.fwdReceived) s := rfl
  have beat (s : State) : exec (.beatMsg back) s =
    event (fun d => d.onMessage (fun m => m.type == 0x48) (onTether (Dev.beatReceived back))) s := rfl
  refine ⟨fun on => ⟨fun ty => ?detach, fun ty => ?join, fun ty => ?state, fun ty => ?task, fun ty => ?digest, fun ty => ?fwd, fun ty => ?beat⟩, ?elsewhere⟩
  case detach =>
    intro mine
    have fits (h : len = 8) : (m.msg.body.length == 8) = true := beq_iff_eq.mpr h
    refine ⟨fun h => takes_tether detach head ty on ((onBody_ok (fits h.2.1)).trans (if_pos ?_)),
      fun h eight => takes_tether detach head ty on ((onBody_ok (fits eight)).trans (if_neg ?_)),
      fun h => takes_tether detach head ty on (onBody_bad (beq_eq_false_iff_ne.mpr h))⟩
    · obtain ⟨paired, -, binding⟩ := h
      rw [Bool.and_eq_true, decide_eq_true_eq, decide_eq_true_eq]
      exact ⟨paired, binding⟩
    · rw [Bool.and_eq_true, decide_eq_true_eq, decide_eq_true_eq]
      exact fun ⟨paired, binding⟩ => h ⟨paired, eight, binding⟩
  case join =>
    intro valid p
    refine ⟨fun off => takes_tether join head ty on (if_pos off), fun paired bad => takes_tether join head ty on (joinReceived_invalid paired bad),
      fun seeks ok => takes_tether join head ty on ((joinReceived_valid (by omega) ok).trans (if_pos (by simpa using seeks))),
      fun joined ok => takes_tether join head ty on ((joinReceived_valid (by omega) ok).trans (if_neg (by simp; omega)))⟩
  case state =>
    intro fits
    have fits_iff : (m.msg.body.length == 200 && leNat (bytesAt m.msg.body) 4 4 == 0) = true ↔ fits := by
      rw [Bool.and_eq_true, beq_iff_eq, beq_iff_eq]
    exact ⟨fun h joined => takes_tether state head ty on ((onBody_ok (fits_iff.mpr h)).trans (if_pos joined)),
      fun h none_ => takes_tether state head ty on ((onBody_ok (fits_iff.mpr h)).trans (if_neg (by rw [none_]; exact Bool.false_ne_true))),
      fun h => takes_tether state head ty on (onBody_bad (Bool.eq_false_iff.mpr (mt fits_iff.mp h)))⟩
  case task =>
    intro x f g h fits
    have fits_iff : (decide (112 ≤ m.msg.body.length) && leNat (bytesAt m.msg.body) 12 4 == 0) = true ↔ fits := by
      rw [Bool.and_eq_true, decide_eq_true_eq, beq_iff_eq]
    refine ⟨fun second ok => ⟨fun mirror => ?_, fun standby => ?_⟩,
      fun first ok => takes_tether task head ty on ((onBody_ok (fits_iff.mpr ok)).trans (if_neg (Bool.eq_false_iff.mp first))),
      fun bad => takes_tether task head ty on (onBody_bad (Bool.eq_false_iff.mpr (mt fits_iff.mp bad)))⟩
    · exact takes_tether task head ty on ((onBody_ok (fits_iff.mpr ok)).trans ((if_pos second).trans (if_pos mirror)))
    · exact takes_tether task head ty on ((onBody_ok (fits_iff.mpr ok)).trans ((if_pos second).trans (if_neg standby)))
  case digest =>
    intro id f fits
    have fits_iff : (m.msg.body.length == 24 && leNat (bytesAt m.msg.body) 6 2 == 0) = true ↔ fits := by
      rw [Bool.and_eq_true, beq_iff_eq, beq_iff_eq]
    exact ⟨fun h => takes_tether digest head ty on (digestReceived_fits (fits_iff.mpr h)),
      fun h => takes_tether digest head ty on (digestReceived_bad (mt fits_iff.mp h))⟩
  case fwd =>
    intro s kind f
    refine ⟨fun none_ => takes_tether fwd head ty on (fwdReceived_none none_), fun h parsed => ⟨fun second => ?_,
      fun first rep two write => takes_tether fwd head ty on ((fwdReceived_primary parsed first).trans (if_pos ?_)),
      fun first no => takes_tether fwd head ty on ((fwdReceived_primary parsed first).trans (if_neg ?_))⟩⟩
    · have replica {e' : Dev} (hc : _ = e') := takes_tether fwd head ty on ((fwdReceived_replica parsed second).trans hc)
      refine ⟨fun zero write request => replica (if_pos ?_), fun two ends => replica ((if_neg fun c => ?_).trans (if_pos ?_)),
        fun one => replica ((if_neg fun c => ?_).trans (if_neg fun c => ?_))⟩
      · exact Bool.and_eq_true_iff.mpr ⟨Bool.and_eq_true_iff.mpr ⟨decide_eq_true zero, decide_eq_true write⟩, congrArg not request⟩
      · exact ne_of_is two (by decide) (of_decide_eq_true (Bool.and_eq_true_iff.mp (Bool.and_eq_true_iff.mp c).1).1)
      · exact Bool.and_eq_true_iff.mpr ⟨decide_eq_true two, by simpa using ends⟩
      · exact ne_of_is one (by decide) (of_decide_eq_true (Bool.and_eq_true_iff.mp (Bool.and_eq_true_iff.mp c).1).1)
      · exact ne_of_is one (by decide) (of_decide_eq_true (Bool.and_eq_true_iff.mp c).1)
    · simp only [Bool.and_eq_true, decide_eq_true_eq]
      exact ⟨⟨rep, two⟩, write⟩
    · simp only [Bool.and_eq_true, decide_eq_true_eq]
      exact fun ⟨⟨h1, h2⟩, h3⟩ => no.elim (fun h => Bool.eq_false_iff.mp h h1) fun no => no.elim (fun h => h h2) fun h => h h3
  case beat =>
    intro joined good offset f
    have heard {e' : Dev} (h : Dev.beatReceived back m e = e') : Takes (.beatMsg back) d e' :=
      takes_message beat head (beq_iff_eq.mpr ty) ((if_pos on).trans h)
    exact ⟨fun no => heard (if_pos (by rw [Bool.eq_false_iff.mpr (mt beats_iff.mp no)]; rfl)),
      fun is bad => heard ((beatReceived_eq (beats_iff.mpr is)).trans (if_pos (foreign_iff.mpr bad))),
      fun is ok lost => heard ((beatReceived_eq (beats_iff.mpr is)).trans ((if_neg fun c => foreign_iff.mp c ok).trans (if_pos lost))),
      fun is ok fine => heard ((beatReceived_eq (beats_iff.mpr is)).trans ((if_neg fun c => foreign_iff.mp c ok).trans (if_neg (Bool.eq_false_iff.mp fine))))⟩
  case elsewhere =>
    intro off i ty listed same
    simp only [List.mem_cons, Prod.mk.injEq, List.not_mem_nil, or_false] at listed
    rcases listed with ⟨rfl, rfl⟩ | ⟨rfl, rfl⟩ | ⟨rfl, rfl⟩ | ⟨rfl, rfl⟩ | ⟨rfl, rfl⟩ | ⟨rfl, rfl⟩
    · exact takes_tether_elsewhere detach head same off (by decide)
    · exact takes_tether_elsewhere join head same off (by decide)
    · exact takes_tether_elsewhere state head same off (by decide)
    · exact takes_tether_elsewhere task head same off (by decide)
    · exact takes_tether_elsewhere digest head same off (by decide)
    · exact takes_tether_elsewhere fwd head same off (by decide)

/-! ### Control of the Tether -/

section
variable {d : Dev}

theorem missBeat_eq : d.missBeat =
    let f := (d.inc64 (aTt + rTtBeatsMissed) 1).modTwin fun t => { t with missed := t.missed + 1, good := 0 }
    if 2 ≤ d.twin.missed then f.twinLost else f :=
  ite_congr (propext Nat.succ_le_succ_iff) (fun _ => rfl) fun _ => rfl

theorem beatCheck_on (h : d.beats = true ∧ d.dt.toNat % 8000 = 0) :
    d.beatCheck = if d.twin.heard then d.modTwin fun t => { t with heard := false, missed := 0 } else d.missBeat :=
  if_pos (by simp [h])

/-- Whether a seeking module may try again. -/
def seekDue (d : Dev) : Prop := ∀ t, d.twin.seekAt = some t → t.toNat + 10000000 ≤ d.dt.toNat

theorem seekDue_iff : (match d.twin.seekAt with | none => true | some t => decide (t.toNat + 10000000 ≤ d.dt.toNat)) = true ↔ seekDue d := by
  rw [seekDue]
  cases d.twin.seekAt <;> simp

theorem seekRetry_opens {p : Nat × Ip × Bool} {ps : List (Nat × Ip × Bool)} (state : d.ttState = 1) (due : seekDue d) (path : d.tetherPaths = p :: ps) :
    d.seekRetry = (d.modTwin fun t => { t with seekAt := some d.dt }).startOpen tether p.1 p.2.1 d.mbtUdp 0xFFF false := by
  refine (if_pos (Bool.and_eq_true_iff.mpr ⟨decide_eq_true state, seekDue_iff.mpr due⟩)).trans ?_
  rw [path]

theorem seekRetry_waits (h : d.ttState ≠ 1 ∨ ¬ seekDue d ∨ d.tetherPaths = []) : d.seekRetry = d := by
  by_cases may : d.ttState = 1 ∧ seekDue d
  · refine (if_pos (Bool.and_eq_true_iff.mpr ⟨decide_eq_true may.1, seekDue_iff.mpr may.2⟩)).trans ?_
    rw [(h.resolve_left (not_not.mpr may.1)).resolve_left (not_not.mpr may.2)]
  · exact if_neg fun c => may ⟨of_decide_eq_true (Bool.and_eq_true_iff.mp c).1, seekDue_iff.mp (Bool.and_eq_true_iff.mp c).2⟩

theorem ttRejoin_fenced (h : d.ttState = 5) :
    d.ttRejoin = ((if (d.session tether).state = 2 then d.sendUnseq tether 3 else d).closeSession tether).enterUnjoined := if_pos h

end

/-! #### The commit of a pairing record -/

section
variable {d : Dev}

theorem scClosed_setBit_sticky : (d.setBit (aTt + rTtSticky) 2).scClosed = d.scClosed := by
  rw [Dev.scClosed, Dev.scClosed, Dev.scBusy, Dev.scBusy, Dev.fld_congr (Dev.rd_setBit_ne d _ (aPw + rPwState) 2 (by decide)), Dev.flag, Dev.flag,
    Dev.rd_setBit_ne _ _ _ _ (by decide)]

theorem pairCommit_unsound (h : pairRecordOk d.pairStaged = false) : d.pairCommit = d.setBit (aTt + rTtSticky) 2 :=
  if_pos (by rw [h]; rfl)

variable (sound : pairRecordOk d.pairStaged = true)
include sound

theorem pairCommit_closed (closed : d.scClosed = true) : d.pairCommit = (d.setBit (aTt + rTtSticky) 2).scResult 0x9006 8 := by
  refine (if_neg (by rw [sound]; exact Bool.false_ne_true)).trans ?_
  dsimp only
  rw [if_pos (by rw [closed, Bool.true_or])]
  exact if_pos (scClosed_setBit_sticky.trans closed)

variable (free : d.scClosed = false)
include free

theorem pairCommit_spent (spent : 64 ≤ d.em 0x21 1) : d.pairCommit = (d.setBit (aTt + rTtSticky) 2).scResult 0x9001 8 := by
  refine (if_neg (by rw [sound]; exact Bool.false_ne_true)).trans ?_
  dsimp only
  rw [if_pos (by rw [decide_eq_true spent, Bool.or_true])]
  exact (if_neg (Bool.eq_false_iff.mp (scClosed_setBit_sticky.trans free))).trans (if_pos spent)

theorem pairCommit_changes (left : d.em 0x21 1 < 64) : d.pairCommit =
    if d.pairStaged = d.emBytes 0x80 96 then (d.pairApplied d.pairBinding).szDone 8
    else d.seize 8 (cellsAt 0x80 d.pairStaged ++ [(0x21, BitVec.ofNat 8 (d.em 0x21 1 + 1))]) := by
  refine (if_neg (by rw [sound]; exact Bool.false_ne_true)).trans ?_
  dsimp only
  rw [if_neg (by rw [free, decide_eq_false (Nat.not_le.mpr left)]; exact Bool.false_ne_true)]
  exact (if_neg (Bool.eq_false_iff.mp free)).trans (if_neg (Nat.not_le.mpr left))

end

/-- Settles O40. -/
theorem tetherControl : Obligations.TetherControl := by
  intro who d
  have send (s : State) : exec .beatSend s = event (fun d => if d.beats && d.dt.toNat % 8000 == 0 then d.sendBeat else d) s := rfl
  have check (s : State) : exec .beatCheck s = event Dev.beatCheck s := rfl
  have seek (s : State) : exec .seekRetry s = event Dev.seekRetry s := rfl
  have solo (s : State) : exec .soloTimeout s = event Dev.soloTimeout s := rfl
  have ready (s : State) : exec .pairReady s = event Dev.pairReady s := rfl
  have resume (s : State) : exec (.ttCmdResume who) s = event (fun d => d.asked who (aTt + rTtCmd) Dev.ttResume) s := rfl
  have rejoin (s : State) : exec (.ttCmdRejoin who) s = event (fun d => d.asked who (aTt + rTtCmd) Dev.ttRejoin) s := rfl
  have commit (s : State) : exec (.ttPairCommit who) s =
    event (fun d => d.asked who (aTt + rTtPairCommit) fun d => if anySecured who then d.pairCommit else d) s := rfl
  refine ⟨fun on due => takes_of _ send (if_pos (by simp [on, due])), fun no => takes_of _ send (if_neg ?_), ?check, ?lost, ?seek, ?solo, ?ready,
    fun fenced open_ => takesBy_of _ rejoin ((ttRejoin_fenced fenced).trans ?_), fun fenced shut => takesBy_of _ rejoin ((ttRejoin_fenced fenced).trans ?_),
    fun other => takes_of_asked _ rejoin (if_neg other), ?commit⟩
  · rcases no with h | h <;> simp [h]
  case check =>
    intro joined checks f
    have on (h : checks) : d.beats = true ∧ d.dt.toNat % 8000 = 0 := ⟨beats_iff.mpr ⟨h.1, h.2.1⟩, h.2.2⟩
    refine ⟨fun h heard => takes_of _ check ((beatCheck_on (on h)).trans (if_pos heard)), fun h silent few => takes_of _ check ((beatCheck_on (on h)).trans
        ((if_neg (Bool.eq_false_iff.mp silent)).trans (missBeat_eq.trans (if_neg (Nat.not_le.mpr few))))),
      fun h silent many => takes_of _ check ((beatCheck_on (on h)).trans
        ((if_neg (Bool.eq_false_iff.mp silent)).trans (missBeat_eq.trans (if_pos many)))),
      fun no => takes_of _ check (if_neg fun c => no ?_)⟩
    obtain ⟨beats, due⟩ := Bool.and_eq_true_iff.mp c
    exact ⟨(beats_iff.mp beats).1, (beats_iff.mp beats).2, eq_of_beq due⟩
  case lost =>
    intro lost solo
    exact ⟨fun other => if_neg other, fun was => if_pos was⟩
  case seek =>
    exact ⟨fun p ps state due path => takes_of _ seek (seekRetry_opens state due path), fun no => takes_of _ seek (seekRetry_waits no)⟩
  case solo =>
    intro ripe
    have ripe_iff : (decide (d.ttState = 1) && d.lit && d.pairServes && decide (16000000000 ≤ (d.dt - d.twin.poweredAt).toNat)) = true ↔ ripe := by
      simp only [ripe, Bool.and_eq_true, decide_eq_true_eq, and_assoc]
    exact ⟨fun h => takes_of _ solo (if_pos (ripe_iff.mpr h)), fun h => takes_of _ solo (if_neg (mt ripe_iff.mp h))⟩
  case ready =>
    intro follows entered
    have follows_iff : (d.pairMode == 3 || d.pairFresh || (!d.ttPrimary && d.twin.peerState == 3)) = true ↔ follows := by
      simp [follows, or_assoc]
    refine ⟨fun state agrees f => takes_of _ ready (if_pos ?_), fun no => takes_of _ ready (if_neg ?_),
      fun state first agrees => takesBy_of _ resume (if_pos (by simp [state, first, agrees])), fun no => takes_of_asked _ resume (if_neg ?_)⟩
    · rw [decide_eq_true state, agrees, follows_iff.mpr f]
      rfl
    · simp only [Bool.and_eq_true, decide_eq_true_eq, follows_iff]
      exact fun ⟨⟨h1, h2⟩, h3⟩ => no.elim (fun h => h h1) fun no => no.elim (fun h => Bool.eq_false_iff.mp h h2) fun h => h h3
    · rcases no with h | h | h <;> simp [h]
  · rw [if_pos open_]
  · rw [if_neg shut]
  case commit =>
    intro n
    refine ⟨fun h => takes_of_asked _ commit (if_neg (Bool.eq_false_iff.mp h)), fun h => ?_⟩
    have may {e : Dev} (hc : d.pairCommit = e) : TakesBy who (aTt + rTtPairCommit) (.ttPairCommit who) d e := takesBy_of _ commit ((if_pos h).trans hc)
    exact ⟨fun bad => may (pairCommit_unsound bad), fun sound => ⟨fun closed => may (pairCommit_closed sound closed),
      fun free spent => may (pairCommit_spent sound free spent), fun free left same => may ((pairCommit_changes sound free left).trans (if_pos same)),
      fun free left other => may ((pairCommit_changes sound free left).trans (if_neg other))⟩⟩

end Sys2Proof.Machine
end

section
/-! PROOF. Faults and their escalation, links and the hub, and taper runs. -/

namespace Sys2Proof.Machine

/-! ### Lanes and cores -/

theorem fin_ofNat_val {n : Nat} [NeZero n] (a : Fin n) : Fin.ofNat n a.val = a := Fin.ext (Nat.mod_eq_of_lt a.isLt)

/-- Enter an uncorrectable error of a core; with `up` it passes to the region. -/
def Dev.enterCore (d : Dev) (r k source unit detail : Nat) (ids : List W32) (st : Nat) (up : Bool) : Dev :=
  let d := d.enterError (aErCo r k) 16 st source unit detail (smallest ids) (up.toNat + 2 * (source == 0x12).toNat)
  if up then d.setBit (aErCo r k + rErState) 2 else d

section
variable {d : Dev} {r k source unit detail : Nat}

theorem coreFault_again (h : d.sameCycle (aErCo r k) source unit detail = true) :
    d.coreFault r k source unit detail = d.enterError (aErCo r k) 16 0x8001 source unit detail 0 0 := if_pos h

variable (first : d.sameCycle (aErCo r k) source unit detail = false)
include first

theorem coreFault_unwatched (h : d.watched r k = false) : d.coreFault r k source unit detail = d :=
  (if_neg (Bool.eq_false_iff.mp first)).trans (if_pos (by rw [h]; rfl))

variable (watched : d.watched r k = true)
include watched

theorem coreFault_watched : d.coreFault r k source unit detail =
    let ids := openIds (d.slotTasks r k)
    let now := d.dt :: d.withinDay (d.core r k).windows
    let e := d.modCore r k fun co => { co with windows := now }
    if (d.region r).recovering then d.enterCore r k source unit detail ids 0x8001 false
    else if d.handling (aErCo r k) then (d.enterCore r k source unit detail ids 0x8002 true).snuff r k true
    else if 3 ≤ now.length then (e.enterCore r k source unit detail ids 0x8002 true).snuff r k true
    else
      let f := ((e.enterCore r k source unit detail ids 0x8001 false).setHandling (aErCo r k) true).abortOnCore (Fin.ofNat 8 r) (Fin.ofNat 40 k) ids 0x8001
      let g : Dev := { f with coreOpen := sset (fun _ => none) f.coreOpen (r * 40 + k) (some f.dt) }
      match g.logicalOf r k with
      | none => g
      | some n => g.revalidateCore n (g.dt.toNat + 50000) :=
  (if_neg (Bool.eq_false_iff.mp first)).trans (if_neg (by rw [watched]; exact Bool.false_ne_true))

end

section
variable {d : Dev} {k : Ctx} {w : Fin 8} {lane : Nat}

/-- An error of a lane that passes to its core. -/
def laneEscalates (d : Dev) (k : Ctx) (w : Fin 8) (lane : Nat) : Dev :=
  let base := aErLane k.region k.core lane
  ((d.enterEscalated base 1 0x8001 0x02 0 w (d.ctx k).task.toNat).setHandling base false).coreFault k.region k.core 0x12 lane w

theorem laneError_again (h : d.sameCycle (aErLane k.region k.core lane) 0x02 0 w = true) :
    d.laneError k w lane = d.enterError (aErLane k.region k.core lane) 1 0x800A 0x02 0 w 0 0 := if_pos h

variable (first : d.sameCycle (aErLane k.region k.core lane) 0x02 0 w = false)
include first

theorem laneError_ignored (h : d.watched k.region k.core = false ∨ d.ctx? k = none) : d.laneError k w lane = d :=
  (if_neg (Bool.eq_false_iff.mp first)).trans (if_pos (by rcases h with h | h <;> simp [h]))

variable (watched : d.watched k.region k.core = true) (bound : (d.ctx? k).isSome = true)
include watched bound

theorem laneError_no_chunk (h : (d.ctx k).chunk? w = none) : d.laneError k w lane = laneEscalates d k w lane := by
  refine (if_neg (Bool.eq_false_iff.mp first)).trans ((if_neg ?_).trans ?_)
  · simpa [watched, Option.isSome_iff_ne_none] using bound
  · rw [h]
    rfl

theorem laneError_chunk {h : Chunk} (hc : (d.ctx k).chunk? w = some h) : d.laneError k w lane =
    if h.errReplayed.getLsbD lane then laneEscalates d k w lane
    else ((d.enterError (aErLane k.region k.core lane) 1 0x800A 0x02 0 w (d.ctx k).task.toNat 0).setHandling
      (aErLane k.region k.core lane) true).laneReplay k h lane := by
  refine (if_neg (Bool.eq_false_iff.mp first)).trans ((if_neg ?_).trans ?_)
  · simpa [watched, Option.isSome_iff_ne_none] using bound
  · rw [hc]
    rfl

end

theorem laneAndCoreFaults : LaneAndCoreFaults := by
  intro r c lane item unit d base ids now e enter
  have single (s : State) : exec (.laneSingleBit r c lane item) s = event (fun d => if d.watched r c
    then d.enterError (aErLane r c lane) 1 0x800A 0x01 0 item.toNat (d.runningTask r c) 0 else d) s := rfl
  have corrected (s : State) : exec (.coreSingleBit r c unit item) s =
    event (fun d => if d.watched r c then d.enterError (aErCo r c) 16 0x800A 0x10 unit.toNat item.toNat (d.runningTask r c) 0 else d) s := rfl
  have core (s : State) : exec (.coreError r c unit item) s = event (fun d => d.coreFault r c 0x11 unit.toNat item.toNat) s := rfl
  have checked (p : Bool) (s : State) : exec (.coreSelfCheckDone r c p) s = event (fun d => d.selfChecked r c p) s := rfl
  refine ⟨fun on => ⟨takes_of _ single (if_pos on), takes_of _ corrected (if_pos on)⟩, fun again => takes_of _ core (coreFault_again again),
    fun on first => ?fault, fun off => ⟨takes_of _ single (if_neg (Bool.eq_false_iff.mp off)), takes_of _ corrected (if_neg (Bool.eq_false_iff.mp off)),
      fun first => takes_of _ core (coreFault_unwatched first off)⟩, fun open_ => ?check,
    fun shut p => takes_of _ (checked p) (if_neg (Bool.eq_false_iff.mp shut)), fun k w => ?lane⟩
  case fault =>
    have fault {x : Dev} (h : _ = x) := takes_of _ core ((coreFault_watched first on).trans h)
    refine ⟨fun recovers => fault (if_pos recovers), fun serves => ?_⟩
    have serving {x : Dev} (h : _ = x) := fault ((if_neg (Bool.eq_false_iff.mp serves)).trans h)
    refine ⟨fun inside => serving (if_pos inside), fun outside many => serving ((if_neg (Bool.eq_false_iff.mp outside)).trans (if_pos many)),
      fun outside few => ?_⟩
    intro f g
    have opens {x : Dev} (h : (match g.logicalOf r c with | none => g | some n => g.revalidateCore n (g.dt.toNat + 50000)) = x) :
        Takes (.coreError r c unit item) d x := by
      refine serving ((if_neg (Bool.eq_false_iff.mp outside)).trans ((if_neg (Nat.not_le.mpr few)).trans ?_))
      rw [fin_ofNat_val, fin_ofNat_val]
      exact h
    refine ⟨fun n hn => opens ?_, fun none_ => opens ?_⟩
    · rw [hn]
    · rw [none_]
  case check =>
    intro f
    exact ⟨takes_of _ (checked true) (if_pos open_), takes_of _ (checked false) (if_pos open_)⟩
  case lane =>
    intro lb x up
    have lane_ (s : State) : exec (.laneUncorrectable k w lane) s = event (fun d => d.laneError k w lane) s := rfl
    exact ⟨fun again => takes_of _ lane_ (laneError_again again),
      fun first on bound => ⟨fun none_ => takes_of _ lane_ (laneError_no_chunk first on bound none_), fun h hc =>
        ⟨fun replayed => takes_of _ lane_ ((laneError_chunk first on bound hc).trans (if_pos replayed)),
          fun fresh => takes_of _ lane_ ((laneError_chunk first on bound hc).trans (if_neg (Bool.eq_false_iff.mp fresh)))⟩⟩,
      fun first no => takes_of _ lane_ (laneError_ignored first no)⟩

/-! ### Regions -/

section
variable {d : Dev} {r : Nat}

theorem spareTested_some {l : Nat} {s : Subst} (h : ((d.region r).substs.find? fun s => s.index == l) = some s) (passed : Bool) :
    d.spareTested r l passed =
      if passed then
        let e := d.modRegion r fun g => { g with substs := g.substs.filter fun x => x.index != l }
        let f := e.modCore r s.spare fun co => { Core.initial with windows := co.windows, fixedPipe := (e.region r).recovering }
        ((f.setFld (lmapAt r l) 5 0 s.spare).clrBit (lmapAt r l) 7).setFld (lmapAt r l) 15 8 (satTo 8 (f.fld (lmapAt r l) 15 8 + 1))
      else d.failsTest r s.spare := by
  rw [Dev.spareTested, h]

theorem spareTested_none {l : Nat} (h : ((d.region r).substs.find? fun s => s.index == l) = none) (passed : Bool) : d.spareTested r l passed = d := by
  rw [Dev.spareTested, h]

theorem unitFault_again {unit : Nat} (h : d.sameCycle (aErRn r) 0x23 unit 0 = true) :
    d.unitFault r unit = d.enterError (aErRn r) 128 0x8006 0x23 unit 0 0 0 := if_pos h

theorem unitFault_fenced {unit : Nat} (first : d.sameCycle (aErRn r) 0x23 unit 0 = false) (h : d.regionFenced r = true) : d.unitFault r unit = d :=
  (if_neg (Bool.eq_false_iff.mp first)).trans (if_pos h)

theorem sliceFault_again {q : Nat} (h : d.sameCycle (aErRn r) 0x22 q 0 = true) :
    d.sliceFault r q = d.enterError (aErRn r) 128 0x800B 0x22 q 0 0 0 := if_pos h

theorem sliceFault_off {q : Nat} (first : d.sameCycle (aErRn r) 0x22 q 0 = false)
    (h : d.regionFenced r = true ∨ d.flag (aRs r + rRnStSlice) q = true) : d.sliceFault r q = d :=
  (if_neg (Bool.eq_false_iff.mp first)).trans (if_pos (Bool.or_eq_true_iff.mpr h))

section
variable (serves : d.regionFenced r = false)
include serves

theorem unitFault_serves {unit : Nat} (first : d.sameCycle (aErRn r) 0x23 unit 0 = false) : d.unitFault r unit =
    let now := d.dt :: d.withinDay (d.region r).recoveries
    let e := d.modRegion r fun g => { g with recoveries := now }
    if d.handling (aErRn r) then d.regionGivesUp r 0x23 unit
    else if 3 ≤ now.length then e.regionGivesUp r 0x23 unit
    else
      let ids := openIds (e.tasks.filter fun t => e.usesRegion t r)
      let f := ((e.enterError (aErRn r) 128 0x8006 0x23 unit 0 (smallest ids) 0).setHandling (aErRn r) true).abortAll ids 0x8006
      let g := f.revalidate (fun t => t.inRegion r) (f.dt.toNat + 40000000)
      let h := (upto 40).foldl (fun d k => d.modCore r k fun co => { Core.initial with windows := co.windows, fixedPipe := true }) g
      let j := (upto 8).foldl (fun d c => d.modChan (8 * r + c) fun ch => { generation := ch.generation }) h
      j.modRegion r fun g => { g with shorts := [], queues := [], crossbar := [], recovering := true, fixedPipe := true } :=
  (if_neg (Bool.eq_false_iff.mp first)).trans (if_neg (Bool.eq_false_iff.mp serves))

theorem sliceFault_serves {q : Nat} (first : d.sameCycle (aErRn r) 0x22 q 0 = false) (whole : d.flag (aRs r + rRnStSlice) q = false) :
    d.sliceFault r q = if d.handling (aErRn r) then d.regionGivesUp r 0x22 q
      else
        let ids := openIds (d.tasks.filter fun t => t.inRegion r && !d.rowOnlyOf t)
        ((d.enterError (aErRn r) 128 0x800B 0x22 q 0 (smallest ids) 0).setHandling (aErRn r) true).fenceQuadrant r q ids :=
  (if_neg (Bool.eq_false_iff.mp first)).trans (if_neg (by rw [serves, whole]; exact Bool.false_ne_true))

end

theorem recovered_recovers {bad : List (Fin 40)} {passed : Bool} (h : (d.region r).recovering = true) : d.recovered r bad passed =
    let e := bad.foldl (fun d k => if d.watched r k then d.failsTest r k else d) d
    if passed then
      let f := (e.setHandling (aErRn r) false).modRegion r fun g => { g with recovering := false, fixedPipe := false }
      let g := (upto 40).foldl (fun d k => d.modCore r k fun co => { co with fixedPipe := (d.region r).substs.any fun s => s.spare == k }) f
      if (g.region r).taperDue then g.taperStart r else g
    else e.fenceRegion r 0x23 false := if_pos h

end

theorem regionFaults : RegionFaults := by
  intro r l unit q bad d n
  have tested (p : Bool) (s : State) : exec (.spareTestDone r l p) s = event (fun d => d.spareTested r l p) s := rfl
  have remap (s : State) : exec (.remapBusyEnd r l) s = event (fun d => d.remapEnd r l) s := rfl
  have unitF (s : State) : exec (.regionUnitFault r unit) s = event (fun d => d.unitFault r unit.toNat) s := rfl
  have slice (s : State) : exec (.sliceFault r q) s = event (fun d => d.sliceFault r q) s := rfl
  have fenced (s : State) : exec (.sliceFenceDone r) s =
    event (fun d => if (d.region r).recovering then d else d.setHandling (aErRn r) false) s := rfl
  have recovered (p : Bool) (s : State) : exec (.regionRecoveryDone r bad p) s = event (fun d => d.recovered r bad p) s := rfl
  refine ⟨fun s hs => ⟨takes_of _ (tested true) (spareTested_some hs true), takes_of _ (tested false) (spareTested_some hs false)⟩, fun k => rfl,
    fun none_ p => takes_of _ (tested p) (spareTested_none none_ p), ?remap, ?faults, fun serves => takes_of _ fenced (if_neg (Bool.eq_false_iff.mp serves)),
    fun recovers => takes_of _ fenced (if_pos recovers), fun recovers => ?recovery,
    fun serves p => takes_of _ (recovered p) (if_neg (Bool.eq_false_iff.mp serves))⟩
  case remap =>
    intro t past
    have past_iff : (decide (t ≠ 0) && decide (t.toNat + 2000000 ≤ d.dt.toNat) && !d.flag (lmapAt r l) 7) = true ↔ past := by
      simp only [past, Bool.and_eq_true, decide_eq_true_eq, Bool.not_eq_true', and_assoc]
    exact ⟨fun h => takes_of _ remap (if_pos (past_iff.mpr h)), fun h => takes_of _ remap (if_neg (mt past_iff.mp h))⟩
  case faults =>
    intro now e ids again sliceAgain
    refine ⟨fun h => takes_of _ unitF (unitFault_again h), fun h => takes_of _ slice (sliceFault_again h),
      fun off => ⟨fun first => takes_of _ unitF (unitFault_fenced first off), fun first => takes_of _ slice (sliceFault_off first (.inl off))⟩,
      fun serves first => ?_, fun serves first => ⟨fun off => takes_of _ slice (sliceFault_off first (.inr off)), fun whole => ?_⟩⟩
    · have fault {x : Dev} (h : _ = x) := takes_of _ unitF ((unitFault_serves serves first).trans h)
      exact ⟨fun inside => fault (if_pos inside), fun outside many => fault ((if_neg (Bool.eq_false_iff.mp outside)).trans (if_pos many)),
        fun outside few => fault ((if_neg (Bool.eq_false_iff.mp outside)).trans (if_neg (Nat.not_le.mpr few)))⟩
    · have fault {x : Dev} (h : _ = x) := takes_of _ slice ((sliceFault_serves serves first whole).trans h)
      exact ⟨fun inside => fault (if_pos inside), fun outside => fault (if_neg (Bool.eq_false_iff.mp outside))⟩
  case recovery =>
    intro e f g
    exact ⟨takes_of _ (recovered true) (if_pos recovers), takes_of _ (recovered false) ((recovered_recovers recovers).trans (if_neg Bool.false_ne_true))⟩

/-- Settles O41. -/
theorem errorsEscalate : Obligations.ErrorsEscalate := ⟨laneAndCoreFaults, regionFaults⟩

/-! ### Links and the hub -/

theorem linkFails_first {d : Dev} {k : Nat} (first : d.sameCycle aErDv 0x41 k 0 = false) (outside : d.handling aErDv = false) : d.linkFails k =
    let now := d.dt :: d.withinDay d.links.begun
    let e : Dev := { d with links := { d.links with begun := now } }
    if 3 ≤ now.length then e.safeHoldOn 0x41 k 0
    else
      let ids := openIds (e.tasks.filter fun t => t.onLink k)
      let f := ((e.enterError aErDv 256 0x8008 0x41 k 0 (smallest ids) 0).setHandling aErDv true).abortAll ids 0x8008
      { f with links := { f.links with recovering := some k } } :=
  (if_neg (Bool.eq_false_iff.mp first)).trans (if_neg (Bool.eq_false_iff.mp outside))

/-- Settles O42. -/
theorem linksAndHub : Obligations.LinksAndHub := by
  intro k unit v d now e ids again
  have fails (s : State) : exec (.linkDoubleFail k) s = event (fun d => d.linkFails k) s := rfl
  have retrain (p : Bool) (s : State) : exec (.linkRetrainDone p) s = event (fun d => if p && d.links.recovering.isSome
    then ({ d with links := { d.links with recovering := none } }).setHandling aErDv false else d) s := rfl
  refine ⟨takes_of _ (fun s => (rfl : exec _ s = execLinkReplay _ _)) rfl, fun h => takes_of _ fails (if_pos h),
    fun first inside => takes_of _ fails ((if_neg (Bool.eq_false_iff.mp first)).trans (if_pos inside)),
    fun first outside many => takes_of _ fails ((linkFails_first first outside).trans (if_pos many)),
    fun first outside few => takes_of _ fails ((linkFails_first first outside).trans (if_neg (Nat.not_le.mpr few))),
    fun h => takes_of _ (retrain true) (if_pos h), fun h => takes_of _ (retrain true) (if_neg ?_), takes_of _ (retrain false) (if_neg Bool.false_ne_true),
    takes_of _ (fun s => (rfl : exec _ s = execHubFault _ _)) rfl, takes_of _ (fun s => (rfl : exec _ s = execPllUnlock _)) rfl,
    takes_of _ (fun s => (rfl : exec _ s = execPowerStageFault _ _)) rfl, ?_⟩
  · simp [h]
  · intro listed h powered on
    refine if_neg fun c => (Bool.or_eq_true_iff.mp c).elim (Bool.eq_false_iff.mp powered) fun off => on (of_decide_eq_true off)

/-! ### Taper runs -/

section
variable {d : Dev} {r : Nat}

theorem taperStart_free (h : d.regionFenced r = false ∧ d.flag (tpState r) 7 = false) : d.taperStart r =
    if (d.region r).recovering then d.modRegion r fun g => { g with taperDue := true }
    else (d.setBit (tpState r) 7).modRegion r fun g => { g with taperPhase := 1, taperChanged := false, taperDue := false } :=
  if_neg (by rw [h.1, h.2]; exact Bool.false_ne_true)

theorem taperStart_stands (h : ¬ (d.regionFenced r = false ∧ d.flag (tpState r) 7 = false)) : d.taperStart r = d := by
  refine if_pos ?_
  rw [Bool.or_eq_true]
  cases hf : d.regionFenced r
  · exact .inr (by simpa [hf] using h)
  · exact .inl rfl

theorem taperEnd_unchanged (h : (d.region r).taperChanged = false) : d.taperEnd r =
    (((d.clrBit (tpState r) 7).inc64 (aTp r + rTpRuns) 1).wr64 (aTp r + rTpLastAt) d.dt.toNat).modRegion r
      fun x => { x with taperPhase := 0, taperChanged := false } :=
  congrArg (fun e : Dev => e.modRegion r fun x => { x with taperPhase := 0, taperChanged := false }) (if_neg (Bool.eq_false_iff.mp h))

section
variable {s : Int} {g : Nat}

theorem taperStep_raises (slow : s < d.fld (aTp r + rTpCfg) 7 0) (room : d.fld (tpState r) 3 0 < 12) : d.taperStep r s g =
    (d.setFld (tpState r) 3 0 (d.fld (tpState r) 3 0 + 1)).modRegion r fun x => { x with taperChanged := true, taperPhase := 1 } :=
  if_pos (Bool.and_eq_true_iff.mpr ⟨decide_eq_true slow, decide_eq_true room⟩)

theorem taperStep_met (met : d.fld (aTp r + rTpCfg) 7 0 ≤ s) : d.taperStep r s g = d.taperEnd r :=
  (if_neg fun c => absurd (of_decide_eq_true (Bool.and_eq_true_iff.mp c).1) (Int.not_lt.mpr met)).trans (if_pos met)

theorem taperStep_spent (slow : s < d.fld (aTp r + rTpCfg) 7 0) (spent : 12 ≤ d.fld (tpState r) 3 0) : d.taperStep r s g =
    let window := d.handling (aErRn r)
    if s < d.fld (aTp r + rTpCfg) 15 8 && d.fMhz r == 1000 then
      (if window then (d.taperEnd r).enterEscalated (aErRn r) 128 0x800C 0x25 g (unsigned 64 s) 0
       else (d.taperEnd r).enterError (aErRn r) 128 0x800C 0x25 g (unsigned 64 s) 0 0).fenceRegion r 0x25 window
    else if d.fMhz r = 1000 then ((d.setBit (tpState r) 9).taperEnd r).enterError (aErRn r) 128 0x800C 0x26 g (unsigned 64 s) 0 0
    else (d.setBit (tpState r) 8).modRegion r fun x => { x with taperPhase := 2 } :=
  (if_neg fun c => absurd (of_decide_eq_true (Bool.and_eq_true_iff.mp c).2) (Nat.not_lt.mpr spent)).trans (if_neg (Int.not_le.mpr slow))

end
end

/-- Settles O43. -/
theorem taperRuns : Obligations.TaperRuns := by
  intro who r g0 g1 g2 g3 d st started due free
  have period (s : State) : exec (.taperRun r) s = event (fun d =>
    if d.rd64 (aTp r + rTpLastAt) + 3600000000000 * d.fld (aTp r + rTpCfg) 23 16 ≤ d.dt.toNat then d.taperStart r else d) s := rfl
  have run (s : State) : exec (.tpCmdRun who r) s =
    event (fun d => d.asked who (aTp r + rTpCmd) fun d => d.unlocked (aTp r) fun d => d.taperStart r) s := rfl
  have measured (s : State) : exec (.taperMeasureDone r g0 g1 g2 g3) s = event (fun d => d.taperMeasured r [g0, g1, g2, g3]) s := rfl
  have notch (s : State) : exec (.notchEffect r) s = event (fun d => d.notchTakes r) s := rfl
  refine ⟨fun ok serves => ?starts, fun ok recovers => ?waits, fun no => ?stands, fun early => takes_of _ period (if_neg early), ?measure,
    fun pending meets => takes_of _ notch (if_pos (Bool.and_eq_true_iff.mpr ⟨pending, meets⟩)), fun no => takes_of _ notch (if_neg fun c => ?_)⟩
  case starts =>
    have h := (taperStart_free ok).trans (if_neg (Bool.eq_false_iff.mp serves))
    exact ⟨fun now => takes_of _ period ((if_pos now).trans h), fun open_ => takesBy_unlocked _ run open_ h⟩
  case waits =>
    have h := (taperStart_free ok).trans (if_pos recovers)
    exact ⟨fun now => takes_of _ period ((if_pos now).trans h), fun open_ => takesBy_unlocked _ run open_ h⟩
  case stands =>
    have h := taperStart_stands no
    exact ⟨takes_of _ period (by rw [h, ite_self]), takes_of_unlocked_same _ run h⟩
  case measure =>
    intro gs best e target floor volt ended
    refine ⟨fun runs phase => ?_, fun no => takes_of _ measured (if_neg fun c => ?_)⟩
    · have stepped {x : Dev} (h : e.taperStep r best.1 best.2 = x) : Takes (.taperMeasureDone r g0 g1 g2 g3) d x :=
        takes_of _ measured ((if_pos (Bool.and_eq_true_iff.mpr ⟨runs, bne_iff_ne.mpr phase⟩)).trans h)
      refine ⟨fun slow room => stepped (taperStep_raises slow room), fun met same => stepped ((taperStep_met met).trans (taperEnd_unchanged same)),
        fun slow spent low => stepped ((taperStep_spent slow spent).trans ((if_neg fun c => low ?_).trans (if_neg low))),
        fun slow spent full above => stepped ((taperStep_spent slow spent).trans ((if_neg fun c => ?_).trans (if_pos full))),
        fun slow spent full below outside => stepped ((taperStep_spent slow spent).trans ((if_pos ?_).trans ?_))⟩
      · exact eq_of_beq (Bool.and_eq_true_iff.mp c).2
      · exact absurd (of_decide_eq_true (Bool.and_eq_true_iff.mp c).1) (Int.not_lt.mpr above)
      · exact Bool.and_eq_true_iff.mpr ⟨decide_eq_true below, beq_iff_eq.mpr full⟩
      · rw [outside]
        rfl
    · obtain ⟨runs, phase⟩ := Bool.and_eq_true_iff.mp c
      exact no.elim (fun h => Bool.eq_false_iff.mp h runs) (bne_iff_ne.mp phase)
  · obtain ⟨pending, meets⟩ := Bool.and_eq_true_iff.mp c
    exact no.elim (fun h => Bool.eq_false_iff.mp h pending) fun h => Bool.eq_false_iff.mp h meets

end Sys2Proof.Machine
end

section
/-! PROOF. The power input, the pins and the power states. -/

namespace Sys2Proof.Machine

/-! ### The power input -/

section
variable {d : Dev} {env : ColdEnv}

theorem coldStart_off (h : d.pwState = 0) : d.coldStart env =
    if d.power.input then (d.modPower fun p => { p with cold := some env }).pinEdge 0 true else (d.modPower fun _ => {}).coldBegin env := if_pos h

theorem atStep1_iff {none_ : Bool} : (decide (d.pwState = 1) && decide (d.pwStep = 1) && none_) = true ↔
    d.pwState = 1 ∧ d.pwStep = 1 ∧ none_ = true := by
  simp only [Bool.and_eq_true, decide_eq_true_eq, and_assoc]

theorem coldInput_held {held : ColdEnv} (h : d.power.cold = some held) (state : d.pwState = 1) (step : d.pwStep = 1) : d.coldInput = d.coldBoot held := by
  rw [Dev.coldInput, h]
  exact if_pos (by rw [state, step]; rfl)

theorem coldInput_not (h : d.power.cold = none ∨ d.pwState ≠ 1 ∨ d.pwStep ≠ 1) : d.coldInput = d := by
  rw [Dev.coldInput]
  cases hc : d.power.cold with
  | none => rfl
  | some held =>
    refine if_neg fun c => ?_
    obtain ⟨state, step⟩ := Bool.and_eq_true_iff.mp c
    exact h.elim (fun h => by rw [hc] at h; cases h) fun h => h.elim (fun h => h (of_decide_eq_true state)) fun h => h (of_decide_eq_true step)

theorem inputOff_on (on : d.power.input = true) : d.inputOff =
    (if d.pastStep1 && d.pwState != 6 then d.draw.2.safeHoldOn 0x44 0 d.draw.1.toNat else d).turnOff false :=
  if_neg (by rw [on]; exact Bool.false_ne_true)

end

theorem powerInput : PowerInput := by
  intro env mv d
  have cold (s : State) : exec (.coldStart env) s = event (fun d => d.coldStart env) s := rfl
  have above (s : State) : exec .inputAbove52v s = event Dev.coldInput s := rfl
  have slow (s : State) : exec .inputRiseSlow s = event (fun d => if d.pwState = 1 && d.pwStep = 1 then d.pwSticky 3 else d) s := rfl
  have underV (s : State) : exec (.inputUndervolt mv) s = event (fun d => d.undervolt mv.toNat) s := rfl
  have overV (s : State) : exec (.inputOvervolt mv) s = event (fun d => d.overvolt mv.toNat) s := rfl
  have off (s : State) : exec .inputOff s = event Dev.inputOff s := rfl
  have range {p : Bool} {lo hi : Nat} : (p && decide (lo ≤ mv.toNat) && decide (mv.toNat ≤ hi)) = true ↔ p = true ∧ lo ≤ mv.toNat ∧ mv.toNat ≤ hi := by
    simp only [Bool.and_eq_true, decide_eq_true_eq, and_assoc]
  refine ⟨fun state no => takes_of _ cold ((coldStart_off state).trans (if_neg (Bool.eq_false_iff.mp no))),
    fun state on => takes_of _ cold ((coldStart_off state).trans (if_pos on)),
    fun state step none_ => takes_of _ cold ((if_neg (ne_of_is state (by decide))).trans (if_pos (atStep1_iff.mpr ⟨state, step, decide_eq_true none_⟩))),
    fun up no => takes_of _ cold ((if_neg up).trans (if_neg fun c => no ?_)),
    fun held h state step => takes_of _ above (coldInput_held h state step), fun no => takes_of _ above (coldInput_not no),
    fun state step => takes_of _ slow (if_pos (by rw [state, step]; rfl)), fun no => takes_of _ slow (if_neg fun c => ?_), ?volts,
    fun no => takes_of _ off (if_pos (by rw [no]; rfl)), fun on => ⟨fun no => takes_of _ off ((inputOff_on on).trans ?_),
      fun past live => takes_of _ off ((inputOff_on on).trans ?_)⟩⟩
  · obtain ⟨state, step, none_⟩ := atStep1_iff.mp c
    exact ⟨state, step, of_decide_eq_true none_⟩
  · obtain ⟨state, step⟩ := Bool.and_eq_true_iff.mp c
    exact no.elim (fun h => h (of_decide_eq_true state)) fun h => h (of_decide_eq_true step)
  case volts =>
    exact ⟨fun past lo hi => takes_of _ underV (if_pos (range.mpr ⟨past, lo, hi⟩)),
      fun early => takes_of _ underV (if_neg fun c => Bool.eq_false_iff.mp early (range.mp c).1),
      fun up lo hi => takes_of _ overV (if_pos (range.mpr ⟨decide_eq_true up, lo, hi⟩)),
      fun down => takes_of _ overV (if_neg fun c => of_decide_eq_true (p := ¬ d.pwState = 0) (range.mp c).1 down)⟩
  · refine congrArg (Dev.turnOff · false) (if_neg fun c => ?_)
    obtain ⟨past, live⟩ := Bool.and_eq_true_iff.mp c
    exact no.elim (fun h => Bool.eq_false_iff.mp h past) (bne_iff_ne.mp live)
  · exact congrArg (Dev.turnOff · false) (if_pos (Bool.and_eq_true_iff.mpr ⟨past, bne_iff_ne.mpr live⟩))

/-! ### The sideband pins -/

section
variable {d : Dev} {n : Nat} {level : Bool}

theorem pinEdge_same (h : (d.pin n).high = level ∨ d.power.input = false) : d.pinEdge n level = d :=
  if_pos (by rcases h with h | h <;> simp [h])

section
variable (new : (d.pin n).high ≠ level) (on : d.power.input = true) {e : Dev} (he : (d.modPin n fun p => { p with high := level }) = e)
include new on he

theorem pinEdge_edge : d.pinEdge n level =
    match (e.pin n).window with
    | some w => if e.dt.toNat < w.toNat then e.pinSticky 3 else e.pinTakes n level
    | none => e.pinTakes n level := by
  subst he
  exact if_neg (by simp [new, on])

theorem pinEdge_acts (h : ∀ w, (e.pin n).window = some w → w.toNat ≤ e.dt.toNat) : d.pinEdge n level = actsOn e n level := by
  rw [pinEdge_edge new on he]
  cases hw : (e.pin n).window with
  | none => rfl
  | some w => exact if_neg (Nat.not_lt.mpr (h w hw))

theorem pinEdge_deferred (h : ∃ w, (e.pin n).window = some w ∧ e.dt.toNat < w.toNat) : d.pinEdge n level = e.setBit (aPw + rPwPinSticky) 3 := by
  obtain ⟨w, hw, inside⟩ := h
  rw [pinEdge_edge new on he, hw]
  exact if_pos inside

end

theorem windowEnd_some {w : W64} (h : (d.pin n).window = some w) : d.windowEnd n =
    if d.dt.toNat < w.toNat then d
    else
      let e := d.modPin n fun p => { p with window := none }
      if (d.pin n).high = (d.pin n).acted then e else actsOn e n (d.pin n).high := by
  rw [Dev.windowEnd, h]
  rfl

theorem windowEnd_none (h : (d.pin n).window = none) : d.windowEnd n = d := by
  rw [Dev.windowEnd, h]

theorem pinStuck_pps (h : ∀ t, d.clock.pps = some t → t.toNat + 2000000000 ≤ d.dt.toNat) : d.pinStuck 3 =
    let e := ((d.setBit (aPw + rPwPinSticky) 2).clrBit (aCk + rCkState) 3).sourceLost
    if e.flag (aCk + rCkTimeCfg) 1 then e.raiseFreeAlert else e := by
  refine if_pos ?_
  cases hp : d.clock.pps with
  | none => rfl
  | some t => exact decide_eq_true (h t hp)

end

theorem sidebandPins : SidebandPins := by
  intro p d
  have ended (s : State) : exec (.pinRateWindowEnd p) s = event (fun d => d.windowEnd p) s := rfl
  have stuck (i : Fin 4) (s : State) : exec (.pinStuck i) s = event (fun d => d.pinStuck i) s := rfl
  refine ⟨fun i n level listed => ?edges, fun w hw => ?window, fun none_ => takes_of _ ended (windowEnd_none none_),
    fun low => takes_of _ (stuck 1) (if_neg (Bool.eq_false_iff.mp low)), fun low => takes_of _ (stuck 2) (if_neg (Bool.eq_false_iff.mp low)),
    fun late => takes_of _ (stuck 3) (pinStuck_pps late)⟩
  case edges =>
    have run : ∀ s, exec i s = event (fun d => d.pinEdge n level) s := by
      intro s
      simp only [List.mem_cons, Prod.mk.injEq, List.not_mem_nil, or_false] at listed
      rcases listed with ⟨rfl, rfl, rfl⟩ | ⟨rfl, rfl, rfl⟩ | ⟨rfl, rfl, rfl⟩ | ⟨rfl, rfl, rfl⟩ | ⟨rfl, rfl, rfl⟩ <;> rfl
    exact ⟨fun h => takes_of _ run (pinEdge_same h), fun new on => ⟨fun free => takes_of _ run (pinEdge_acts new on rfl free),
      fun inside => takes_of _ run (pinEdge_deferred new on rfl inside)⟩⟩
  case window =>
    intro e
    exact ⟨fun early => takes_of _ ended ((windowEnd_some hw).trans (if_pos early)),
      fun elapsed same => takes_of _ ended ((windowEnd_some hw).trans ((if_neg (Nat.not_lt.mpr elapsed)).trans (if_pos same))),
      fun elapsed other => takes_of _ ended ((windowEnd_some hw).trans ((if_neg (Nat.not_lt.mpr elapsed)).trans (if_neg other)))⟩

/-- Settles O44. -/
theorem powerAndPins : Obligations.PowerAndPins := ⟨powerInput, sidebandPins⟩

end Sys2Proof.Machine
end

section
/-! PROOF. The power manager and Pilot state (R251, R309, R320, R321, R500, R502, R503, R512, R522). -/

namespace Sys2Proof.Machine

/-! ### Alerts, temperatures and throttling -/

section
variable {d : Dev} {n layer temp : Nat}

theorem pileHot_acts (ready : d.pileReady n = true) (hot : 105 < temp) : d.pileHot n layer temp =
    let e := ((d.showTemp n layer temp).setBit (aPl n + rPlSticky) 2).draw
    let f := e.2.enterError (aErPl n) 128 (alertStatus e.1) 0x34 layer temp 0 0
    ((f.modPower fun q => { q with hotMask := q.hotMask ||| (1 <<< n) }).setBit (aPw + rPwSticky) 2).raiseFreeAlert :=
  if_pos (Bool.and_eq_true_iff.mpr ⟨ready, decide_eq_true hot⟩)

theorem pileHot_not (h : d.pileReady n = false ∨ temp ≤ 105) : d.pileHot n layer temp = d := by
  refine if_neg fun c => ?_
  obtain ⟨ready, hot⟩ := Bool.and_eq_true_iff.mp c
  exact h.elim (fun h => Bool.eq_false_iff.mp h ready) fun h => Nat.not_lt.mpr h (of_decide_eq_true hot)

theorem pileCool_acts (ready : d.pileReady n = true) (cool : temp ≤ 95) : d.pileCool n layer temp =
    ((d.showTemp n layer temp).modPower fun q => { q with hotMask := q.hotMask &&& ~~~((1 : BitVec 8) <<< n) }).ungate :=
  if_pos (Bool.and_eq_true_iff.mpr ⟨ready, decide_eq_true cool⟩)

theorem pileCool_not (h : d.pileReady n = false ∨ 95 < temp) : d.pileCool n layer temp = d := by
  refine if_neg fun c => ?_
  obtain ⟨ready, cool⟩ := Bool.and_eq_true_iff.mp c
  exact h.elim (fun h => Bool.eq_false_iff.mp h ready) fun h => Nat.not_le.mpr h (of_decide_eq_true cool)

/-- The condition of THROTTLE_GATE, as the rule states it. -/
theorem throttleGate_guard : (d.throttles n && !d.regionFenced n && d.lit && !(d.tasks.any fun t => t.started && t.inRegion n)) = true ↔
    d.throttles n = true ∧ d.regionFenced n = false ∧ d.lit = true ∧ ∀ t ∈ d.tasks, ¬ (t.started = true ∧ t.inRegion n = true) := by
  simp [and_assoc]

end

theorem powerManager : PowerManager := by
  intro p layer temp v d
  have overTdp (s : State) : exec .powerOverTdp s = event (fun d => if d.pwState = 0 then d else (d.pwSticky 0).raiseFreeAlert) s := rfl
  have hot (s : State) : exec .tempHot s = event (fun d => if d.pwState = 0 then d else (d.pwSticky 1).raiseFreeAlert) s := rfl
  have overheat (s : State) : exec (.pileOverheat p layer temp) s = event (fun d => d.pileHot p layer temp.toNat) s := rfl
  have cooled (s : State) : exec (.pileCooled p layer temp) s = event (fun d => d.pileCool p layer temp.toNat) s := rfl
  have window (s : State) : exec (.pileHotWindow p layer temp) s =
      event (fun d => if d.pileReady p then d.showTemp p layer temp.toNat else d) s := rfl
  have gate (s : State) : exec (.throttleGate p) s = event (fun d => d.throttleGate p) s := rfl
  refine ⟨fun up => ⟨takes_of _ overTdp (if_neg up), takes_of _ hot (if_neg up)⟩, fun off => ⟨takes_of _ overTdp (if_pos off), takes_of _ hot (if_pos off)⟩,
    takes_of _ (fun s => (rfl : exec _ s = execPowerOverPeak v s)) rfl, takes_of _ (fun s => (rfl : exec _ s = execTempCritical v s)) rfl,
    ?piles, ⟨fun free => takes_of _ gate (if_pos (throttleGate_guard.mpr free)), fun no => takes_of _ gate (if_neg fun c => no (throttleGate_guard.mp c))⟩,
    takes_of _ (fun s => (rfl : exec _ s = execCellLow s)) rfl⟩
  case piles =>
    intro shown e f
    exact ⟨fun ready => ⟨fun above => takes_of _ overheat (pileHot_acts ready above), fun below => takes_of _ overheat (pileHot_not (.inr below)),
        fun cool => takes_of _ cooled (pileCool_acts ready cool), fun warm => takes_of _ cooled (pileCool_not (.inr warm)), takes_of _ window (if_pos ready)⟩,
      fun asleep => ⟨takes_of _ overheat (pileHot_not (.inl asleep)), takes_of _ cooled (pileCool_not (.inl asleep)),
        takes_of _ window (if_neg (Bool.eq_false_iff.mp asleep))⟩⟩

/-! ### Pilot state -/

section
variable {d e : Dev}

theorem pilotEntry_guard : (d.lit && d.flag (aPw + rPwState) 6 && d.tasks.isEmpty) = true ↔
    d.lit = true ∧ d.flag (aPw + rPwState) 6 = true ∧ d.tasks = [] := by
  simp [and_assoc]

theorem pilotStill_guard : (decide (d.pwState = 3) && (upto 8).all fun n => (d.pile n).nmo == none) = true ↔
    d.pwState = 3 ∧ ∀ n < 8, (d.pile n).nmo = none := by
  simp [upto]

/-- The two parts of an entry: what begins it, and what completes it. -/
theorem pilotEntry_from (begins : (d.lit = true ∧ d.flag (aPw + rPwState) 6 = true ∧ d.tasks = []) → e = d.pilotBegins)
    (stays : ¬ (d.lit = true ∧ d.flag (aPw + rPwState) 6 = true ∧ d.tasks = []) → e = d) : d.pilotEntry =
    if (decide (e.pwState = 3) && (upto 8).all fun n => (e.pile n).nmo == none) = true then
      match e.pilotDone.power.wake with
      | some env => e.pilotDone.wake env
      | none => e.pilotDone
    else e := by
  have start : (if (d.lit && d.flag (aPw + rPwState) 6 && d.tasks.isEmpty) = true then d.pilotBegins else d) = e := by
    by_cases h : d.lit = true ∧ d.flag (aPw + rPwState) 6 = true ∧ d.tasks = []
    · exact (if_pos (pilotEntry_guard.mpr h)).trans (begins h).symm
    · exact (if_neg fun c => h (pilotEntry_guard.mp c)).trans (stays h).symm
  subst start
  rfl

end

theorem pilotState : PilotState := by
  intro who env d
  have pilot (s : State) : exec (.pwCmdPilot who) s = event (fun d => d.asked who (aPw + rPwCmd) Dev.askPilot) s := rfl
  have entry (s : State) : exec .pilotEntry s = event Dev.pilotEntry s := rfl
  have wake (s : State) : exec (.pwCmdWake env) s = event (fun d => d.askWake env) s := rfl
  refine ⟨fun lit => takesBy_of _ pilot (if_pos lit), fun dark => takes_of_asked _ pilot (if_neg (Bool.eq_false_iff.mp dark)), ?entry,
    fun state => takes_of _ wake (if_pos state), fun state => takes_of _ wake ((if_neg (ne_of_is state (by decide))).trans (if_pos state)),
    fun three four => takes_of _ wake ((if_neg four).trans (if_neg three))⟩
  case entry =>
    intro starts e begins stays still
    have parts := pilotEntry_from begins stays
    refine ⟨fun no => takes_of _ entry (parts.trans (if_neg fun c => no (pilotStill_guard.mp c))),
      fun ready none_ => takes_of _ entry (parts.trans ((if_pos (pilotStill_guard.mpr ready)).trans ?_)),
      fun ready w held => takes_of _ entry (parts.trans ((if_pos (pilotStill_guard.mpr ready)).trans ?_))⟩
    · rw [none_]
    · rw [held]

/-- Settles O45. -/
theorem powerStates : Obligations.PowerStates := ⟨powerManager, pilotState⟩

end Sys2Proof.Machine
end

section
/-! PROOF. The security block and the Ember store (R15 to R17, R431, R522 to R528, R530 to R537). -/

namespace Sys2Proof.Machine

/-! ### Commands of the security block -/

section
variable {d : Dev} {op : Nat} {job : SecJob}

theorem scStart_open (idle : d.scClosed = false) :
    d.scStart op job = ({ d with sec := { d.sec with job := some job } } : Dev).setScBusy true :=
  if_neg (Bool.eq_false_iff.mp idle)

theorem scStart_closed (closed : d.scClosed = true) : d.scStart op job = d.scResult 0x9006 op := if_pos closed

theorem scQuoteOp_key (key : d.flag (aSc + rScState) 2 = true) : d.scQuoteOp = d.scStart 2 (.quote d.quoteHead) :=
  if_neg fun c => Bool.eq_false_iff.mp (Bool.eq_false_of_not_eq_true' (Bool.and_eq_true_iff.mp c).2) key

theorem scQuoteOp_keyless (idle : d.scClosed = false) (none_ : d.flag (aSc + rScState) 2 = false) : d.scQuoteOp = d.scResult 0x9007 2 :=
  if_pos (Bool.and_eq_true_iff.mpr ⟨congrArg not idle, congrArg not none_⟩)

theorem scQuoteOp_closed (closed : d.scClosed = true) : d.scQuoteOp = d.scResult 0x9006 2 :=
  (if_neg (by simp [closed])).trans (scStart_closed closed)

/-- The end of a command, by the job that ran. -/
theorem scDone_job {entropy : List Byte} (h : d.sec.job = some job) : d.scDone entropy =
    let e : Dev := ({ d with sec := { d.sec with job := none } } : Dev).setScBusy false
    match (generalizing := false) job with
    | .stage a => (e.stageImage a).1.scResult (e.stageImage a).2.toNat 1
    | .quote head => (e.ctlFill (aSc + rScQuote) (head ++ fitBytes 512 (Config.identitySign head))).scResult 0 2
    | .challenge head =>
      (({ e with sec := { e.sec with challenge := true } } : Dev).ctlFill (aSc + rScChal) (head ++ fitBytes 40 entropy)).scResult 0 3 := by
  cases job <;> rw [Dev.scDone, h]

end

/-! ### Seized settings -/

section
variable {d : Dev} {op count limit : Nat} {f : Dev → Dev}

theorem szWrite_closed (closed : d.scClosed = true) : d.szWrite op count limit f = d.scResult 0x9006 op := if_pos closed

theorem szWrite_spent (idle : d.scClosed = false) (spent : limit ≤ count) : d.szWrite op count limit f = d.scResult 0x9001 op :=
  (if_neg (Bool.eq_false_iff.mp idle)).trans (if_pos spent)

theorem szWrite_open (idle : d.scClosed = false) (left : count < limit) : d.szWrite op count limit f = f d :=
  (if_neg (Bool.eq_false_iff.mp idle)).trans (if_neg (Nat.not_le.mpr left))

/-- An owner commit is unsigned when an owner is set and no owner's signature covers it. -/
theorem unsigned_iff {msg : List Byte} : (d.ownerSet && !d.ownerSigned msg) = true ↔ ¬ (d.ownerSet = false ∨ d.ownerSigned msg = true) := by
  simp

section
variable (idle : d.scClosed = false) (left : d.em 0x20 1 < 8)
include idle left

theorem ownerCommit_open : d.ownerCommit =
    if (d.ownerSet && !d.ownerSigned (d.ownerStaged ++ leBytes d.serialNo 8)) = true then d.scResult 0x9002 5
    else if d.ownerStaged = d.ownerDigest then d.szDone 5
    else d.seize 5 (cellsAt 0x40 d.ownerStaged ++ [(0x20, BitVec.ofNat 8 (d.em 0x20 1 + 1))]) := szWrite_open idle left

theorem ownerCommit_signed (signed_ : d.ownerSet = false ∨ d.ownerSigned (d.ownerStaged ++ leBytes d.serialNo 8) = true) : d.ownerCommit =
    if d.ownerStaged = d.ownerDigest then d.szDone 5
    else d.seize 5 (cellsAt 0x40 d.ownerStaged ++ [(0x20, BitVec.ofNat 8 (d.em 0x20 1 + 1))]) :=
  (ownerCommit_open idle left).trans (if_neg fun c => unsigned_iff.mp c signed_)

end

/-- An attempt to unlock consumes the challenge before anything else is looked at. -/
theorem dbgUnlock_open (idle : d.scClosed = false) {e : Dev} (he : ({ d with sec := { d.sec with challenge := false } } : Dev) = e) : d.dbgUnlock =
    e.szWrite 6 (e.em 0x22 1) 16 fun e =>
      if !e.ownerSet then e.scResult 0x9005 6
      else if !d.sec.challenge then e.scResult 0x900A 6
      else if !e.ownerSigned e.scChal then e.scResult 0x9002 6
      else if e.debugOpen then e.szDone 6
      else e.seize 6 [(0x23, 1), (0x22, BitVec.ofNat 8 (e.em 0x22 1 + 1))] := by
  subst he
  exact if_neg (Bool.eq_false_iff.mp idle)

theorem applySeized_none (h : d.sec.change = none) : d.applySeized = d := by rw [Dev.applySeized, h]

theorem applySeized_some {c : Seized} (h : d.sec.change = some c) : d.applySeized =
    let image := emberChange d.ember.store c.cells
    let e : Dev := { d with ember := { d.ember.mirror image with store := image }, sec := { d.sec with change := none } }
    (((((e.clrBit (aEm + rEmState) 3).setScBusy false).setBit (szReg c.op) 0).scResult 0 c.op).seizedEffect c.op d.pairBinding) := by
  rw [Dev.applySeized, h]
  rfl

end

/-- Settles O46. -/
theorem securityAndStore : Obligations.SecurityAndStore := by
  intro who entropy d begins
  have stage (s : State) : exec (.scStageFirmware who) s = event (fun d => d.asked who (aSc + rScCmd) Dev.scStageOp) s := rfl
  have quote (s : State) : exec (.scQuote who) s = event (fun d => d.asked who (aSc + rScCmd) Dev.scQuoteOp) s := rfl
  have challenge (s : State) : exec (.scChallenge who) s = event (fun d => d.asked who (aSc + rScCmd) Dev.scChallengeOp) s := rfl
  have relock (s : State) : exec (.scRelock who) s = event (fun d => d.asked who (aSc + rScCmd) Dev.scRelockOp) s := rfl
  have done (s : State) : exec (.scCommandDone entropy) s = event (fun d => d.scDone entropy) s := rfl
  have advance (who : Requester) (s : State) : exec (.scArbAdvance who) s =
      event (fun d => d.asked who (aSc + rScArbCmd) fun d => if isBus who then d.arbAdvance else d) s := rfl
  have commit (who : Requester) (s : State) : exec (.scOwnerCommit who) s =
      event (fun d => d.asked who (aSc + rScOwnerCommit) fun d => if isBus who then d.ownerCommit else d) s := rfl
  have unlock (who : Requester) (s : State) : exec (.scDbgUnlock who) s =
      event (fun d => d.asked who (aSc + rScDbgCmd) fun d => if isBus who then d.dbgUnlock else d) s := rfl
  have advances {e : Dev} (h : d.arbAdvance = e) : TakesBy .bus (aSc + rScArbCmd) (.scArbAdvance .bus) d e := takesBy_of _ (advance .bus) h
  have commits {e : Dev} (h : d.ownerCommit = e) : TakesBy .bus (aSc + rScOwnerCommit) (.scOwnerCommit .bus) d e := takesBy_of _ (commit .bus) h
  have unlocks {e : Dev} (h : d.dbgUnlock = e) : TakesBy .bus (aSc + rScDbgCmd) (.scDbgUnlock .bus) d e := takesBy_of _ (unlock .bus) h
  have apply_ (s : State) : exec .seizedChangeApply s = event Dev.applySeized s := rfl
  have mirror (s : State) : exec .mirrorWrite s = event Dev.mirrorWrite s := rfl
  refine ⟨fun idle => ⟨takesBy_of _ stage (scStart_open idle), fun key => takesBy_of _ quote ((scQuoteOp_key key).trans (scStart_open idle)),
      fun none_ => takesBy_of _ quote (scQuoteOp_keyless idle none_), takesBy_of _ challenge (scStart_open idle)⟩,
    fun closed => ⟨takesBy_of _ stage (scStart_closed closed), takesBy_of _ quote (scQuoteOp_closed closed),
      takesBy_of _ challenge (scStart_closed closed), unlocks (if_pos closed), advances (szWrite_closed closed), commits (szWrite_closed closed)⟩,
    takesBy_of _ relock rfl, ?done,
    fun other => ⟨takes_of_asked _ (advance who) (if_neg (Bool.eq_false_iff.mp other)), takes_of_asked _ (commit who) (if_neg (Bool.eq_false_iff.mp other)),
      takes_of_asked _ (unlock who) (if_neg (Bool.eq_false_iff.mp other))⟩,
    fun idle => ⟨fun spent => advances (szWrite_spent idle spent), fun left low => advances ((szWrite_open idle left).trans (if_pos low)),
      fun left high => advances ((szWrite_open idle left).trans (if_neg (Nat.not_lt.mpr high))), fun spent => commits (szWrite_spent idle spent),
      fun left => ?commit, ?unlock⟩,
    fun none_ => takes_of _ apply_ (applySeized_none none_), fun c h => takes_of _ apply_ (applySeized_some h),
    takesBy_of Dev.saveNet (fun s => (rfl : exec _ s = execEmSaveNet who s)) rfl, fun due => takes_of _ mirror (if_pos due),
    fun no => takes_of _ mirror (if_neg (Bool.eq_false_iff.mp no))⟩
  case done =>
    exact ⟨fun none_ => takes_of _ done (by rw [Dev.scDone, none_]), fun a h => takes_of _ done (scDone_job h),
      fun head h => takes_of _ done (scDone_job h), fun head h => takes_of _ done (scDone_job h)⟩
  case commit =>
    intro signed_
    exact ⟨fun no => commits ((ownerCommit_open idle left).trans (if_pos (unsigned_iff.mpr no))),
      fun yes same => commits ((ownerCommit_signed idle left yes).trans (if_pos same)),
      fun yes other => commits ((ownerCommit_signed idle left yes).trans (if_neg other))⟩
  case unlock =>
    intro e
    have attempt := dbgUnlock_open idle (e := e) rfl
    have not_ {b : Bool} (h : b = true) : ¬ (!b) = true := by simp [h]
    refine ⟨fun spent => unlocks (attempt.trans (szWrite_spent idle spent)), fun left => ?_⟩
    have looked := attempt.trans (szWrite_open idle left)
    refine ⟨fun none_ => unlocks (looked.trans (if_pos (congrArg not none_))), fun owner stale => unlocks (looked.trans ((if_neg (not_ owner)).trans
        (if_pos (congrArg not stale)))), fun owner fresh bad => unlocks (looked.trans ((if_neg (not_ owner)).trans ((if_neg (not_ fresh)).trans
          (if_pos (congrArg not bad))))), fun owner fresh good => ?_⟩
    have passed := looked.trans ((if_neg (not_ owner)).trans ((if_neg (not_ fresh)).trans (if_neg (not_ good))))
    exact ⟨fun open_ => unlocks (passed.trans (if_pos open_)), fun shut => unlocks (passed.trans (if_neg (Bool.eq_false_iff.mp shut)))⟩

end Sys2Proof.Machine
end

section
/-! PROOF. What the operations of slots C, V and T leave unchanged (R98, R139, R143, R151). -/

namespace Sys2Proof.Machine

/-! ### Data space, and what an operation of a context does not reach -/

/-- Data space with its marks. -/
def Dev.dataSpace (d : Dev) : Sparse Byte × Sparse Nat := (d.mem, d.marks)

/-- What an operation of slot C or V of a context leaves as it was. -/
structure Outside where
  data : Sparse Byte × Sparse Nat
  tasks : List Task
  net : Net
  ember : Ember
  sec : Sec
  power : Power
  piles : Sparse Pile
  twin : Twin
  dt : W64
  shadow : Option Plant
  others : Ctx → Option Context

/-- Of a device, what lies outside a context. -/
def Dev.outside (k : Ctx) (d : Dev) : Outside :=
  { data := d.dataSpace, tasks := d.tasks, net := d.net, ember := d.ember, sec := d.sec, power := d.power, piles := d.piles, twin := d.twin, dt := d.dt,
    shadow := d.shadow, others := fun j => if j = k then none else d.ctx? j }

theorem ctx_of_outside {k j : Ctx} {d e : Dev} (h : e.outside k = d.outside k) (hj : j ≠ k) : e.ctx j = d.ctx j := by
  have h := congrFun (congrArg Outside.others h) j
  simp only [Dev.outside, if_neg hj] at h
  rw [Dev.ctx, h, ← Dev.ctx]

theorem dataSpace_of_outside {k : Ctx} {d e : Dev} (h : e.outside k = d.outside k) : e.dataSpace = d.dataSpace := congrArg Outside.data h

/-! ### Updates that stay inside a context -/

section
variable (k : Ctx) (d : Dev)

theorem outside_modCtx (f : Context → Context) : (d.modCtx k f).outside k = d.outside k := by
  have ctxs : (fun j => if j = k then none else (d.modCtx k f).ctx? j) = fun j => if j = k then none else d.ctx? j := by
    funext j
    split
    next => rfl
    next hj => exact Dev.ctx?_modCtx_ne d k j f hj
  simp [Dev.outside, Dev.dataSpace, ctxs]

/-- A change of a core that moves no context. -/
theorem outside_modCore (n c : Nat) {f : Core → Core} (slots : ∀ co, (f co).slots = co.slots) : (d.modCore n c f).outside k = d.outside k := by
  have ctxs (j : Ctx) : (d.modCore n c f).ctx? j = d.ctx? j := by
    rw [Dev.ctx?, Dev.ctx?]
    by_cases h : j.region.val * 40 + j.core.val = n * 40 + c
    · rw [Dev.core, Dev.core, h, Dev.modCore, sget_smod_self, slots]
    · rw [Dev.core_modCore_ne _ _ _ _ _ _ h]
  simp [Dev.outside, Dev.dataSpace, ctxs]

theorem outside_inc64 (a n : Nat) : (d.inc64 a n).outside k = d.outside k := rfl

end

/-- What every step of a fold keeps, the fold keeps. -/
theorem foldl_keeps {σ α β : Type} {g : σ → β} {f : σ → α → σ} (h : ∀ s x, g (f s x) = g s) (l : List α) (s : σ) : g (l.foldl f s) = g s := by
  induction l generalizing s with
  | nil => rfl
  | cons x l ih => exact (ih (f s x)).trans (h s x)

theorem ite_keeps {σ β : Type} {g : σ → β} {c : Prop} [Decidable c] {a b s : σ} (yes : g a = g s) (no : g b = g s) :
    g (if c then a else b) = g s := by
  split
  · exact yes
  · exact no

theorem performSst_slots (ps : List StagePend) (co : Core) : (co.performSst ps).slots = co.slots := by
  refine foldl_keeps (fun co p => ite_keeps rfl ?_) ps co
  refine (foldl_keeps (g := Core.slots) (f := fun co r => Core.setTag co r 0x7FFF 15) (fun _ _ => rfl) _ _).trans ?_
  refine foldl_keeps (g := Core.slots) (fun co l => ?_) _ _
  exact ite_keeps rfl rfl

section
variable (k : Ctx) (d : Dev)

theorem outside_flushAllSst : (d.flushAllSst k).outside k = d.outside k := by
  rw [Dev.flushAllSst]
  split
  · rfl
  · exact (outside_modCtx k _ _).trans (outside_modCore k d _ _ (performSst_slots _))

theorem outside_endCtx : (d.endCtx k).outside k = d.outside k :=
  (outside_modCore k _ _ _ fun co => by split <;> rfl).trans (outside_modCtx k d _)

theorem outside_passEnd : (d.passEnd k).outside k = d.outside k := ite_keeps (outside_endCtx k d) rfl

theorem outside_closeWindow (r n : Nat) : (d.closeWindow r n).outside k = d.outside k := ite_keeps rfl rfl

theorem outside_coilUnhold (r n : Nat) : (d.coilUnhold r n).outside k = d.outside k := rfl

theorem outside_releaseAll : (d.releaseAll k).outside k = d.outside k := by
  refine (outside_modCtx k _ _).trans ?_
  refine (foldl_keeps (g := Dev.outside k) (f := fun d i => Dev.dropChan d (k.region * 8 + i) k) (fun _ _ => rfl) _ _).trans ?_
  refine (foldl_keeps (fun d x => outside_closeWindow k d _ _) _ _).trans ?_
  exact foldl_keeps (fun d x => outside_coilUnhold k d _ _) _ _

/-- The end of a bundle, of a context whose SST writes left meet no pinned row. -/
theorem outside_bundleDone (clean : (d.ctx k).ended = true →
    ((d.ctx k).ssts.any fun p => (d.core k.region k.core).anyPinned (sstRows p.addr p.mask)) = false) :
    (d.bundleDone k).outside k = d.outside k := by
  rw [Dev.bundleDone]
  split
  next ended =>
    have settled : d.settleAllSst k = d.flushAllSst k := if_neg (Bool.eq_false_iff.mp (clean ended))
    rw [settled]
    exact (outside_releaseAll k _).trans (outside_flushAllSst k d)
  next => rfl

end

/-! ### Operations that keep a part of the device -/

/-- An operation's outcome, where it completes, keeps a part of the device. -/
def OpRes.Keeps {β : Type} (g : Dev → β) (d : Dev) : OpRes → Prop
  | .ok e => g e = g d
  | _ => True

/-- A command is issued as an operation of a slot that keeps a part of the device it acts on, or is refused. -/
def OpKeeps {β : Type} (g : Dev → β) (i : Instr) (n : Nat) (k : Ctx) : Prop :=
  ∃ op : Dev → Dev → OpRes, (∀ s, exec i s = issueOp n k op s ∨ exec i s = .refused .undefinedEncoding) ∧ ∀ d0 d, (op d0 d).Keeps g d

section
variable {β : Type} {g : Dev → β} {i : Instr} {n : Nat} {k : Ctx}

theorem opKeeps_of (op : Dev → Dev → OpRes) (run : ∀ s, exec i s = issueOp n k op s) (h : ∀ d0 d, (op d0 d).Keeps g d) : OpKeeps g i n k :=
  ⟨op, fun s => .inl (run s), h⟩

theorem opKeeps_encoded {ok : Bool} (op : Dev → Dev → OpRes) (run : ∀ s, exec i s = encoded ok (issueOp n k op s))
    (h : ∀ d0 d, (op d0 d).Keeps g d) : OpKeeps g i n k := by
  refine ⟨op, fun s => ?_, h⟩
  rw [run]
  cases ok
  · exact .inr rfl
  · exact .inl rfl

theorem OpKeeps.mono {γ : Type} (f : β → γ) (h : OpKeeps g i n k) : OpKeeps (fun d => f (g d)) i n k := by
  obtain ⟨op, run, keeps⟩ := h
  refine ⟨op, run, fun d0 d => ?_⟩
  have kept := keeps d0 d
  cases hr : op d0 d with
  | ok e => rw [hr] at kept; exact congrArg f kept
  | fault => trivial
  | hold => trivial

/-- An operation that only changes its context, by what the device holds. -/
theorem outside_of_ctx (f : Dev → Context → Context) (run : ∀ s, exec i s = issueOp n k (fun _ d => .ok (d.modCtx k (f d))) s) :
    OpKeeps (Dev.outside k) i n k := opKeeps_of _ run fun _ d => outside_modCtx k d (f d)

theorem outside_of_encoded_ctx {ok : Bool} (f : Dev → Context → Context)
    (run : ∀ s, exec i s = encoded ok (issueOp n k (fun _ d => .ok (d.modCtx k (f d))) s)) :
    OpKeeps (Dev.outside k) i n k := opKeeps_encoded _ run fun _ d => outside_modCtx k d (f d)

/-- A completed operation leaves its bundle in progress on the device that its operation answered. -/
theorem keeps_of_completed {s t : State} {d0 d : Dev} (keeps : OpKeeps g i n k) (acts : s.Acts n k d0 d) (next : exec i s = .next t)
    (done : t.base.isSome = true) : ∃ e, t = s.after n k d0 e ∧ g e = g d := by
  obtain ⟨op, run, keeps⟩ := keeps
  have kept := keeps d0 d
  rcases run s with run | run <;> rw [run] at next
  · rw [issueOp_acts acts] at next
    cases next
    cases hr : op d0 d with
    | ok e => rw [hr] at kept; exact ⟨e, rfl, kept⟩
    | fault => rw [hr] at done; cases done
    | hold => rw [hr] at done; cases done
  · cases next

end

/-! ### The operations of slots C and V -/

theorem outside_of_slotCV {i : Instr} {n : Nat} {k : Ctx} (slot : slotOf i = some (n, k)) (low : n ≤ 1) : OpKeeps (Dev.outside k) i n k := by
  cases i
  case endOp => cases slot; exact opKeeps_of _ (fun _ => rfl) fun _ d => outside_endCtx _ d
  case loop => cases slot; exact opKeeps_of _ (fun _ => rfl) fun _ d => (outside_passEnd _ _).trans (outside_modCtx _ d _)
  all_goals first
    | (cases slot; done)
    | (cases slot; exact absurd low (by decide))
    | (cases slot; exact outside_of_ctx _ fun _ => rfl)
    | (cases slot; exact outside_of_encoded_ctx _ fun _ => rfl)

/-! ### The operations of slot T that write no window -/

section
variable (k : Ctx) (d : Dev)

theorem dataSpace_modCtx (f : Context → Context) : (d.modCtx k f).dataSpace = d.dataSpace := dataSpace_of_outside (outside_modCtx k d f)

theorem dataSpace_sendPlait (id : W32) (x : PlaitRec) : (d.sendPlait id x).dataSpace = d.dataSpace := rfl

theorem dataSpace_countClosure (h : Chunk) (ws : List Window) (replayed : List Nat) : (d.countClosure k h ws replayed).dataSpace = d.dataSpace :=
  ite_keeps (g := Dev.dataSpace) (ite_keeps (g := Dev.dataSpace) rfl rfl) (ite_keeps (g := Dev.dataSpace) rfl rfl)

theorem dataSpace_settleLanes (r c : Nat) (lanes : W64) : (d.settleLanes r c lanes).dataSpace = d.dataSpace := by
  refine foldl_keeps (g := Dev.dataSpace) (fun d l => ?_) _ _
  exact ite_keeps (g := Dev.dataSpace) rfl rfl

theorem dataSpace_closeChunk (h : Chunk) : (d.closeChunk k h).1.dataSpace = d.dataSpace := by
  have closed (ws : List Window) (replayed : List Nat) (f : Context → Context) :
      ((d.countClosure k h ws replayed).modCtx k f).dataSpace = d.dataSpace :=
    (dataSpace_modCtx k _ _).trans (dataSpace_countClosure k d h ws replayed)
  refine ite_keeps (g := Dev.dataSpace) ?_ ?_ <;> exact ite_keeps (g := Dev.dataSpace) (closed _ _ _) ((dataSpace_settleLanes _ _ _ _).trans (closed _ _ _))

theorem dataSpace_runLogged (w : Fin 8) (rows : List Nat) (fuel : Nat) (op : LogOp) : (d.runLogged k w rows fuel op).dataSpace = d.dataSpace := by
  induction fuel generalizing d op with
  | zero => rfl
  | succ fuel ih =>
    rw [Dev.runLogged]
    split
    next => rfl
    next h =>
      have ran (f : Context → Context) (a n : Nat) : ((d.modCtx k f).inc64 a n).dataSpace = d.dataSpace := dataSpace_modCtx k d f
      have reopened (e : Dev) (c : Bool) (x : Hold) (f : Context → Context) : ((if c then e.addHold k x else e).modCtx k f).dataSpace = e.dataSpace :=
        (dataSpace_modCtx k _ f).trans (ite_keeps (g := Dev.dataSpace) (dataSpace_modCtx k e _) rfl)
      have closed (e : Dev) (g : Chunk) (a : Nat) (c : Bool) (x : Hold) (f : Context → Context) :
          ((if c then ((e.inc64 a 1).closeChunk k g).1.addHold k x else ((e.inc64 a 1).closeChunk k g).1).modCtx k f).dataSpace = e.dataSpace :=
        (reopened _ c x f).trans (dataSpace_closeChunk k _ g)
      refine ite_keeps (g := Dev.dataSpace) ?_ (ran _ _ _)
      exact ite_keeps (g := Dev.dataSpace) ((ih _ _).trans ((closed _ _ _ _ _ _).trans (ran _ _ _))) ((closed _ _ _ _ _ _).trans (ran _ _ _))

theorem dataSpace_plaitBroadcast (n r : Nat) (o : PlaitOp) (x : LongTotal) : (d.plaitBroadcast k n r o x).dataSpace = d.dataSpace :=
  foldl_keeps (g := Dev.dataSpace) (fun d _ => dataSpace_sendPlait d _ _) _ _

theorem dataSpace_plaitReduced (n r : Nat) (o : PlaitOp) : (d.plaitReduced k n r o).dataSpace = d.dataSpace :=
  ite_keeps (g := Dev.dataSpace)
    (ite_keeps (g := Dev.dataSpace) ((dataSpace_plaitBroadcast k _ _ _ _ _).trans (dataSpace_modCtx k d _)) (dataSpace_modCtx k d _))
    ((dataSpace_sendPlait _ _ _).trans (dataSpace_modCtx k d _))

theorem dataSpace_countRound (t : LongTotal) (r : RoundResult) : (d.countRound k t r).dataSpace = d.dataSpace := by
  have counted (e : Dev) (c : Bool) (a b n : Nat) : (if c then (e.inc64 a 1).setBit b n else e).dataSpace = e.dataSpace :=
    ite_keeps (g := Dev.dataSpace) rfl rfl
  have both := (counted _ r.invalid (aCo k.region k.core + rCoInvalids) (aCo k.region k.core + rCoArithSticky) 1).trans
    (counted d r.saturated (aCo k.region k.core + rCoSaturations) (aCo k.region k.core + rCoArithSticky) 0)
  exact ite_keeps (g := Dev.dataSpace) both both

end

section
variable {k : Ctx} {d : Dev} {r : OpRes}

theorem keeps_ite {c : Prop} [Decidable c] {r' : OpRes} (yes : r.Keeps Dev.dataSpace d) (no : r'.Keeps Dev.dataSpace d) :
    (if c then r else r').Keeps Dev.dataSpace d := by
  split
  · exact yes
  · exact no

theorem keeps_stageHold {slot : Nat} {c : Context} {rows : List Nat} (h : r.Keeps Dev.dataSpace d) : (stageHold slot c rows r).Keeps Dev.dataSpace d :=
  keeps_ite trivial h

theorem keeps_arrayHold (h : r.Keeps Dev.dataSpace d) : (arrayHold d k r).Keeps Dev.dataSpace d := keeps_ite trivial h

theorem keeps_bind {f : Dev → OpRes} (h : r.Keeps Dev.dataSpace d) (hf : ∀ e, (f e).Keeps Dev.dataSpace e) : (r.bind f).Keeps Dev.dataSpace d := by
  cases r with
  | ok e =>
    have kept : e.dataSpace = d.dataSpace := h
    have further := hf e
    rw [OpRes.bind]
    cases hr : f e with
    | ok e' => rw [hr] at further; exact Eq.trans further kept
    | fault => trivial
    | hold => trivial
  | fault => trivial
  | hold => trivial

theorem keeps_guardOp {bad : Refuse} (h : r.Keeps Dev.dataSpace d) : (guardOp bad r).Keeps Dev.dataSpace d := by
  cases bad with
  | none => exact h
  | some _ => trivial

end

section
variable (k : Ctx) (d : Dev)

theorem topen_keeps (fa fb : Nat) (w : Fin 8) (t : Fin 32) (x : Nat) : (d.topen k fa fb w t x).Keeps Dev.dataSpace d :=
  keeps_stageHold (keeps_ite trivial (keeps_ite trivial (dataSpace_modCtx k d _)))

theorem tclose_keeps (w : Fin 8) : (d.tclose k w).Keeps Dev.dataSpace d := by
  rw [Dev.tclose]
  split
  · trivial
  · exact dataSpace_closeChunk k d _

theorem tensorOp_keeps (w : Fin 8) (op : Chunk → LogOp) (list : Option (Nat × Nat)) : (d.tensorOp k w op list).Keeps Dev.dataSpace d := by
  rw [Dev.tensorOp]
  split
  · trivial
  · refine keeps_arrayHold (keeps_stageHold (keeps_ite trivial (keeps_ite trivial (keeps_ite trivial (keeps_ite trivial ?_)))))
    exact (dataSpace_runLogged k _ _ _ _ _).trans (ite_keeps (g := Dev.dataSpace) rfl (dataSpace_modCtx k d _))

theorem addHold_keeps (h : Hold) : (OpRes.ok (d.addHold k h)).Keeps Dev.dataSpace d := dataSpace_modCtx k d _

theorem tdotSp_keeps (w : Fin 8) (x y : Nat) (mask : W64) : (d.tdotSp k w x y mask).Keeps Dev.dataSpace d :=
  keeps_bind (tensorOp_keeps k d _ _ _) fun e => addHold_keeps k e _

theorem tround_keeps (mode : Rnd) (vd : Fin 64) (t : Fin 32) (fo sk draw : Nat) : (d.tround k mode vd t fo sk draw).Keeps Dev.dataSpace d :=
  (dataSpace_countRound k _ _ _).trans (dataSpace_modCtx k d _)

theorem plait_keeps (d0 : Dev) (all : Bool) (td : Fin 32) : (Dev.plait d0 d k all td).Keeps Dev.dataSpace d :=
  keeps_ite trivial (ite_keeps (g := Dev.dataSpace) ((dataSpace_plaitReduced k _ _ _ _).trans (dataSpace_modCtx k _ _)) (dataSpace_modCtx k _ _))

theorem tcow_keeps (w : Nat) (sd va sa : Fin 64) (mk : Fin 16) : (d.tcow k w sd va sa mk).Keeps Dev.dataSpace d :=
  keeps_bind (keeps_ite trivial (keeps_guardOp rfl)) fun e => dataSpace_modCtx k e _

theorem ply_keeps (sd sa sb : Fin 64) (two : Bool) (lim : Nat) (f : (Nat → Byte) → Nat → Nat → Nat → PlyOut) :
    (d.ply k sd sa sb two lim f).Keeps Dev.dataSpace d :=
  keeps_ite trivial (keeps_stageHold (keeps_ite trivial (keeps_ite trivial ((dataSpace_modCtx k _ _).trans (dataSpace_modCtx k _ _)))))

theorem tmode_keeps (sd sa : Fin 64) : (d.tmode k sd sa).Keeps Dev.dataSpace d :=
  keeps_stageHold (keeps_ite trivial (dataSpace_modCtx k _ _))

end

theorem dataSpace_of_slotT {i : Instr} {k : Ctx} (slot : slotOf i = some (2, k)) (plain : writesWindow i = false) : OpKeeps Dev.dataSpace i 2 k := by
  cases i
  case topen => cases slot; exact opKeeps_encoded _ (fun _ => rfl) fun _ d => topen_keeps _ d _ _ _ _ _
  case tclose => cases slot; exact opKeeps_of _ (fun _ => rfl) fun _ d => tclose_keeps _ d _
  case tdot => cases slot; exact opKeeps_of _ (fun _ => rfl) fun _ d => tensorOp_keeps _ d _ _ _
  case tdotSp => cases slot; exact opKeeps_of _ (fun _ => rfl) fun _ d => tdotSp_keeps _ d _ _ _ _
  case tpre => cases slot; exact opKeeps_of _ (fun _ => rfl) fun _ d => tensorOp_keeps _ d _ _ _
  case troundNe => cases slot; exact opKeeps_encoded _ (fun _ => rfl) fun _ d => tround_keeps _ d _ _ _ _ _ _
  case troundRz => cases slot; exact opKeeps_encoded _ (fun _ => rfl) fun _ d => tround_keeps _ d _ _ _ _ _ _
  case troundSr => cases slot; exact opKeeps_encoded _ (fun _ => rfl) fun _ d => tround_keeps _ d _ _ _ _ _ _
  case plait => cases slot; exact opKeeps_of _ (fun _ => rfl) fun d0 d => plait_keeps _ d d0 _ _
  case plaitAll => cases slot; exact opKeeps_of _ (fun _ => rfl) fun d0 d => plait_keeps _ d d0 _ _
  case tcow => cases slot; exact opKeeps_encoded _ (fun _ => rfl) fun _ d => tcow_keeps _ d _ _ _ _ _
  case tcow4 => cases slot; exact opKeeps_of _ (fun _ => rfl) fun _ d => tcow_keeps _ d _ _ _ _ _
  case tcow6 => cases slot; exact opKeeps_of _ (fun _ => rfl) fun _ d => tcow_keeps _ d _ _ _ _ _
  case plyAnd => cases slot; exact opKeeps_of _ (fun _ => rfl) fun _ d => ply_keeps _ d _ _ _ _ _ _
  case plyPop => cases slot; exact opKeeps_of _ (fun _ => rfl) fun _ d => ply_keeps _ d _ _ _ _ _ _
  case plyCmp => cases slot; exact opKeeps_of _ (fun _ => rfl) fun _ d => ply_keeps _ d _ _ _ _ _ _
  case tmode => cases slot; exact opKeeps_of _ (fun _ => rfl) fun _ d => tmode_keeps _ d _ _
  all_goals first
    | (cases slot; done)
    | (cases plain; done)
    | (cases slot; exact (outside_of_ctx _ fun _ => rfl).mono Outside.data)
    | (cases slot; exact (outside_of_encoded_ctx _ fun _ => rfl).mono Outside.data)

/-! ### The frame of a completed operation -/

/-- What a completed operation keeps of its device is kept when the end of its bundle keeps it too. -/
theorem completed_keeps {β : Type} {g : Dev → β} {i : Instr} {n : Nat} {k : Ctx} {s t : State} {d0 d : Dev} (keeps : OpKeeps g i n k)
    (coarser : ∀ e e' : Dev, e.outside k = e'.outside k → g e = g e') (acts : s.Acts n k d0 d) (next : exec i s = .next t)
    (done : t.base.isSome = true) (clean : endsClean t k) : g t.dev = g d := by
  obtain ⟨e, rfl, kept⟩ := keeps_of_completed keeps acts next done
  exact (coarser _ _ (outside_bundleDone k e (clean _ rfl))).trans kept

theorem dataSpace_of_slot {i : Instr} {n : Nat} {k : Ctx} (slot : slotOf i = some (n, k)) (low : n ≤ 2) (plain : writesWindow i = false) :
    OpKeeps Dev.dataSpace i n k := by
  rcases Nat.lt_or_eq_of_le low with low | rfl
  · exact (outside_of_slotCV slot (Nat.le_of_lt_succ low)).mono Outside.data
  · exact dataSpace_of_slotT slot plain

/-- Settles O51: an operation of slot C or V only changes its context and the core it runs on, and of those of slot T only the writers of windows
reach data space. -/
theorem operationFrames : Obligations.OperationFrames := by
  intro i n k s t d0 d slot acts next done clean
  refine ⟨fun low plain => ?_, fun low => ?_⟩
  · have kept := completed_keeps (dataSpace_of_slot slot low plain) (fun _ _ => dataSpace_of_outside) acts next done clean
    have mem : t.dev.mem = d.mem := congrArg Prod.fst kept
    exact ⟨fun a => by rw [Dev.byte, mem, ← Dev.byte], congrArg Prod.snd kept⟩
  · have kept := completed_keeps (outside_of_slotCV slot low) (fun _ _ h => h) acts next done clean
    exact ⟨fun j hj => ctx_of_outside kept hj, congrArg Outside.tasks kept, congrArg Outside.net kept, congrArg Outside.ember kept,
      congrArg Outside.sec kept, congrArg Outside.power kept, congrArg Outside.piles kept, congrArg Outside.twin kept, congrArg Outside.dt kept,
      congrArg Outside.shadow kept⟩

end Sys2Proof.Machine
end
